-- ==== Sys2Proof/Word.lean ====
section
/-! DEFINITION. The byte and the field word of the NR-620, and the table type its fixed arrays use. -/

namespace Sys2Proof

/-- One byte of a frame or of a store page. -/
abbrev Byte := BitVec 8

/-- One 16-bit field word of a table, an order or a table access (R198). -/
abbrev Word := BitVec 16

/-- A fixed array given by its entries (the tables and unit arrays of the part). -/
def tabulate {α : Type} {n : Nat} (f : Fin n → α) : Vector α n := ⟨⟨List.ofFn f⟩, by simp⟩

@[simp] theorem getElem_tabulate {α : Type} {n : Nat} (f : Fin n → α) (i : Nat) (h : i < n) :
    (tabulate f)[i] = f ⟨i, h⟩ := by
  simp [tabulate]

end Sys2Proof
end

