-- ==== Sys2Proof/Syntax.lean ====
section
/-! DEFINITION. The commands of the NR-620: one constructor per row of spec/opcode_table.json, with the
operands that the world or the requesting frame brings. -/

namespace Sys2Proof

/-- The two line ports (R103). -/
inductive Port where
  /-- port A, facing portal A -/
  | a
  /-- port B, facing portal B -/
  | b
  deriving DecidableEq, Repr

/-- What the Access Unit knows of the frame a request came in (R187, R199): the port it arrived on, its
source and tag, and whether it was addressed to the node's own address (then it is answered) or to a
group of the node or to all nodes (then it is not). -/
structure Request where
  port : Port
  source : Byte
  tag : Byte
  own : Bool
  deriving DecidableEq, Repr

/-- A command: an event of the part's steps or a request handed to its Access Unit. -/
inductive Instr where
  /-- POWER_ON_RESET (R197): the levels of ADR7 to ADR0 and of P63 to P0 at the end of the reset. -/
  | powerOnReset (adr : Byte) (pins : BitVec 64)
  /-- IMAGE_REPLAY (R175): the next image page. -/
  | imageReplay
  /-- UNITS_START (R197). -/
  | unitsStart
  /-- FRAME_ARRIVAL (R105): the bytes of a whole frame, check included. -/
  | frameArrival (port : Port) (bytes : List Byte)
  /-- LINK_TIMER_EXPIRY (R103). -/
  | linkTimerExpiry (port : Port)
  /-- TRANSMIT_END (R113). -/
  | transmitEnd (port : Port)
  /-- MARK_TIMER_EXPIRY (R116). -/
  | markTimerExpiry
  /-- LOCAL_CYCLE_TIMER_EXPIRY (R116). -/
  | localCycleTimerExpiry
  /-- SAMPLE_EVENT (R14): the raw value the conversion of AINn gives, 0 to 4095. -/
  | sampleEvent (channel : Fin 12) (raw : BitVec 12)
  /-- WARM_UP_END (R7). -/
  | warmUpEnd (channel : Fin 12)
  /-- ERASE_SUSPEND (R173). -/
  | eraseSuspend
  /-- FETCH_COMPLETION (R144): the end of the slot read under way. -/
  | fetchCompletion
  /-- HOLD_TIMER_EXPIRY (R148): the hold timer of an Active Table slot. -/
  | holdTimerExpiry (slot : Fin 4)
  /-- RAMP_TICK (R49). -/
  | rampTick
  /-- START_TIMER_EXPIRY (R52). -/
  | startTimerExpiry (fan : Fin 6)
  /-- CONFIRM_LOSS_TIMER_EXPIRY (R55). -/
  | confirmLossTimerExpiry (fan : Fin 6)
  /-- COAST_TIMER_EXPIRY (R57). -/
  | coastTimerExpiry (fan : Fin 6)
  /-- TRAVEL_TIMER_EXPIRY (R91). -/
  | travelTimerExpiry (door : Fin 6)
  /-- DWELL_EXPIRY (R92). -/
  | dwellExpiry (door : Fin 6)
  /-- PIN_CHANGE (R181): the level the pin takes from outside, true for high. -/
  | pinChange (point : Fin 64) (high : Bool)
  /-- POINT_TICK (R181). -/
  | pointTick
  /-- FILTER_ACCEPT (R181). -/
  | filterAccept (point : Fin 64)
  /-- SMON_CHANGE (R171): true when the store supply is within limit. -/
  | smonChange (withinLimit : Bool)
  /-- ERASE_PULSE_END (R169): for each byte of the page in turn, the bits the pulse's end finds set
  besides those that were set before; bytes past the list are FFh, so `[]` is a blank page. -/
  | erasePulseEnd (cells : List Byte)
  /-- PROGRAM_COMPLETION (R170). -/
  | programCompletion
  /-- FAN_SET (R71). -/
  | fanSet (req : Request) (fan direction speed rate precedence : Word)
  /-- FAN_RELEASE (R72). -/
  | fanRelease (req : Request) (fan : Word)
  /-- FAN_RESET (R58). -/
  | fanReset (req : Request) (fan : Word)
  /-- DOOR_OPEN (R98). -/
  | doorOpen (req : Request) (doors : Word)
  /-- DOOR_HOLD (R89). -/
  | doorHold (req : Request) (doors : Word)
  /-- DOOR_FREE (R89). -/
  | doorFree (req : Request) (doors : Word)
  /-- DOOR_CLOSE (R98). -/
  | doorClose (req : Request) (doors : Word)
  /-- DOOR_SERVICE_OFF (R97). -/
  | doorServiceOff (req : Request) (doors : Word)
  /-- DOOR_SERVICE_ON (R97). -/
  | doorServiceOn (req : Request) (doors : Word)
  /-- INCIDENT_ON (R154). -/
  | incidentOn (req : Request)
  /-- INCIDENT_CLEAR (R155). -/
  | incidentClear (req : Request)
  /-- RESPONSE_RUN (R152). -/
  | responseRun (req : Request) (number : Word)
  /-- RESPONSE_CANCEL (R152). -/
  | responseCancel (req : Request) (number : Word)
  /-- RESTART (R189). -/
  | restart (req : Request)
  /-- UNKNOWN_ORDER (R188): the order kind received, or none for a payload under two bytes. -/
  | unknownOrder (req : Request) (kind : Option Word)
  /-- READ_ENTRIES (R191): parameters A (table id), B (first entry) and C (count). -/
  | readEntries (req : Request) (table first count : Word)
  /-- WRITE_ENTRIES (R192): parameters A, B and C, and the bytes after the head. -/
  | writeEntries (req : Request) (table first count : Word) (data : List Byte)
  /-- POINT_VALUE_READ (R183): parameter A (not read), first point, count. -/
  | pointValueRead (req : Request) (a first count : Word)
  /-- POINT_VALUE_WRITE (R183): parameter A (not read), first point, count, bytes after the head. -/
  | pointValueWrite (req : Request) (a first count : Word) (data : List Byte)
  /-- EVENT_CLEAR (R195): the mask of kinds 0 to 15 and of kinds 16 to 23. -/
  | eventClear (req : Request) (maskLow maskHigh : Word)
  /-- EVENT_SET (R195): the mask of kinds 0 to 15 and of kinds 16 to 23. -/
  | eventSet (req : Request) (maskLow maskHigh : Word)
  /-- STORE_STATUS (R165): parameters A and B (not read, echoed). -/
  | storeStatus (req : Request) (a b : Word)
  /-- STORE_CLEAR_STATUS (R165): parameters A and B (not read, echoed). -/
  | storeClearStatus (req : Request) (a b : Word)
  /-- STORE_READ (R165): page, offset, length. -/
  | storeRead (req : Request) (page offset length : Word)
  /-- STAGING_WRITE (R164): parameter A (not read), offset, the bytes to write. -/
  | stagingWrite (req : Request) (a offset : Word) (data : List Byte)
  /-- STAGING_READ (R164): parameter A (not read), offset, length. -/
  | stagingRead (req : Request) (a offset length : Word)
  /-- ERASE_SETUP (R166): page, parameter B (not read). -/
  | eraseSetup (req : Request) (page b : Word)
  /-- PROGRAM_SETUP (R166): page, parameter B (not read). -/
  | programSetup (req : Request) (page b : Word)
  /-- STORE_CONFIRM (R167): page, parameter B (not read). -/
  | storeConfirm (req : Request) (page b : Word)
  /-- UNKNOWN_OPERATION (R190): the head words received, in order (fewer than four when short). -/
  | unknownOperation (req : Request) (head : List Word)
  /-- DOOR_TICK (R86). -/
  | doorTick
  /-- SAMPLE_TICK (R13). -/
  | sampleTick
  /-- FRAME_CUT_OFF (R105): a frame that ran on past 130 bytes at a port. -/
  | frameCutOff (port : Port)
  deriving DecidableEq, Repr

end Sys2Proof
end

