-- ==== Sys2Proof/Decode.lean ====
section
/-! DEFINITION. The command a table word spells.  spec/opcode_table.json gives no bits to any of its rows: a command
is an event of the part's steps or a request in a frame, and frames are decoded at their arrival
(`Sys2Proof.Machine.State.handOrder` and `handAccess`). -/

namespace Sys2Proof

/-- The command that a word spells by the table's bits: no row gives bits. -/
def decodeTableWord (_nbits _w : Nat) : Option Instr := none

end Sys2Proof
end

