-- ==== Sys2Proof/Config.lean ====
section
/-! DEFINITION. The free values: what the manual leaves open and the machine goes on with.
None has a body, so no proof can see its value. -/

namespace Sys2Proof.Config

/-- A byte of a store page that an erase pulse, an abort or a reset left at any value
(R162, R169, R171, R176).  Applied to `State.freeCount` and on (assumption 1). -/
opaque freeByte : Nat → BitVec 8

/-- The order kind an ORDER REPLY echoes when the order's payload held no word to echo
(R199 gives such an order no kind).  Applied to nothing but the reply's tag (assumption 2). -/
opaque missingOrderKind : BitVec 8 → BitVec 16

/-- What an ACCESS REPLY holds for the operation, A and B (numbered 0, 1, 2) that a payload shorter
than the head did not carry (R199, assumption 3).  Applied to the number and the request's tag. -/
opaque missingHeadWord : Nat → BitVec 8 → BitVec 16

/-- The high byte of word 0 of an ACCESS REPLY for an operation above 255, which one byte cannot hold
(R199, assumption 4).  Applied to the operation. -/
opaque wideOperationByte : BitVec 16 → BitVec 8

/-- Word 3 of an ACCESS REPLY whose data are neither entries, points nor bytes: STORE STATUS, EVENT
CLEAR and EVENT SET (R199, assumption 5).  Applied to the operation code. -/
opaque wordReplyCount : BitVec 16 → BitVec 16

/-- Word 3 of an ACCESS REPLY with BAD_ENTRY to an operation that names no entry and no point:
STORE READ, STAGING READ and STAGING WRITE (R199, assumption 6).  Applied to the operation code. -/
opaque badLengthIndex : BitVec 16 → BitVec 16

/-- Word 3 of an ACCESS REPLY with BAD_ENTRY whose index lies above 65535, which one word cannot hold
(R199, assumption 16).  Applied to the index. -/
opaque wideIndexWord : Nat → BitVec 16

/-- The FAN_STATE test value of a running fan whose reported direction is neither 0 nor 1
(R124, assumption 7).  Applied to the direction byte. -/
opaque unstatedFanState : BitVec 8 → Int

/-- What the NICHE REPORT level byte gives CLASS_LEVEL when it lies above 3 (R124, assumption 8).
Applied to the level byte. -/
opaque unstatedLevel : BitVec 8 → Nat

/-- The MODE test value of a report whose two mode bits hold 3 (R124, assumption 9). -/
opaque unstatedMode : Int

end Sys2Proof.Config
end

