-- ==== Sys2Proof/Machine/State.lean ====
section
/-! DEFINITION. The state of the NR-620 as plain data, the reasons a step can stop, and the state
right after power-on reset. -/

namespace Sys2Proof.Machine

/-- No step of this part faults: the manual names no command that stops it.  Kept as a closed type
because the host's interface asks for one. -/
inductive Fault where
  /-- raised by no command; safe -/
  | neverRaised
  deriving DecidableEq, Repr

/-- Why a command is turned away without a meaning. -/
inductive Refusal where
  /-- raised by exec's arm of a command that has no meaning yet; safe (no arm answers it) -/
  | notModelled (mnemonic : String)
  deriving DecidableEq, Repr

/-! ## Names -/

/-- The class of a channel (R1). -/
inductive SensorClass where
  | co | no2 | opacity | velocity | temperature | smoke | general
  deriving DecidableEq, Repr

/-- What an invalid sample is filled with (R16). -/
inductive FillPolicy where
  | hold | fallback
  deriving DecidableEq, Repr

/-- What the Level Evaluator compares with the thresholds (R31). -/
inductive EvaluateOn where
  | mean | max | meanAbs | peakAbs
  deriving DecidableEq, Repr

/-- The states of a channel (R5). -/
inductive ChannelMode where
  | off | warming | run | failed
  deriving DecidableEq, Repr

/-- The grade of a window result (R28). -/
inductive Quality where
  | good | doubtful | failed | warming
  deriving DecidableEq, Repr

/-- A fan's direction (R41). -/
inductive Direction where
  | fwd | rev
  deriving DecidableEq, Repr

/-- The states of a fan drive (R41). -/
inductive DriveMode where
  | disabled | stopped | starting | running | stopping | coasting | fault | isolated
  deriving DecidableEq, Repr

/-- The states of a door (R80). -/
inductive DoorMode where
  | disabled | closed | opening | opened | closing | jammed | contactFault | outOfService
  deriving DecidableEq, Repr

/-- Node mode (R153). -/
inductive NodeMode where
  | normal | incident | maintenance
  deriving DecidableEq, Repr

/-- The frame kind a watch entry applies to (R120). -/
inductive WatchKind where
  | report | notice
  deriving DecidableEq, Repr

/-- The value a watch entry tests (R120). -/
inductive TestField where
  | classLevel | fanState | openDoors | mode | activeResponse | noticeCode
  deriving DecidableEq, Repr

/-- The comparison of a watch entry (R120). -/
inductive Comparison where
  | atOrAbove | equal | below
  deriving DecidableEq, Repr

/-- The presence of a neighbour (R129). -/
inductive Presence where
  | unknown | present | silent
  deriving DecidableEq, Repr

/-- The sixteen kinds of trigger key (R134). -/
inductive KeyKind where
  | levelUp | levelDown | channelFailed | channelRecovered | watchHit | watchClear
  | neighbourSilent | neighbourBack | doorOpened | doorForced | doorJammed | doorContactFault
  | doorShut | fanFault | fanIsolated | modeEntered
  deriving DecidableEq, Repr

/-- The selector of a trigger entry (R135). -/
inductive SelectorMode where
  | index | cls | any
  deriving DecidableEq, Repr

/-- What a matching trigger entry asks for (R135). -/
inductive TriggerAction where
  | dispatch | cancel
  deriving DecidableEq, Repr

/-- The thirteen point functions (R178). -/
inductive PointFunction where
  | generalIn | generalOut | fanRun | fanReverse | fanConfirm | fanIsolator | doorClosed | doorOpen
  | doorButton | doorDriveOpen | doorDriveClose | maintKey | commissionKey
  deriving DecidableEq, Repr

/-- The signals that at most one point may hold: a function with its index (R178). -/
inductive Signal where
  | fanRun (fan : Fin 6) | fanReverse (fan : Fin 6) | fanConfirm (fan : Fin 6)
  | fanIsolator (fan : Fin 6) | doorClosed (door : Fin 6) | doorOpen (door : Fin 6)
  | doorButton (door : Fin 6) | doorDriveOpen (door : Fin 6) | doorDriveClose (door : Fin 6)
  | maintKey | commissionKey
  deriving DecidableEq, Repr

/-- The level at which a pin is active (R178). -/
inductive Polarity where
  | activeHigh | activeLow
  deriving DecidableEq, Repr

/-- The states of the Retained Store Controller (R163). -/
inductive StoreMode where
  | ready | eraseSet | programSet | erasing | eraseSuspended | programming
  deriving DecidableEq, Repr

/-- Which demand a fan's target comes from (R68, R78). -/
inductive Source where
  | none | line | response (slot : Fin 4) | pressurisation
  deriving DecidableEq, Repr

/-! ## Tables -/

/-- The Node Table entry (R193). -/
structure NodeEntry where
  reportInterval : Nat
  markTimeout : Nat
  staleLimit : Nat
  groups : BitVec 4
  pressurisationPrecedence : Nat
  noticeMask : BitVec 24
  deriving DecidableEq, Repr

/-- A Channel Table entry (R2). -/
structure ChannelEntry where
  cls : SensorClass
  enabled : Bool
  divider : Nat
  lowLimit : Nat
  highLimit : Nat
  fillPolicy : FillPolicy
  fallback : Int
  smoothing : Nat
  window : Nat
  warmUp : Nat
  evaluateOn : EvaluateOn
  t1 : Int
  t2 : Int
  t3 : Int
  hysteresis : Nat
  persistence : Nat
  failLimit : Nat
  failLevel : Nat
  deriving DecidableEq, Repr

/-- One breakpoint of a Calibration Table entry (R4). -/
structure Breakpoint where
  raw : Nat
  value : Int
  deriving DecidableEq, Repr

/-- A Calibration Table entry (R4). -/
structure CalibrationEntry where
  count : Nat
  points : Vector Breakpoint 8
  deriving DecidableEq, Repr

/-- A Fan Table entry (R42); `gallery` is pressurisation role GALLERY. -/
structure FanEntry where
  present : Bool
  defaultRate : Nat
  coastTime : Nat
  startTimeout : Nat
  lossTolerance : Nat
  minimumSpeed : Nat
  gallery : Bool
  pressurisationDirection : Direction
  standbySpeed : Nat
  deriving DecidableEq, Repr

/-- A Door Table entry (R81). -/
structure DoorEntry where
  present : Bool
  travelLimit : Nat
  dwell : Nat
  galleryFan : Option (Fin 6)
  boost : Nat
  deriving DecidableEq, Repr

/-- A Watch Table entry (R120); `latch` is the latching source of a LATCHED entry. -/
structure WatchEntry where
  enabled : Bool
  source : Byte
  kind : WatchKind
  test : TestField
  testIndex : Int
  comparison : Comparison
  operand : Int
  latch : Option Byte
  deriving DecidableEq, Repr

/-- A Neighbour Table record (R129); address 0 is an unused record. -/
structure NeighbourRecord where
  address : Byte
  silenceLimit : Nat
  state : Presence
  silenceCount : Nat
  deriving DecidableEq, Repr

/-- A Trigger Table entry (R135); bits 0, 1 and 2 of the mode filter are NORMAL, INCIDENT and
MAINTENANCE. -/
structure TriggerEntry where
  enabled : Bool
  kind : KeyKind
  selector : SelectorMode
  selectorValue : Int
  levelOperand : Nat
  modeFilter : BitVec 3
  action : TriggerAction
  response : Fin 128
  deriving DecidableEq, Repr

/-- A Point Table entry (R178); the index of a function that uses none is stored as offered. -/
structure PointEntry where
  function : PointFunction
  functionIndex : Int
  polarity : Polarity
  filterTime : Nat
  deriving DecidableEq, Repr

/-! ## Units -/

/-- The values a sample event leaves for Channel Status (R22). -/
structure LastSample where
  raw : Nat
  valid : Bool
  value : Int
  output : Int
  deriving DecidableEq, Repr

/-- A channel's open window (R25). -/
structure OpenWindow where
  count : Nat
  sum : Int
  maximum : Option Int
  minimum : Option Int
  valid : Nat
  exceedance : Nat
  deriving DecidableEq, Repr

/-- A closed window's result (R27). -/
structure WindowResult where
  mean : Int
  maximum : Int
  minimum : Int
  valid : Nat
  exceedance : Nat
  quality : Quality
  deriving DecidableEq, Repr

/-- A channel: its conditioning state (R5), its open window and last result (R25, R27), and its level
and counters (R30). -/
structure Channel where
  mode : ChannelMode
  countdown : Nat
  warmUp : Nat
  fill : Option Int
  accumulator : Option Int
  last : Option LastSample
  window : OpenWindow
  result : Option WindowResult
  level : Nat
  rise : Nat
  fall : Nat
  failedWindows : Nat
  deriving DecidableEq, Repr

/-- A fan demand (R66). -/
structure Demand where
  precedence : Nat
  direction : Direction
  speed : Nat
  rate : Nat
  deriving DecidableEq, Repr

/-- A demand in a response slot, with the activation sequence of the response that wrote it (R66). -/
structure ResponseDemand where
  demand : Demand
  sequence : Nat
  deriving DecidableEq, Repr

/-- The target of a fan (R68). -/
structure Target where
  direction : Direction
  speed : Nat
  rate : Nat
  source : Source
  deriving DecidableEq, Repr

/-- A fan: its drive state (R41), its six demand slots (R66) and its target (R68).  The run output and
the speed reference are computed from the drive state and the ramp value (R48).  The confirm-loss
timer is absent when idle. -/
structure Fan where
  mode : DriveMode
  direction : Direction
  ramp : Nat
  startTimer : Nat
  coastTimer : Nat
  lossTimer : Option Nat
  lineSlot : Option Demand
  responseSlots : Vector (Option ResponseDemand) 4
  pressurisationSlot : Option Demand
  target : Target
  deriving DecidableEq, Repr

/-- A door (R80).  The two drive outputs are computed from the door state (R85). -/
structure Door where
  mode : DoorMode
  travelTimer : Nat
  dwellTimer : Nat
  responseHolds : Vector Bool 4
  lineHold : Bool
  deriving DecidableEq, Repr

/-- A line frame as its bytes, header, payload and check (R198). -/
abbrev Frame := List Byte

/-- What the Line Relay holds for one port: its link state and link timer in ms (R103), the pass buffer
and the insert queue toward it (R110, R111), its transmitter and its starvation count (R113). -/
structure PortState where
  up : Bool
  linkTimer : Nat
  pass : List Frame
  insertQueue : List Frame
  sending : Option Frame
  starvation : Nat
  deriving DecidableEq, Repr

/-- The cycle logic (R114) and report timing (R117); both timers are in ms and the local cycle timer is
absent when not running. -/
structure CycleState where
  marked : Bool
  number : Word
  firstMark : Bool
  markTimer : Nat
  localTimer : Option Nat
  interval : Nat
  sequence : Byte
  deriving DecidableEq, Repr

/-- A present entry of the Response Index (R139). -/
structure IndexInfo where
  precedence : Nat
  enter : Bool
  deriving DecidableEq, Repr

/-- An entry of the dispatch queue (R140). -/
structure Queued where
  number : Fin 128
  precedence : Nat
  deriving DecidableEq, Repr

/-- The fetch in flight with its two marks (R143, R144). -/
structure Fetch where
  number : Fin 128
  precedence : Nat
  cancelled : Bool
  disturbed : Bool
  deriving DecidableEq, Repr

/-- A response in an Active Table slot (R146); the hold time left is in ms and absent for hold
time 0. -/
structure ActiveResponse where
  number : Fin 128
  precedence : Nat
  enter : Bool
  successor : Option (Fin 128)
  hold : Option Nat
  sequence : Nat
  deriving DecidableEq, Repr

/-- The Response Engine (R139, R142, R143, R146, R147, R153). -/
structure EngineState where
  index : Vector (Option IndexInfo) 128
  queue : List Queued
  fetch : Option Fetch
  active : Vector (Option ActiveResponse) 4
  sequence : Nat
  mode : NodeMode
  deriving DecidableEq, Repr

/-- A memory of bytes as (address, byte) pairs, addresses strictly rising, none holding FFh; an address
not listed reads FFh. -/
abbrev Mem := List Host.Cell

/-- The slot service (R172).  A request is for a response's slot; `dropped` marks one whose fetch the
engine abandoned at RESTART (R177).  `page` is what the read found when it began. -/
inductive SlotService where
  | idle
  | waiting (number : Fin 128) (dropped : Bool)
  | reading (number : Fin 128) (dropped : Bool) (page : List Byte)
  deriving DecidableEq, Repr

/-- A request to the slot service for a response's slot (R172). -/
structure SlotRequest where
  number : Fin 128
  dropped : Bool
  deriving DecidableEq, Repr

/-- The Retained Store Controller (R163), with the 48 pages of 512 bytes (R161): page p, byte b is at
address 512 × p + b of `cells`, and the
requests that wait behind the one the service has (R172) in order of arrival. -/
structure StoreState where
  mode : StoreMode
  setupPage : Option (Fin 48)
  operationPage : Option (Fin 48)
  pulses : Nat
  programData : Mem
  eraseError : Bool
  programError : Bool
  supplyError : Bool
  sequenceError : Bool
  protectError : Bool
  staging : Mem
  service : SlotService
  behind : List SlotRequest
  cells : Mem
  deriving DecidableEq, Repr

/-- A field point (R181, R183): the level at its pin, its filtered level (true is high), its hold count
and its latch. -/
structure Point where
  pin : Bool
  filtered : Bool
  hold : Nat
  latch : Bool
  deriving DecidableEq, Repr

/-- A trigger key on its way to the Response Engine (R134): beside its kind and index, the class of a channel key, the
new and the old level of a level key (R37), and the address of a watch or neighbour key (R127 to R131).  The old level
and the address take no part in matching (R134, R137). -/
structure Key where
  kind : KeyKind
  index : Nat
  cls : Option SensorClass := none
  level : Nat := 0
  oldLevel : Nat := 0
  address : Option Byte := none
  deriving DecidableEq, Repr

/-- Start-up load (R175, R197): over; at an image page (32 + `page`), after a RESTART or a power-on
reset; or done, with the units not started yet. -/
inductive LoadPhase where
  | running
  | image (page : Fin 16) (afterRestart : Bool)
  | built
  deriving DecidableEq, Repr

/-- The machine.  `keys` (the keys a block's event has emitted and the engine has not taken yet; empty
between commands), `freeCount` (how many free bytes have been drawn) and `pending` (the commands that
wait, first in, first out) are the model's own; every other field is the manual's. -/
structure State where
  address : Option Byte
  load : LoadPhase
  events : BitVec 24
  nodeTable : NodeEntry
  channelTable : Vector ChannelEntry 12
  calibrationTable : Vector CalibrationEntry 12
  fanTable : Vector FanEntry 6
  doorTable : Vector DoorEntry 6
  watchTable : Vector WatchEntry 32
  neighbourTable : Vector NeighbourRecord 16
  triggerTable : Vector TriggerEntry 64
  pointTable : Vector PointEntry 64
  portA : PortState
  portB : PortState
  cycle : CycleState
  channels : Vector Channel 12
  fans : Vector Fan 6
  doors : Vector Door 6
  engine : EngineState
  store : StoreState
  supplyOk : Bool
  points : Vector Point 64
  keys : List Key
  freeCount : Nat
  pending : List Instr
  deriving DecidableEq, Repr

/-! ## Defaults and reset -/

/-- The Node Table's defaults (R193). -/
def NodeEntry.default : NodeEntry :=
  { reportInterval := 2, markTimeout := 5, staleLimit := 2, groups := 0, pressurisationPrecedence := 10, noticeMask := 0 }

/-- The Channel Table's defaults (R2). -/
def ChannelEntry.default : ChannelEntry :=
  { cls := .general, enabled := false, divider := 1, lowLimit := 0, highLimit := 4095, fillPolicy := .hold,
    fallback := 0, smoothing := 0, window := 1, warmUp := 0, evaluateOn := .mean, t1 := 32765, t2 := 32766,
    t3 := 32767, hysteresis := 0, persistence := 1, failLimit := 1, failLevel := 0 }

/-- The Calibration Table's defaults (R4). -/
def CalibrationEntry.default : CalibrationEntry :=
  { count := 2, points := tabulate fun i => if i = 1 then ⟨4095, 4095⟩ else ⟨0, 0⟩ }

/-- The Fan Table's defaults (R42). -/
def FanEntry.default : FanEntry :=
  { present := false, defaultRate := 20, coastTime := 60, startTimeout := 10, lossTolerance := 20,
    minimumSpeed := 0, gallery := false, pressurisationDirection := .fwd, standbySpeed := 0 }

/-- The Door Table's defaults (R81). -/
def DoorEntry.default : DoorEntry :=
  { present := false, travelLimit := 10, dwell := 60, galleryFan := none, boost := 0 }

/-- The Watch Table's defaults (R120). -/
def WatchEntry.default : WatchEntry :=
  { enabled := false, source := 255, kind := .report, test := .classLevel, testIndex := 0,
    comparison := .atOrAbove, operand := 0, latch := none }

/-- The Neighbour Table's defaults (R129). -/
def NeighbourRecord.default : NeighbourRecord :=
  { address := 0, silenceLimit := 10, state := .unknown, silenceCount := 0 }

/-- The Trigger Table's defaults (R135). -/
def TriggerEntry.default : TriggerEntry :=
  { enabled := false, kind := .levelUp, selector := .any, selectorValue := 0, levelOperand := 0,
    modeFilter := 7, action := .dispatch, response := 0 }

/-- The Point Table's defaults (R178). -/
def PointEntry.default : PointEntry :=
  { function := .generalIn, functionIndex := 0, polarity := .activeHigh, filterTime := 0 }

/-- An empty window (R25). -/
def OpenWindow.empty : OpenWindow :=
  { count := 0, sum := 0, maximum := none, minimum := none, valid := 0, exceedance := 0 }

/-- A channel in OFF (R5, R23, R40). -/
def Channel.off : Channel :=
  { mode := .off, countdown := 0, warmUp := 0, fill := none, accumulator := none, last := none,
    window := .empty, result := none, level := 0, rise := 0, fall := 0, failedWindows := 0 }

/-- The target with no demand, at the default ramp rate of the default table (R68, R79). -/
def Target.reset : Target := { direction := .fwd, speed := 0, rate := 20, source := .none }

/-- A fan drive at power-on reset (R64, R79). -/
def Fan.reset : Fan :=
  { mode := .disabled, direction := .fwd, ramp := 0, startTimer := 0, coastTimer := 0, lossTimer := none,
    lineSlot := none, responseSlots := Vector.replicate 4 none, pressurisationSlot := none, target := .reset }

/-- A door at power-on reset (R102). -/
def Door.reset : Door :=
  { mode := .disabled, travelTimer := 0, dwellTimer := 0, responseHolds := Vector.replicate 4 false, lineHold := false }

/-- A port at power-on reset (R119). -/
def PortState.reset : PortState :=
  { up := false, linkTimer := 0, pass := [], insertQueue := [], sending := none, starvation := 0 }

/-- The cycle logic at power-on reset (R119). -/
def CycleState.reset : CycleState :=
  { marked := false, number := 0, firstMark := false, markTimer := 0, localTimer := none, interval := 0, sequence := 0 }

/-- The Response Engine at power-on reset (R159). -/
def EngineState.reset : EngineState :=
  { index := Vector.replicate 128 none, queue := [], fetch := none, active := Vector.replicate 4 none,
    sequence := 0, mode := .normal }

/-- The store controller at power-on reset (R176), its pages erased (DESIGN CHOICE: the manual gives the
pages of a new part no contents; assumption 10) and its program data FFh throughout (DESIGN CHOICE: R176 gives them no
value and R170 holds them for an operation only; assumption 48). -/
def StoreState.reset : StoreState :=
  { mode := .ready, setupPage := none, operationPage := none, pulses := 0, programData := [],
    eraseError := false, programError := false, supplyError := false, sequenceError := false,
    protectError := false, staging := [], service := .idle, behind := [], cells := [] }

/-- A point at power-on reset with its pin low (R186). -/
def Point.reset : Point := { pin := false, filtered := false, hold := 0, latch := false }

/-- The machine right after a power-on reset that found every pin and every address input low
(DESIGN CHOICE: the levels come from outside; assumption 11), at the start of start-up load (R197). -/
def State.reset : State :=
  { address := none
    load := .image 0 false
    events := 0
    nodeTable := .default
    channelTable := Vector.replicate 12 .default
    calibrationTable := Vector.replicate 12 .default
    fanTable := Vector.replicate 6 .default
    doorTable := Vector.replicate 6 .default
    watchTable := Vector.replicate 32 .default
    neighbourTable := Vector.replicate 16 .default
    triggerTable := Vector.replicate 64 .default
    pointTable := Vector.replicate 64 .default
    portA := .reset
    portB := .reset
    cycle := .reset
    channels := Vector.replicate 12 .off
    fans := Vector.replicate 6 .reset
    doors := Vector.replicate 6 .reset
    engine := .reset
    store := .reset
    supplyOk := true
    points := Vector.replicate 64 .reset
    keys := []
    freeCount := 0
    pending := [] }

end Sys2Proof.Machine
end

