-- ==== Sys2Proof/Machine/Operands.lean ====
section
/-! DEFINITION. How words and bytes carry values: field words, codes, clamps, the entries of every
writable table, and the response record of a store slot. -/

namespace Sys2Proof.Machine

/-! ## Words and bytes -/

/-- A word from its two bytes, the most significant first (R198). -/
def wordOf (high low : Byte) : Word := high ++ low

/-- The field words of a payload, read from its first byte; a final odd byte is not read (R198). -/
def wordsOf : List Byte → List Word
  | high :: low :: rest => wordOf high low :: wordsOf rest
  | _ => []

/-- The two bytes of a word as sent, the most significant first (R198). -/
def bytesOfWord (w : Word) : List Byte := [w.extractLsb' 8 8, w.extractLsb' 0 8]

/-- Words as sent (R198). -/
def bytesOf (ws : List Word) : List Byte := ws.flatMap bytesOfWord

/-- A field word's value, a signed 16-bit integer (R2, R198). -/
def signed (w : Word) : Int := w.toInt

/-- The field word of a value (two's complement for a negative one). -/
def fieldWord (v : Int) : Word := BitVec.ofInt 16 v

/-- Clamping into a range: below it the lowest value, above it the highest (R3). -/
def clamp (low high v : Int) : Int := if v < low then low else if high < v then high else v

/-- Clamping an entry's words: `none` marks a field that is not clamped (R3, R43, R82, R136, R179). -/
def clampFields : List (Option (Int × Int)) → List Int → List Int
  | some (low, high) :: rs, v :: vs => clamp low high v :: clampFields rs vs
  | none :: rs, v :: vs => v :: clampFields rs vs
  | _, vs => vs

/-- The member of a list of names whose code is the value given, if any. -/
def byCode {α : Type} (names : List α) (code : α → Nat) (v : Int) : Option α :=
  names.find? fun n => decide ((code n : Int) = v)

/-- A value 0 to n − 1 as an index, if it is one. -/
def indexOf (n : Nat) (v : Int) : Option (Fin n) :=
  if h : v.toNat < n then if 0 ≤ v then some ⟨v.toNat, h⟩ else none else none

/-- A flag field: 0 or 1. -/
def flagOf (v : Int) : Option Bool := if v = 0 then some false else if v = 1 then some true else none

/-- A flag as a field word's value. -/
def flagCode (b : Bool) : Int := if b then 1 else 0

/-! ## Codes -/

/-- R1. -/
def SensorClass.code : SensorClass → Nat
  | .co => 0 | .no2 => 1 | .opacity => 2 | .velocity => 3 | .temperature => 4 | .smoke => 5 | .general => 6

/-- The seven classes in code order (R1). -/
def SensorClass.all : List SensorClass := [.co, .no2, .opacity, .velocity, .temperature, .smoke, .general]

/-- R2, field 6. -/
def FillPolicy.code : FillPolicy → Nat
  | .hold => 0 | .fallback => 1

/-- R2, field 11. -/
def EvaluateOn.code : EvaluateOn → Nat
  | .mean => 0 | .max => 1 | .meanAbs => 2 | .peakAbs => 3

/-- R22, field 1. -/
def ChannelMode.code : ChannelMode → Nat
  | .off => 0 | .warming => 1 | .run => 2 | .failed => 3

/-- R38, field 8: 0 is NONE. -/
def qualityCode : Option WindowResult → Nat
  | none => 0
  | some r => match r.quality with
    | .good => 1 | .doubtful => 2 | .failed => 3 | .warming => 4

/-- 0 FWD, 1 REV (R62). -/
def Direction.code : Direction → Nat
  | .fwd => 0 | .rev => 1

/-- R62, field 1. -/
def DriveMode.code : DriveMode → Nat
  | .disabled => 0 | .stopped => 1 | .starting => 2 | .running => 3 | .stopping => 4 | .coasting => 5
  | .fault => 6 | .isolated => 7

/-- R101, field 1. -/
def DoorMode.code : DoorMode → Nat
  | .disabled => 0 | .closed => 1 | .opening => 2 | .opened => 3 | .closing => 4 | .jammed => 5
  | .contactFault => 6 | .outOfService => 7

/-- R158, field 1. -/
def NodeMode.code : NodeMode → Nat
  | .normal => 0 | .incident => 1 | .maintenance => 2

/-- R120, field 3. -/
def WatchKind.code : WatchKind → Nat
  | .report => 0 | .notice => 1

/-- R120, field 4. -/
def TestField.code : TestField → Nat
  | .classLevel => 0 | .fanState => 1 | .openDoors => 2 | .mode => 3 | .activeResponse => 4 | .noticeCode => 5

/-- R120, field 6. -/
def Comparison.code : Comparison → Nat
  | .atOrAbove => 0 | .equal => 1 | .below => 2

/-- R129, field 3. -/
def Presence.code : Presence → Nat
  | .unknown => 0 | .present => 1 | .silent => 2

/-- R134. -/
def KeyKind.code : KeyKind → Nat
  | .levelUp => 0 | .levelDown => 1 | .channelFailed => 2 | .channelRecovered => 3 | .watchHit => 4
  | .watchClear => 5 | .neighbourSilent => 6 | .neighbourBack => 7 | .doorOpened => 8 | .doorForced => 9
  | .doorJammed => 10 | .doorContactFault => 11 | .doorShut => 12 | .fanFault => 13 | .fanIsolated => 14
  | .modeEntered => 15

/-- The sixteen key kinds in code order (R134). -/
def KeyKind.all : List KeyKind :=
  [.levelUp, .levelDown, .channelFailed, .channelRecovered, .watchHit, .watchClear, .neighbourSilent,
    .neighbourBack, .doorOpened, .doorForced, .doorJammed, .doorContactFault, .doorShut, .fanFault,
    .fanIsolated, .modeEntered]

/-- How many indexes a key kind has (R134). -/
def KeyKind.indexCount : KeyKind → Nat
  | .levelUp | .levelDown | .channelFailed | .channelRecovered => 12
  | .watchHit | .watchClear => 32
  | .neighbourSilent | .neighbourBack => 16
  | .doorOpened | .doorForced | .doorJammed | .doorContactFault | .doorShut => 6
  | .fanFault | .fanIsolated => 6
  | .modeEntered => 3

/-- The channel kinds, which carry a class (R134). -/
def KeyKind.hasClass : KeyKind → Bool
  | .levelUp | .levelDown | .channelFailed | .channelRecovered => true
  | _ => false

/-- R135, field 3. -/
def SelectorMode.code : SelectorMode → Nat
  | .index => 0 | .cls => 1 | .any => 2

/-- R135, field 7. -/
def TriggerAction.code : TriggerAction → Nat
  | .dispatch => 0 | .cancel => 1

/-- R178, field 1. -/
def PointFunction.code : PointFunction → Nat
  | .generalIn => 0 | .generalOut => 1 | .fanRun => 2 | .fanReverse => 3 | .fanConfirm => 4
  | .fanIsolator => 5 | .doorClosed => 6 | .doorOpen => 7 | .doorButton => 8 | .doorDriveOpen => 9
  | .doorDriveClose => 10 | .maintKey => 11 | .commissionKey => 12

/-- The thirteen functions in code order (R178). -/
def PointFunction.all : List PointFunction :=
  [.generalIn, .generalOut, .fanRun, .fanReverse, .fanConfirm, .fanIsolator, .doorClosed, .doorOpen,
    .doorButton, .doorDriveOpen, .doorDriveClose, .maintKey, .commissionKey]

/-- The functions whose index names a fan or a door (R178). -/
def PointFunction.indexed (f : PointFunction) : Bool := decide (2 ≤ f.code ∧ f.code ≤ 10)

/-- 0 active high, 1 active low (R178). -/
def Polarity.code : Polarity → Nat
  | .activeHigh => 0 | .activeLow => 1

/-- R165, field 1. -/
def StoreMode.code : StoreMode → Nat
  | .ready => 0 | .eraseSet => 1 | .programSet => 2 | .erasing => 3 | .eraseSuspended => 4 | .programming => 5

/-- R78, field 12. -/
def Source.code : Source → Nat
  | .none => 0 | .line => 1 | .response k => 2 + k | .pressurisation => 6

/-- The signal a point entry holds (R178): none for GENERAL_IN and GENERAL_OUT, and none for an index
out of range, which R179 keeps out of the table. -/
def PointEntry.signal (e : PointEntry) : Option Signal :=
  match e.function with
  | .generalIn => none
  | .generalOut => none
  | .fanRun => (indexOf 6 e.functionIndex).map .fanRun
  | .fanReverse => (indexOf 6 e.functionIndex).map .fanReverse
  | .fanConfirm => (indexOf 6 e.functionIndex).map .fanConfirm
  | .fanIsolator => (indexOf 6 e.functionIndex).map .fanIsolator
  | .doorClosed => (indexOf 6 e.functionIndex).map .doorClosed
  | .doorOpen => (indexOf 6 e.functionIndex).map .doorOpen
  | .doorButton => (indexOf 6 e.functionIndex).map .doorButton
  | .doorDriveOpen => (indexOf 6 e.functionIndex).map .doorDriveOpen
  | .doorDriveClose => (indexOf 6 e.functionIndex).map .doorDriveClose
  | .maintKey => some .maintKey
  | .commissionKey => some .commissionKey

/-- Output signals: those a unit drives (R182). -/
def Signal.isOutput : Signal → Bool
  | .fanRun _ | .fanReverse _ | .doorDriveOpen _ | .doorDriveClose _ => true
  | _ => false

/-! ## Table entries as words

For each writable table: the ranges its clamps use, the entry that clamped words hold (none for a
structural fault), and the words of an entry as READ ENTRIES returns them. -/

/-- R193: fields 1, 2, 3 and 5 are clamped. -/
def NodeEntry.ranges : List (Option (Int × Int)) :=
  [some (1, 10), some (3, 20), some (0, 5), none, some (1, 15), none, none]

/-- R193: bits of fields 4 and 7 outside those named are stored as 0. -/
def NodeEntry.parse : List Int → Option NodeEntry
  | [interval, timeout, stale, groups, precedence, maskLow, maskHigh] =>
    some
      { reportInterval := interval.toNat, markTimeout := timeout.toNat, staleLimit := stale.toNat,
        groups := BitVec.ofInt 4 groups, pressurisationPrecedence := precedence.toNat,
        noticeMask := BitVec.ofInt 8 maskHigh ++ BitVec.ofInt 16 maskLow }
  | _ => none

/-- R193. -/
def NodeEntry.words (e : NodeEntry) : List Int :=
  [e.reportInterval, e.markTimeout, e.staleLimit, e.groups.toNat, e.pressurisationPrecedence,
    (e.noticeMask.extractLsb' 0 16).toNat, (e.noticeMask.extractLsb' 16 8).toNat]

/-- R3, step 1. -/
def ChannelEntry.ranges : List (Option (Int × Int)) :=
  [none, none, some (1, 100), some (0, 4095), some (0, 4095), none, none, some (0, 7), some (1, 255),
    some (0, 600), none, none, none, none, some (0, 32767), some (1, 15), some (1, 15), some (0, 3)]

/-- R3, steps 2 and 3. -/
def ChannelEntry.parse : List Int → Option ChannelEntry
  | [cls, enable, divider, low, high, policy, fallback, k, window, warmUp, evalOn, t1, t2, t3, hyst, p, f, level] => do
    let cls ← byCode SensorClass.all SensorClass.code cls
    let enabled ← flagOf enable
    let policy ← byCode [.hold, .fallback] FillPolicy.code policy
    let evalOn ← byCode [.mean, .max, .meanAbs, .peakAbs] EvaluateOn.code evalOn
    if low < high ∧ t1 < t2 ∧ t2 < t3 then
      some
        { cls := cls, enabled := enabled, divider := divider.toNat, lowLimit := low.toNat, highLimit := high.toNat,
          fillPolicy := policy, fallback := fallback, smoothing := k.toNat, window := window.toNat,
          warmUp := warmUp.toNat, evaluateOn := evalOn, t1 := t1, t2 := t2, t3 := t3, hysteresis := hyst.toNat,
          persistence := p.toNat, failLimit := f.toNat, failLevel := level.toNat }
    else none
  | _ => none

/-- R2. -/
def ChannelEntry.words (e : ChannelEntry) : List Int :=
  [e.cls.code, flagCode e.enabled, e.divider, e.lowLimit, e.highLimit, e.fillPolicy.code, e.fallback, e.smoothing,
    e.window, e.warmUp, e.evaluateOn.code, e.t1, e.t2, e.t3, e.hysteresis, e.persistence, e.failLimit, e.failLevel]

/-- R4: the count and every raw are clamped. -/
def CalibrationEntry.ranges : List (Option (Int × Int)) :=
  some (2, 8) :: (List.replicate 8 [some (0, 4095), none]).flatten

/-- R4: the raws of the first `count` pairs strictly increasing. -/
def CalibrationEntry.increasing (e : CalibrationEntry) : Bool :=
  (List.finRange 7).all fun i =>
    decide (e.count ≤ i.val + 1) || decide ((e.points[i.val]).raw < (e.points[i.val + 1]).raw)

/-- R4. -/
def CalibrationEntry.parse (ws : List Int) : Option CalibrationEntry :=
  if ws.length = 17 then
    let e : CalibrationEntry :=
      { count := (ws.getD 0 0).toNat
        points := tabulate fun i => ⟨(ws.getD (1 + 2 * i) 0).toNat, ws.getD (2 + 2 * i) 0⟩ }
    if e.increasing then some e else none
  else none

/-- R4. -/
def CalibrationEntry.words (e : CalibrationEntry) : List Int :=
  (e.count : Int) :: e.points.toList.flatMap fun p => [(p.raw : Int), p.value]

/-- R43. -/
def FanEntry.ranges : List (Option (Int × Int)) :=
  [none, some (1, 500), some (5, 600), some (1, 30), some (1, 100), some (0, 500), none, none, some (0, 1000)]

/-- R43. -/
def FanEntry.parse : List Int → Option FanEntry
  | [present, rate, coast, start, loss, minimum, role, direction, standby] => do
    let present ← flagOf present
    let role ← flagOf role
    let direction ← byCode [.fwd, .rev] Direction.code direction
    some
      { present := present, defaultRate := rate.toNat, coastTime := coast.toNat, startTimeout := start.toNat,
        lossTolerance := loss.toNat, minimumSpeed := minimum.toNat, gallery := role,
        pressurisationDirection := direction, standbySpeed := standby.toNat }
  | _ => none

/-- R42. -/
def FanEntry.words (e : FanEntry) : List Int :=
  [flagCode e.present, e.defaultRate, e.coastTime, e.startTimeout, e.lossTolerance, e.minimumSpeed,
    flagCode e.gallery, e.pressurisationDirection.code, e.standbySpeed]

/-- R82. -/
def DoorEntry.ranges : List (Option (Int × Int)) :=
  [none, some (2, 30), some (5, 600), none, some (0, 1000)]

/-- R82: gallery fan 0 to 5 names a fan, 6 none. -/
def DoorEntry.parse : List Int → Option DoorEntry
  | [present, travel, dwell, fan, boost] => do
    let present ← flagOf present
    let fan ← indexOf 7 fan
    some
      { present := present, travelLimit := travel.toNat, dwell := dwell.toNat,
        galleryFan := if h : fan.val < 6 then some ⟨fan.val, h⟩ else none, boost := boost.toNat }
  | _ => none

/-- R81. -/
def DoorEntry.words (e : DoorEntry) : List Int :=
  [flagCode e.present, e.travelLimit, e.dwell, match e.galleryFan with | some f => (f.val : Int) | none => 6, e.boost]

/-- R121: no field of this table is clamped. -/
def WatchEntry.ranges : List (Option (Int × Int)) := []

/-- R121: the test index a test field admits. -/
def TestField.indexOk (t : TestField) (i : Int) : Bool :=
  match t with
  | .classLevel => decide (0 ≤ i ∧ i ≤ 6)
  | .fanState => decide (0 ≤ i ∧ i ≤ 5)
  | .activeResponse => decide (0 ≤ i ∧ i ≤ 127)
  | _ => true

/-- R121: the words offered for fields 8 and 9 are ignored; the entry parsed is CLEAR.  A source below 0 is a structural
fault (DEDUCED: R121 lists 0, 251 to 254 and above 255, and R120 gives no such source; assumption 52). -/
def WatchEntry.parse : List Int → Option WatchEntry
  | [enable, source, kind, test, index, comparison, operand, _, _] => do
    let enabled ← flagOf enable
    let kind ← byCode [.report, .notice] WatchKind.code kind
    let test ← byCode [.classLevel, .fanState, .openDoors, .mode, .activeResponse, .noticeCode] TestField.code test
    let comparison ← byCode [.atOrAbove, .equal, .below] Comparison.code comparison
    if ((1 ≤ source ∧ source ≤ 250) ∨ source = 255) ∧ (kind = .notice ↔ test = .noticeCode) ∧ test.indexOk index = true then
      some
        { enabled := enabled, source := BitVec.ofInt 8 source, kind := kind, test := test, testIndex := index,
          comparison := comparison, operand := operand, latch := none }
    else none
  | _ => none

/-- R120. -/
def WatchEntry.words (e : WatchEntry) : List Int :=
  [flagCode e.enabled, e.source.toNat, e.kind.code, e.test.code, e.testIndex, e.comparison.code, e.operand,
    flagCode e.latch.isSome, match e.latch with | some a => (a.toNat : Int) | none => 0]

/-- R129: the silence limit is clamped. -/
def NeighbourRecord.ranges : List (Option (Int × Int)) := [none, some (2, 50), none, none]

/-- R129: the words offered for fields 3 and 4 are ignored; the record parsed is UNKNOWN with count 0. -/
def NeighbourRecord.parse : List Int → Option NeighbourRecord
  | [address, limit, _, _] =>
    if 0 ≤ address ∧ address ≤ 250 then
      some { address := BitVec.ofInt 8 address, silenceLimit := limit.toNat, state := .unknown, silenceCount := 0 }
    else none
  | _ => none

/-- R129. -/
def NeighbourRecord.words (e : NeighbourRecord) : List Int :=
  [e.address.toNat, e.silenceLimit, e.state.code, e.silenceCount]

/-- R136: the level operand is clamped. -/
def TriggerEntry.ranges : List (Option (Int × Int)) := [none, none, none, none, some (0, 3), none, none, none]

/-- R136: what the selector admits. -/
def selectorOk (kind : KeyKind) (mode : SelectorMode) (value : Int) : Bool :=
  match mode with
  | .any => true
  | .cls => kind.hasClass && decide (0 ≤ value ∧ value ≤ 6)
  | .index => decide (0 ≤ value ∧ value < kind.indexCount)

/-- R136. -/
def TriggerEntry.parse : List Int → Option TriggerEntry
  | [enable, kind, selector, value, level, filter, action, response] => do
    let enabled ← flagOf enable
    let kind ← byCode KeyKind.all KeyKind.code kind
    let selector ← byCode [.index, .cls, .any] SelectorMode.code selector
    let filter ← indexOf 8 filter
    let action ← byCode [.dispatch, .cancel] TriggerAction.code action
    let response ← indexOf 128 response
    if selectorOk kind selector value then
      some
        { enabled := enabled, kind := kind, selector := selector, selectorValue := value, levelOperand := level.toNat,
          modeFilter := BitVec.ofNat 3 filter.val, action := action, response := response }
    else none
  | _ => none

/-- R135. -/
def TriggerEntry.words (e : TriggerEntry) : List Int :=
  [flagCode e.enabled, e.kind.code, e.selector.code, e.selectorValue, e.levelOperand, e.modeFilter.toNat,
    e.action.code, e.response.val]

/-- R179, step 1. -/
def PointEntry.ranges : List (Option (Int × Int)) := [none, none, none, some (0, 255)]

/-- R179, step 2. -/
def PointEntry.parse : List Int → Option PointEntry
  | [function, index, polarity, filter] => do
    let function ← byCode PointFunction.all PointFunction.code function
    let polarity ← byCode [.activeHigh, .activeLow] Polarity.code polarity
    if function.indexed = false ∨ (0 ≤ index ∧ index ≤ 5) then
      some { function := function, functionIndex := index, polarity := polarity, filterTime := filter.toNat }
    else none
  | _ => none

/-- R178. -/
def PointEntry.words (e : PointEntry) : List Int :=
  [e.function.code, e.functionIndex, e.polarity.code, e.filterTime]

/-! ## Response records (R138, R200) -/

/-- An action of a response as activation captures it (R146, R200). -/
inductive Action where
  | fanRun (fan : Fin 6) (direction : Direction) (speed rate : Nat)
  | fanHoldStop (fan : Fin 6)
  | doorOpen (doors : BitVec 6)
  | doorHold (doors : BitVec 6)
  | notice (code : Byte)
  deriving DecidableEq, Repr

/-- A response record, its values taken as R138 takes them. -/
structure ResponseRecord where
  precedence : Nat
  enter : Bool
  successor : Option (Fin 128)
  holdTime : Nat
  actions : List Action
  deriving DecidableEq, Repr

/-- One action from its six bytes; none for an action that is skipped (R200). -/
def actionOf (kind target : Byte) (a b : Word) : Option Action :=
  let speed := (clamp 0 1000 (signed a)).toNat
  let rate := (clamp 1 500 (signed b)).toNat
  match kind.toNat with
  | 1 => (indexOf 6 target.toNat).map fun f => .fanRun f .fwd speed rate
  | 2 => (indexOf 6 target.toNat).map fun f => .fanRun f .rev speed rate
  | 3 => (indexOf 6 target.toNat).map .fanHoldStop
  | 4 => some (.doorOpen (target.extractLsb' 0 6))
  | 5 => some (.doorHold (target.extractLsb' 0 6))
  | 6 => if target.toNat < 128 then none else some (.notice target)
  | _ => none

/-- The byte of a page or slot at an offset. -/
def byteAt (bytes : List Byte) (i : Nat) : Byte := bytes.getD i 0xFF

/-- Action a of a slot (R200): offsets 9 + 6a to 14 + 6a. -/
def slotAction (slot : List Byte) (a : Nat) : Option Action :=
  actionOf (byteAt slot (9 + 6 * a)) (byteAt slot (10 + 6 * a))
    (wordOf (byteAt slot (11 + 6 * a)) (byteAt slot (12 + 6 * a)))
    (wordOf (byteAt slot (13 + 6 * a)) (byteAt slot (14 + 6 * a)))

/-- The bytes of slot j of a page (R161). -/
def slotBytes (page : List Byte) (j : Nat) : List Byte := (page.drop (128 * j)).take 128

/-- Whether a slot's present marker and number match response n (R138, R200). -/
def slotMatches (slot : List Byte) (n : Fin 128) : Bool :=
  decide (wordOf (byteAt slot 0) (byteAt slot 1) = 0x3C96 ∧ (byteAt slot 2).toNat = n.val)

/-- The record of response n in a slot, if the slot holds it (R138, R200). -/
def slotRecord (slot : List Byte) (n : Fin 128) : Option ResponseRecord :=
  if slotMatches slot n then
    some
      { precedence := (clamp 1 15 (byteAt slot 3).toNat).toNat
        enter := decide (byteAt slot 4 = 1)
        successor := indexOf 128 (byteAt slot 5).toNat
        holdTime := min 3600 (wordOf (byteAt slot 6) (byteAt slot 7)).toNat
        actions := (List.range (min 12 (byteAt slot 8).toNat)).filterMap (slotAction slot) }
  else none

/-- The page that holds response n's slot, and the slot's place in it (R161). -/
def responsePage (n : Fin 128) : Fin 48 := ⟨n.val / 4, by omega⟩

/-- The slot of a page that holds response n (R161). -/
def responseSlot (n : Fin 128) : Nat := n.val % 4

end Sys2Proof.Machine
end

