-- ==== Sys2Proof/Machine/Ops.lean ====
section
/-! DEFINITION. The named operations over the state that every block uses: access to a unit or an entry,
repetition over the units of a block, the byte memories, and the check of frames and pages. -/

namespace Sys2Proof.Machine

/-! ## Access to units and entries -/

/-- The state of a line port. -/
def State.port (s : State) : Port → PortState
  | .a => s.portA
  | .b => s.portB

/-- A port given a new state. -/
def State.setPort (s : State) (p : Port) (x : PortState) : State :=
  match p with
  | .a => { s with portA := x }
  | .b => { s with portB := x }

/-- The port a frame received on `p` leaves by. -/
def otherPort : Port → Port
  | .a => .b
  | .b => .a

/-- Channel CHn. -/
def State.channel (s : State) (n : Fin 12) : Channel := s.channels[n]

/-- Channel CHn given a new state. -/
def State.setChannel (s : State) (n : Fin 12) (x : Channel) : State := { s with channels := s.channels.set n x }

/-- The Channel Table entry of CHn. -/
def State.channelEntry (s : State) (n : Fin 12) : ChannelEntry := s.channelTable[n]

/-- FANf. -/
def State.fan (s : State) (f : Fin 6) : Fan := s.fans[f]

/-- FANf given a new state. -/
def State.setFan (s : State) (f : Fin 6) (x : Fan) : State := { s with fans := s.fans.set f x }

/-- The Fan Table entry of FANf. -/
def State.fanEntry (s : State) (f : Fin 6) : FanEntry := s.fanTable[f]

/-- DOORd. -/
def State.door (s : State) (d : Fin 6) : Door := s.doors[d]

/-- DOORd given a new state. -/
def State.setDoor (s : State) (d : Fin 6) (x : Door) : State := { s with doors := s.doors.set d x }

/-- The Door Table entry of DOORd. -/
def State.doorEntry (s : State) (d : Fin 6) : DoorEntry := s.doorTable[d]

/-- Point Pn. -/
def State.point (s : State) (n : Fin 64) : Point := s.points[n]

/-- Point Pn given a new state. -/
def State.setPoint (s : State) (n : Fin 64) (x : Point) : State := { s with points := s.points.set n x }

/-- The Point Table entry of Pn. -/
def State.pointEntry (s : State) (n : Fin 64) : PointEntry := s.pointTable[n]

/-- The Response Engine given a new state. -/
def State.setEngine (s : State) (e : EngineState) : State := { s with engine := e }

/-- The store controller given a new state. -/
def State.setStore (s : State) (x : StoreState) : State := { s with store := x }

/-- The cycle logic given a new state. -/
def State.setCycle (s : State) (x : CycleState) : State := { s with cycle := x }

/-- A key offered to the engine: it joins the keys the present event has emitted (R134). -/
def State.offer (s : State) (k : Key) : State := { s with keys := s.keys ++ [k] }

/-- A key that carries neither class nor level (R134). -/
def plainKey (kind : KeyKind) (index : Nat) : Key := { kind := kind, index := index }

/-- A watch or neighbour key, with the address it carries (R127 to R131). -/
def nodeKey (kind : KeyKind) (index : Nat) (address : Byte) : Key :=
  { kind := kind, index := index, address := some address }

/-- An event over each unit of a block in turn, in unit order. -/
def forEach {n : Nat} (body : Fin n → State → State) (s : State) : State :=
  (List.finRange n).foldl (fun s i => body i s) s

/-- Whether the units have started: start-up load is over (R197). -/
def State.started (s : State) : Bool := decide (s.load = .running)

/-! ## Byte memories -/

/-- The byte an address reads as: FFh where the memory lists none (R162, R164). -/
def Mem.read : Mem → Nat → Byte
  | [], _ => 0xFF
  | (k, v) :: rest, a => if k = a then v else Mem.read rest a

/-- A cell put in its place among rising addresses. -/
def Mem.insert : Mem → Nat → Byte → Mem
  | [], a, b => [(a, b)]
  | (k, v) :: rest, a, b => if a < k then (a, b) :: (k, v) :: rest else (k, v) :: Mem.insert rest a b

/-- A byte written: FFh takes the address off the list. -/
def Mem.write (m : Mem) (a : Nat) (b : Byte) : Mem :=
  let rest := m.filter fun c => decide (c.1 ≠ a)
  if b = 0xFF then rest else Mem.insert rest a b

/-- Bytes written from an address on. -/
def Mem.writeBytes : Mem → Nat → List Byte → Mem
  | m, _, [] => m
  | m, a, b :: bs => Mem.writeBytes (Mem.write m a b) (a + 1) bs

/-- n bytes read from an address on. -/
def Mem.readBytes (m : Mem) (a n : Nat) : List Byte := (List.range n).map fun i => Mem.read m (a + i)

/-- The canonical form: addresses strictly rising and no cell holding FFh. -/
def Mem.wf : Mem → Bool
  | [] => true
  | [(_, v)] => decide (v ≠ 0xFF)
  | (k, v) :: (k', v') :: rest => decide (v ≠ 0xFF) && decide (k < k') && Mem.wf ((k', v') :: rest)

/-- The address of byte 0 of a store page (R161). -/
def pageBase (p : Fin 48) : Nat := 512 * p.val

/-- The 512 bytes of a store page (R161). -/
def StoreState.page (x : StoreState) (p : Fin 48) : List Byte := Mem.readBytes x.cells (pageBase p) 512

/-- A store page given new bytes. -/
def StoreState.setPage (x : StoreState) (p : Fin 48) (bytes : List Byte) : StoreState :=
  { x with cells := Mem.writeBytes x.cells (pageBase p) bytes }

/-! ## The check (R106) -/

/-- One bit through the check register: polynomial x^16 + x^12 + x^5 + 1, most significant bit first. -/
def checkShift (crc : Word) : Word := if crc.msb then (crc <<< 1) ^^^ 0x1021 else crc <<< 1

/-- One byte through the check register. -/
def checkByte (crc : Word) (b : Byte) : Word :=
  let c := crc ^^^ (b ++ (0 : Byte))
  checkShift (checkShift (checkShift (checkShift (checkShift (checkShift (checkShift (checkShift c)))))))

/-- The check over bytes in the order sent, from FFFFh, not inverted at the end. -/
def checkOf (bytes : List Byte) : Word := bytes.foldl checkByte 0xFFFF

/-- Whether a page is valid: its marker and its check (R162). -/
def pageValid (page : List Byte) : Bool :=
  decide (wordOf (byteAt page 508) (byteAt page 509) = 0x5AC3) &&
    decide (wordOf (byteAt page 510) (byteAt page 511) = checkOf (page.take 508))

end Sys2Proof.Machine
end

