-- ==== Sys2Proof/Machine/Relay.lean ====
section
/-! DEFINITION. The Line Relay's frames and queues (chapters 6 and 12): building a frame, the transmit
arbiter, the pass buffer and the insert queue of one port. -/

namespace Sys2Proof.Machine

/-! ## Frames (R198) -/

/-- The header and payload of a frame the node originates (R112, R198): its own address as source, the
current cycle number as origin cycle, flags 0. -/
def State.frameBody (s : State) (kind destination tag : Byte) (payload : List Byte) : List Byte :=
  [kind, destination, s.address.getD 0, tag] ++ bytesOfWord s.cycle.number ++
    [BitVec.ofNat 8 payload.length, 0] ++ payload

/-- A frame the node originates, with its check (R106, R198). -/
def State.buildFrame (s : State) (kind destination tag : Byte) (payload : List Byte) : Frame :=
  let body := s.frameBody kind destination tag payload
  body ++ bytesOfWord (checkOf body)

/-- A NOTICE carrying a code: tag 0, to all nodes (R112, R198). -/
def State.noticeFrame (s : State) (code : Byte) : Frame := s.buildFrame 7 255 0 [code]

/-- Whether a frame is a NICHE REPORT (R198). -/
def isReport (f : Frame) : Bool := decide (f.head? = some 2)

/-- Whether a frame is a CYCLE MARK (R198). -/
def isMark (f : Frame) : Bool := decide (f.head? = some 1)

/-- The payload of a whole frame (R198). -/
def framePayload (f : Frame) : List Byte := (f.drop 8).take (byteAt f 6).toNat

/-- Whether a frame received passes the checks of R105. -/
def frameGood (f : Frame) : Bool :=
  decide (10 ≤ f.length ∧ f.length ≤ 130) && decide ((byteAt f 6).toNat ≤ 120) &&
    decide (f.length = 8 + (byteAt f 6).toNat + 2) &&
    decide (wordOf (byteAt f (f.length - 2)) (byteAt f (f.length - 1)) = checkOf (f.take (f.length - 2)))

/-! ## The transmit arbiter (R113) -/

/-- The arbiter's choice at an idle transmitter, by the first case of R113 that applies. -/
def PortState.choose (p : PortState) : PortState :=
  match p.insertQueue, p.pass with
  | [], [] => { p with sending := none }
  | [], f :: fs => { p with sending := some f, pass := fs }
  | i :: is, [] => { p with sending := some i, insertQueue := is, starvation := 0 }
  | i :: is, f :: fs =>
    if p.starvation = 4 then { p with sending := some i, insertQueue := is, starvation := 0 }
    else { p with sending := some f, pass := fs, starvation := p.starvation + 1 }

/-- The choice the arbiter makes when a frame enters a queue: none while it is sending (R113). -/
def PortState.kick (p : PortState) : PortState := if p.sending = none then p.choose else p

/-! ## Pass buffer and insert queue -/

/-- What becomes of a frame placed toward a port. -/
inductive Placement where
  | placed | dropped | lost
  deriving DecidableEq, Repr

/-- A frame placed in the pass buffer toward a port (R110); `lost` is the loss that latches
PASS_OVERFLOW. -/
def PortState.placePass (p : PortState) (f : Frame) : PortState × Placement :=
  if p.up = false ∧ isMark f = false then (p, .dropped)
  else if 4 ≤ p.pass.length then (p, .lost)
  else (({ p with pass := p.pass ++ [f] }).kick, .placed)

/-- The queued report replaced in its place (R111). -/
def replaceReport (f : Frame) : List Frame → List Frame
  | [] => []
  | g :: gs => if isReport g then f :: gs else g :: replaceReport f gs

/-- A frame queued in the insert queue of a port (R111, R112); `lost` is the loss that latches
INSERT_LOSS. -/
def PortState.placeInsert (p : PortState) (f : Frame) : PortState × Placement :=
  if p.up = false then (p, .dropped)
  else if isReport f && p.insertQueue.any isReport then
    ({ p with insertQueue := replaceReport f p.insertQueue }, .placed)
  else if 8 ≤ p.insertQueue.length then (p, .lost)
  else (({ p with insertQueue := p.insertQueue ++ [f] }).kick, .placed)

/-- A port gone DOWN: both queues emptied and the starvation count 0; a frame being sent is sent to its
end (R103, R104). -/
def PortState.goDown (p : PortState) : PortState :=
  { p with up := false, linkTimer := 0, pass := [], insertQueue := [], starvation := 0 }

/-- A good frame has arrived at a port: UP, with the link timer at 250 ms (R103). -/
def PortState.heard (p : PortState) : PortState := { p with up := true, linkTimer := 250 }

end Sys2Proof.Machine
end

