-- ==== Sys2Proof/Machine/Flags.lean ====
section
/-! DEFINITION. The event latch with its notices (R194), and the queuing of the frames the node
originates, whose loss latches INSERT_LOSS (R111). -/

namespace Sys2Proof.Machine

/-- The 24 event kinds (R194). -/
inductive EventKind where
  | linkADown | linkBDown | frameError | passOverflow | insertLoss | cycleBreak | unmarked | addressConflict
  | levelChange | channelFailed | fanFault | fanIsolated | doorForced | doorJammed | doorContactFault
  | neighbourSilent | queueOverflow | responseAbsent | responsePreempted | engineIdle | modeChange
  | storeDone | storeError | imageRefused
  deriving DecidableEq, Repr

/-- R194. -/
def EventKind.code : EventKind → Nat
  | .linkADown => 0 | .linkBDown => 1 | .frameError => 2 | .passOverflow => 3 | .insertLoss => 4
  | .cycleBreak => 5 | .unmarked => 6 | .addressConflict => 7 | .levelChange => 8 | .channelFailed => 9
  | .fanFault => 10 | .fanIsolated => 11 | .doorForced => 12 | .doorJammed => 13 | .doorContactFault => 14
  | .neighbourSilent => 15 | .queueOverflow => 16 | .responseAbsent => 17 | .responsePreempted => 18
  | .engineIdle => 19 | .modeChange => 20 | .storeDone => 21 | .storeError => 22 | .imageRefused => 23

/-- The event kinds in code order. -/
def EventKind.all : List EventKind :=
  [.linkADown, .linkBDown, .frameError, .passOverflow, .insertLoss, .cycleBreak, .unmarked, .addressConflict,
    .levelChange, .channelFailed, .fanFault, .fanIsolated, .doorForced, .doorJammed, .doorContactFault,
    .neighbourSilent, .queueOverflow, .responseAbsent, .responsePreempted, .engineIdle, .modeChange,
    .storeDone, .storeError, .imageRefused]

/-- The latch bit of a kind. -/
def eventBit (k : EventKind) : BitVec 24 := (1 : BitVec 24) <<< k.code

/-- Whether a kind stands latched. -/
def State.latched (s : State) (k : EventKind) : Bool := s.events.getLsbD k.code

/-- Whether the notice mask names a kind (R193). -/
def State.masked (s : State) (k : EventKind) : Bool := s.nodeTable.noticeMask.getLsbD k.code

/-- A kind's latch bit set, and nothing else. -/
def State.setEvent (s : State) (k : EventKind) : State := { s with events := s.events ||| eventBit k }

/-- One copy of an originated frame queued at a port (R111). -/
def State.insertAt (s : State) (p : Port) (f : Frame) : State × Bool :=
  let r := (s.port p).placeInsert f
  (s.setPort p r.1, decide (r.2 = .lost))

/-- A report or notice queued to every port that is UP, a copy each (R112); true if a copy was lost. -/
def State.insertBoth (s : State) (f : Frame) : State × Bool :=
  let a := s.insertAt .a f
  let b := a.1.insertAt .b f
  (b.1, a.2 || b.2)

/-- INSERT_LOSS latched, with its own notice, whose loss finds it latched (R111). -/
def State.latchInsertLoss (s : State) : State :=
  if s.latched .insertLoss then s
  else
    let s1 := s.setEvent .insertLoss
    if s1.masked .insertLoss && s1.address.isSome then (s1.insertBoth (s1.noticeFrame 4)).1 else s1

/-- A report or notice queued to every UP port (R111, R112). -/
def State.queueToAll (s : State) (f : Frame) : State :=
  let r := s.insertBoth f
  if r.2 then r.1.latchInsertLoss else r.1

/-- A reply queued to the port its request arrived on (R111, R112). -/
def State.queueTo (s : State) (p : Port) (f : Frame) : State :=
  let r := s.insertAt p f
  if r.2 then r.1.latchInsertLoss else r.1

/-- A NOTICE carrying a code queued, by a node with an address (R109, R194). -/
def State.notify (s : State) (code : Byte) : State :=
  if s.address.isSome then s.queueToAll (s.noticeFrame code) else s

/-- A kind latched: from clear, with its notice if its mask bit is set; already latched, nothing
(R194). -/
def State.latch (s : State) (k : EventKind) : State :=
  if s.latched k then s
  else
    let s1 := s.setEvent k
    if s1.masked k then s1.notify (BitVec.ofNat 8 k.code) else s1

end Sys2Proof.Machine
end

