-- ==== Sys2Proof/Machine/Signals.lean ====
section
/-! DEFINITION. What the Field Point Unit shows the units and drives for them (chapter 10): the point that
holds a signal, active levels, the outputs of the fans and doors, and the pins that follow them. -/

namespace Sys2Proof.Machine

/-- The point that holds a signal, if any (R178). -/
def holderIn (table : Vector PointEntry 64) (sig : Signal) : Option (Fin 64) :=
  (List.finRange 64).find? fun n => decide ((table[n]).signal = some sig)

/-- The point that holds a signal, if any (R178). -/
def State.holder (s : State) (sig : Signal) : Option (Fin 64) := holderIn s.pointTable sig

/-- Whether a level is active under a polarity (R178). -/
def activeLevel (p : Polarity) (high : Bool) : Bool :=
  match p with
  | .activeHigh => high
  | .activeLow => !high

/-- Whether a point's filtered level is active (R178, R181). -/
def State.pointActive (s : State) (n : Fin 64) : Bool := activeLevel (s.pointEntry n).polarity (s.point n).filtered

/-- The active level of an input signal: inactive while unassigned (R178). -/
def State.signalActive (s : State) (sig : Signal) : Bool :=
  match s.holder sig with
  | some n => s.pointActive n
  | none => false

/-- Whether a point holds a signal. -/
def State.assigned (s : State) (sig : Signal) : Bool := (s.holder sig).isSome

/-- The status code of an input: 0 inactive, 1 active, 2 no point assigned (R62, R101, R158). -/
def State.inputCode (s : State) (sig : Signal) : Int :=
  if s.assigned sig then flagCode (s.signalActive sig) else 2

/-! ## Outputs of the units -/

/-- The run output of a fan: on in STARTING, RUNNING and STOPPING (R48). -/
def Fan.runOutput (x : Fan) : Bool :=
  match x.mode with
  | .starting | .running | .stopping => true
  | _ => false

/-- The speed reference of a fan, 0 to 1000 (R48). -/
def Fan.speedReference (x : Fan) : Nat := if x.runOutput then x.ramp / 100 else 0

/-- The drive-open output of a door: on in OPENING (R85). -/
def Door.driveOpen (x : Door) : Bool := decide (x.mode = .opening)

/-- The drive-close output of a door: on in CLOSING (R85). -/
def Door.driveClose (x : Door) : Bool := decide (x.mode = .closing)

/-- The level an output signal's unit drives, active or inactive (R182); input signals have none. -/
def State.unitOutput (s : State) : Signal → Option Bool
  | .fanRun f => some (s.fan f).runOutput
  | .fanReverse f => some (decide ((s.fan f).direction = .rev))
  | .doorDriveOpen d => some (s.door d).driveOpen
  | .doorDriveClose d => some (s.door d).driveClose
  | _ => none

/-- Whether a point's pin is driven active, or inactive, or not driven (R182). -/
def State.outputActive (s : State) (n : Fin 64) : Option Bool :=
  match (s.pointEntry n).function with
  | .generalOut => some (s.point n).latch
  | _ => (s.pointEntry n).signal.bind s.unitOutput

/-- The level a pin is driven to, or none for a released pin (R182). -/
def State.driveLevel (s : State) (n : Fin 64) : Option Bool :=
  (s.outputActive n).map (activeLevel (s.pointEntry n).polarity)

/-! ## Filtering (R181) -/

/-- A pin that takes a new level: its hold count restarts. -/
def Point.takePin (x : Point) (high : Bool) : Point := { x with pin := high, hold := 0 }

/-- The pin's level accepted as the filtered level. -/
def Point.accept (x : Point) : Point := { x with filtered := x.pin, hold := 0 }

/-- Whether a point's pin differs from its filtered level for its whole filter time. -/
def Point.due (x : Point) (filterTime : Nat) : Bool := decide (x.pin ≠ x.filtered) && decide (filterTime ≤ x.hold)

/-- A point tick at one point: the hold count of a differing pin advances to its filter time, where the
acceptance (FILTER_ACCEPT) is due. -/
def Point.tick (x : Point) (filterTime : Nat) : Point :=
  if x.pin ≠ x.filtered ∧ x.hold < filterTime then { x with hold := x.hold + 1 } else x

/-- One pin following its drive (R182): a driven pin is filtered like any other (R181), and no input
signal stands on it. -/
def State.followPin (n : Fin 64) (s : State) : State :=
  match s.driveLevel n with
  | none => s
  | some high =>
    if (s.point n).pin = high then s
    else
      let x := (s.point n).takePin high
      s.setPoint n (if x.due (s.pointEntry n).filterTime then x.accept else x)

/-- Every driven pin following the outputs as an event leaves them (R182): an output that changes and changes back within
one event leaves its pin, and the pin's hold count, as they were (DESIGN CHOICE; assumption 54). -/
def State.followPins (s : State) : State := forEach State.followPin s

end Sys2Proof.Machine
end

