-- ==== Sys2Proof/Machine/Fans.lean ====
section
/-! DEFINITION. The Fan Drive Unit (chapters 3 and 4): the drive state machine, the resolution of the
demand slots and the pressurisation demand. -/

namespace Sys2Proof.Machine

/-! ## Resolution (R67, R68) -/

/-- The present response slots of a fan, the lowest activation sequence first (R67). -/
def insertBySequence (x : Fin 4 × ResponseDemand) : List (Fin 4 × ResponseDemand) → List (Fin 4 × ResponseDemand)
  | [] => [x]
  | y :: ys => if x.2.sequence < y.2.sequence then x :: y :: ys else y :: insertBySequence x ys

/-- The present response slots of a fan in the order that breaks ties (R67). -/
def Fan.responseOrder (x : Fan) : List (Fin 4 × ResponseDemand) :=
  (List.finRange 4).foldr
    (fun k acc => match x.responseSlots[k] with | some d => insertBySequence (k, d) acc | none => acc) []

/-- The present demands of a fan in tie order: line, responses, pressurisation (R67). -/
def Fan.demands (x : Fan) : List (Source × Demand) :=
  (x.lineSlot.toList.map fun d => (Source.line, d)) ++
    (x.responseOrder.map fun p => (Source.response p.1, p.2.demand)) ++
    (x.pressurisationSlot.toList.map fun d => (Source.pressurisation, d))

/-- The winner among demands in tie order: the highest precedence, the first of equals (R67). -/
def winnerOf : List (Source × Demand) → Option (Source × Demand)
  | [] => none
  | d :: ds =>
    match winnerOf ds with
    | none => some d
    | some w => if d.2.precedence < w.2.precedence then some w else some d

/-- The target a fan's slots resolve into (R68). -/
def Fan.resolved (e : FanEntry) (x : Fan) : Target :=
  match winnerOf x.demands with
  | none => { direction := .fwd, speed := 0, rate := e.defaultRate, source := .none }
  | some (source, d) =>
    { direction := d.direction
      speed := if d.speed = 0 then 0 else max d.speed e.minimumSpeed
      rate := d.rate
      source := source }

/-! ## The drive (R47 to R60) -/

/-- The run output off and the rotor left to coast for the full coast time: COASTING (R52, R56, R58,
R59, R60). -/
def Fan.coast (e : FanEntry) (x : Fan) : Fan :=
  { x with mode := .coasting, ramp := 0, startTimer := 0, lossTimer := none, coastTimer := e.coastTime * 100 }

/-- Confirmation of the run command: RUNNING (R52). -/
def Fan.confirmed (x : Fan) : Fan := { x with mode := .running, startTimer := 0, lossTimer := none }

/-- A start in STOPPED (R51), through STARTING at once where the confirm input is active or absent
(R52). -/
def Fan.start (e : FanEntry) (confirmed : Bool) (x : Fan) : Fan :=
  let started :=
    { x with direction := x.target.direction, mode := .starting, ramp := 0, startTimer := e.startTimeout * 100, lossTimer := none }
  if confirmed then started.confirmed else started

/-- Whether the target asks for running in the direction of the direction output. -/
def Fan.wantsSame (x : Fan) : Bool := decide (0 < x.target.speed) && decide (x.target.direction = x.direction)

/-- A target change reaching the drive (R50), acted on by the rule of its state (R51, R52, R54, R56, R57,
R58, R59, R60). -/
def Fan.act (e : FanEntry) (confirmed : Bool) (x : Fan) : Fan :=
  match x.mode with
  | .stopped => if 0 < x.target.speed then x.start e confirmed else x
  | .starting => if x.wantsSame then x else x.coast e
  | .running => if x.wantsSame then x else { x with mode := .stopping }
  | .stopping => if x.wantsSame then { x with mode := .running } else x
  | .coasting => x
  | .disabled => x
  | .fault => x
  | .isolated => x

/-- FAULT: run output off, ramp value 0, no timer running (R58). -/
def Fan.toFault (x : Fan) : Fan := { x with mode := .fault, ramp := 0, startTimer := 0, coastTimer := 0, lossTimer := none }

/-- ISOLATED: run output off, ramp value 0, any timer discarded (R59). -/
def Fan.toIsolated (x : Fan) : Fan :=
  { x with mode := .isolated, ramp := 0, startTimer := 0, coastTimer := 0, lossTimer := none }

/-- DISABLED, the direction output kept (R45, R60). -/
def Fan.toDisabled (x : Fan) : Fan :=
  { x with mode := .disabled, ramp := 0, startTimer := 0, coastTimer := 0, lossTimer := none }

/-- The ramp value after a tick toward a target value at a rate (R53). -/
def rampToward (target rate ramp : Nat) : Nat :=
  if ramp < target then min target (ramp + rate) else max target (ramp - rate)

/-- A confirm-loss timer after a tick: a running one falls by one and stays at 0 until its expiry is
taken (R49, R55). -/
def lossTick (t : Option Nat) : Option Nat := t.map fun n => n - 1

/-- One drive at a ramp tick (R49, R53, R55, R56, R57). -/
def Fan.tick (e : FanEntry) (x : Fan) : Fan :=
  match x.mode with
  | .starting => { x with startTimer := x.startTimer - 1 }
  | .running =>
    { x with
      ramp := if x.wantsSame then rampToward (x.target.speed * 100) x.target.rate x.ramp else x.ramp
      lossTimer := lossTick x.lossTimer }
  | .stopping =>
    if x.ramp ≤ x.target.rate then x.coast e
    else { x with ramp := x.ramp - x.target.rate, lossTimer := lossTick x.lossTimer }
  | .coasting => { x with coastTimer := x.coastTimer - 1 }
  | .disabled => x
  | .stopped => x
  | .fault => x
  | .isolated => x

/-- The confirm input becoming active, or inactive (R52, R55). -/
def Fan.confirmChange (e : FanEntry) (active : Bool) (x : Fan) : Fan :=
  match x.mode with
  | .starting => if active then x.confirmed else x
  | .running | .stopping => { x with lossTimer := if active then none else some (e.lossTolerance * 10) }
  | _ => x

/-! ## The unit in the machine -/

/-- Whether a starting drive counts as confirmed at once: no FAN_CONFIRM point, or an active one
(R46, R52). -/
def State.fanConfirmed (s : State) (f : Fin 6) : Bool :=
  !s.assigned (.fanConfirm f) || s.signalActive (.fanConfirm f)

/-- A resolution of a fan: its target formed anew and handed to the drive as one target change
(R50, R68). -/
def State.resolveFan (f : Fin 6) (s : State) : State :=
  let e := s.fanEntry f
  let x := s.fan f
  s.setFan f (({ x with target := x.resolved e }).act e (s.fanConfirmed f))

/-- Whether a door adds its boost to a gallery fan: it names the fan and its closed contact is not
active (R75). -/
def State.boosts (s : State) (f : Fin 6) (d : Fin 6) : Bool :=
  decide ((s.doorEntry d).galleryFan = some f) && !s.signalActive (.doorClosed d)

/-- The pressurisation demand speed of a gallery fan (R74). -/
def State.pressurisationSpeed (s : State) (f : Fin 6) : Nat :=
  let base := if s.engine.mode = .incident then (s.fanEntry f).standbySpeed else 0
  let sum := ((List.finRange 6).map fun d => if s.boosts f d then (s.doorEntry d).boost else 0).sum
  min 1000 (base + sum)

/-- The pressurisation slot a fan is to have (R74). -/
def State.pressurisationDemand (s : State) (f : Fin 6) : Option Demand :=
  let e := s.fanEntry f
  if e.gallery ∧ 0 < s.pressurisationSpeed f then
    some
      { precedence := s.nodeTable.pressurisationPrecedence, direction := e.pressurisationDirection,
        speed := s.pressurisationSpeed f, rate := e.defaultRate }
  else none

/-- A fan's pressurisation slot written, without a resolution. -/
def State.writePressurisation (f : Fin 6) (s : State) : State :=
  s.setFan f { s.fan f with pressurisationSlot := s.pressurisationDemand f }

/-- A recomputation of a fan's pressurisation slot: a different content is written and the fan is
reached by one resolution (R76). -/
def State.recomputePressurisation (f : Fin 6) (s : State) : State :=
  if s.pressurisationDemand f = (s.fan f).pressurisationSlot then s
  else (s.writePressurisation f).resolveFan f

/-- A recomputation of every gallery fan (R76). -/
def State.recomputeGallery (s : State) : State :=
  forEach (fun f s => if (s.fanEntry f).gallery then s.recomputePressurisation f else s) s

/-- A recomputation for the fan a door names, if any (R76). -/
def State.recomputeFor (fan : Option (Fin 6)) (s : State) : State :=
  match fan with
  | some f => s.recomputePressurisation f
  | none => s

/-- A drive gone to FAULT, with its key and event (R52, R54, R61). -/
def State.fanToFault (f : Fin 6) (s : State) : State :=
  (((s.setFan f (s.fan f).toFault).offer (plainKey .fanFault f.val))).latch .fanFault

/-- A drive gone to ISOLATED, with its key and event (R59, R61). -/
def State.fanToIsolated (f : Fin 6) (s : State) : State :=
  ((s.setFan f (s.fan f).toIsolated).offer (plainKey .fanIsolated f.val)).latch .fanIsolated

/-- The confirm input of a fan changed (R52, R55). -/
def State.fanConfirmChange (f : Fin 6) (active : Bool) (s : State) : State :=
  s.setFan f ((s.fan f).confirmChange (s.fanEntry f) active)

/-- The isolator input of a fan changed (R59): active isolates any drive but a DISABLED or ISOLATED one,
inactive releases an ISOLATED one. -/
def State.fanIsolatorChange (f : Fin 6) (active : Bool) (s : State) : State :=
  match (s.fan f).mode, active with
  | .disabled, _ => s
  | .isolated, true => s
  | .isolated, false => s.setFan f ((s.fan f).coast (s.fanEntry f))
  | _, true => s.fanToIsolated f
  | _, false => s

/-- A drive leaving DISABLED for a fan made present (R60). -/
def State.fanBecomesPresent (f : Fin 6) (s : State) : State :=
  if s.signalActive (.fanIsolator f) then s.fanToIsolated f
  else s.setFan f ((s.fan f).coast (s.fanEntry f))

/-- A fan made absent: DISABLED, its line and response slots absent (R45, R73). -/
def Fan.madeAbsent (x : Fan) : Fan :=
  { x.toDisabled with lineSlot := none, responseSlots := Vector.replicate 4 none }

/-- What a taken Fan Table write does to its fan, the entry stored already (R45, R60, R73, R76). -/
def State.fanWritten (f : Fin 6) (old : FanEntry) (s : State) : State :=
  let e := s.fanEntry f
  let moved :=
    if old.present = false ∧ e.present = true then s.fanBecomesPresent f
    else if old.present = true ∧ e.present = false then s.setFan f (s.fan f).madeAbsent
    else s
  (moved.writePressurisation f).resolveFan f

/-- Whether a drive's state lets its entry and points be changed (R44). -/
def Fan.free (x : Fan) : Bool :=
  match x.mode with
  | .disabled | .stopped | .isolated => true
  | _ => false

/-- A fan's starting state when the units start (R64, R79): no key and no event. -/
def State.startFan (f : Fin 6) (s : State) : State :=
  let e := s.fanEntry f
  let x := s.fan f
  let mode :=
    if e.present = false then x.toDisabled
    else if s.signalActive (.fanIsolator f) then x.toIsolated
    else x.coast e
  ((s.setFan f mode).writePressurisation f).resolveFan f

/-- A drive at RESTART: outputs off, timers discarded, every slot absent, the direction output kept
(R65, R79). -/
def Fan.restarted (x : Fan) : Fan := { Fan.reset with direction := x.direction }

/-! ## The fan events -/

/-- RAMP_TICK (R49): every drive in one tick, once the units have started. -/
def rampTickEffect (s : State) : State :=
  if s.started then forEach (fun f s => s.setFan f ((s.fan f).tick (s.fanEntry f))) s else s

/-- START_TIMER_EXPIRY (R52): due in STARTING with the start timer at 0. -/
def startTimerExpiryEffect (f : Fin 6) (s : State) : State :=
  if (s.fan f).mode = .starting ∧ (s.fan f).startTimer = 0 then s.fanToFault f else s

/-- CONFIRM_LOSS_TIMER_EXPIRY (R54, R55, R56): due in RUNNING and STOPPING with the timer at 0. -/
def lossTimerExpiryEffect (f : Fin 6) (s : State) : State :=
  if ((s.fan f).mode = .running ∨ (s.fan f).mode = .stopping) ∧ (s.fan f).lossTimer = some 0 then s.fanToFault f else s

/-- COAST_TIMER_EXPIRY (R57): due in COASTING with the coast timer at 0; STOPPED, and at once the
target standing (R51). -/
def coastTimerExpiryEffect (f : Fin 6) (s : State) : State :=
  if (s.fan f).mode = .coasting ∧ (s.fan f).coastTimer = 0 then
    s.setFan f (({ s.fan f with mode := .stopped }).act (s.fanEntry f) (s.fanConfirmed f))
  else s

end Sys2Proof.Machine
end

