-- ==== Sys2Proof/Machine/Doors.lean ====
section
/-! DEFINITION. The Door Supervisor (chapter 5): contacts, open requests, holds, the door state machine and
the derivation of a state from the contacts. -/

namespace Sys2Proof.Machine

/-! ## Contacts (R84) -/

/-- What a door's two contacts show. -/
inductive Contacts where
  | closed | opened | neither | conflict
  deriving DecidableEq, Repr

/-- The contacts of a door as a pair (R84). -/
def contactsOf (closedActive openActive : Bool) : Contacts :=
  match closedActive, openActive with
  | true, false => .closed
  | false, true => .opened
  | false, false => .neither
  | true, true => .conflict

/-- What a door's contacts show now (R84). -/
def State.contacts (s : State) (d : Fin 6) : Contacts :=
  contactsOf (s.signalActive (.doorClosed d)) (s.signalActive (.doorOpen d))

/-- Whether both contact points of a door are assigned (R95, R96). -/
def State.contactsAssigned (s : State) (d : Fin 6) : Bool := s.assigned (.doorClosed d) && s.assigned (.doorOpen d)

/-- Whether a door is held: one of its five hold slots is present (R80). -/
def Door.held (x : Door) : Bool := x.lineHold || x.responseHolds.toList.any id

/-! ## Entries into states -/

/-- OPENING with a full travel timer (R90, R93, R94). -/
def Door.toOpening (e : DoorEntry) (x : Door) : Door :=
  { x with mode := .opening, travelTimer := e.travelLimit * 100, dwellTimer := 0 }

/-- CLOSING with a full travel timer (R92, R94). -/
def Door.toClosing (e : DoorEntry) (x : Door) : Door :=
  { x with mode := .closing, travelTimer := e.travelLimit * 100, dwellTimer := 0 }

/-- OPEN with a full dwell (R91, R94, R95). -/
def Door.toOpen (e : DoorEntry) (x : Door) : Door :=
  { x with mode := .opened, travelTimer := 0, dwellTimer := e.dwell * 100 }

/-- A state without drives and timers (R92, R94, R96, R97, R99). -/
def Door.toRest (mode : DoorMode) (x : Door) : Door := { x with mode := mode, travelTimer := 0, dwellTimer := 0 }

/-- The dwell restarted (R86, R92). -/
def Door.restartDwell (e : DoorEntry) (x : Door) : Door := { x with dwellTimer := e.dwell * 100 }

/-- A door entering OPEN, with DOOR_OPENED (R91, R100). -/
def State.doorOpens (d : Fin 6) (s : State) : State :=
  (s.setDoor d ((s.door d).toOpen (s.doorEntry d))).offer (plainKey .doorOpened d.val)

/-- A door entering OPENING, or OPEN where its contacts show open already (R90, R91). -/
def State.doorStartsOpening (d : Fin 6) (s : State) : State :=
  if s.contacts d = .opened then s.doorOpens d else s.setDoor d ((s.door d).toOpening (s.doorEntry d))

/-- A door entering CLOSED, with DOOR_SHUT, and on into OPENING where it is held (R90, R92, R93, R94). -/
def State.doorShuts (d : Fin 6) (s : State) : State :=
  let shut := (s.setDoor d ((s.door d).toRest .closed)).offer (plainKey .doorShut d.val)
  if (s.door d).held then shut.doorStartsOpening d else shut

/-- A door entering CLOSING, or CLOSED where its contacts show closed already (R92, R93). -/
def State.doorStartsClosing (d : Fin 6) (s : State) : State :=
  if s.contacts d = .closed then s.doorShuts d else s.setDoor d ((s.door d).toClosing (s.doorEntry d))

/-- A door entering JAMMED, with its key and event (R91, R93, R100). -/
def State.doorJams (d : Fin 6) (s : State) : State :=
  ((s.setDoor d ((s.door d).toRest .jammed)).offer (plainKey .doorJammed d.val)).latch .doorJammed

/-- A door entering CONTACT_FAULT, with its key and event (R96, R100). -/
def State.doorContactFaults (d : Fin 6) (s : State) : State :=
  ((s.setDoor d ((s.door d).toRest .contactFault)).offer (plainKey .doorContactFault d.val)).latch .doorContactFault

/-- A door forced out of CLOSED, with its key and event (R90, R100). -/
def State.doorForced (d : Fin 6) (s : State) : State :=
  ((s.offer (plainKey .doorForced d.val)).latch .doorForced).doorStartsOpening d

/-! ## Derivation (R95) -/

/-- A door's state derived from its contacts, with the key and event of the state entered (R95, R100). -/
def State.deriveDoor (d : Fin 6) (s : State) : State :=
  if s.contactsAssigned d = false then s.doorContactFaults d
  else
    match s.contacts d with
    | .conflict => s.doorContactFaults d
    | .closed => s.doorShuts d
    | .opened => s.doorOpens d
    | .neither => s.doorJams d

/-- The door a derivation without keys leaves: at the start of the units and at a door becoming present,
where no hold is present (R95, R99, R102). -/
def State.derivedDoor (s : State) (d : Fin 6) (x : Door) : Door :=
  if s.contactsAssigned d = false then x.toRest .contactFault
  else
    match s.contacts d with
    | .conflict => x.toRest .contactFault
    | .closed => x.toRest .closed
    | .opened => x.toOpen (s.doorEntry d)
    | .neither => x.toRest .jammed

/-- A door's state derived without keys and events (R95). -/
def State.deriveDoorSilently (d : Fin 6) (s : State) : State := s.setDoor d (s.derivedDoor d (s.door d))

/-! ## Contact changes (R84, R90 to R96) -/

/-- Which contact of a door changed. -/
inductive Contact where
  | closedContact | openContact
  deriving DecidableEq, Repr

/-- What a change of a contact does to the door, by the rule of its state (R90 to R97).  `active` is the
changed contact's new level; a contact point gained is a change here whatever its level (R84, R96).  A door in
CONTACT_FAULT that comes to show a conflict stays there without key and event (DESIGN CHOICE; assumption 51). -/
def State.doorTakesContact (d : Fin 6) (which : Contact) (active : Bool) (s : State) : State :=
  match (s.door d).mode with
  | .disabled => s
  | .outOfService => s
  | .contactFault =>
    if s.contactsAssigned d ∧ s.contacts d ≠ .conflict then s.deriveDoor d else s
  | .closed =>
    if s.contacts d = .conflict then s.doorContactFaults d
    else if which = .closedContact ∧ active = false then s.doorForced d
    else s
  | .opening =>
    if s.contacts d = .conflict then s.doorContactFaults d
    else if which = .openContact ∧ active = true then s.doorOpens d
    else s
  | .opened =>
    if s.contacts d = .conflict then s.doorContactFaults d
    else if which = .closedContact ∧ active = true then s.doorShuts d
    else s
  | .closing =>
    if s.contacts d = .conflict then s.doorContactFaults d
    else if which = .closedContact ∧ active = true then s.doorShuts d
    else s
  | .jammed =>
    if s.contacts d = .conflict then s.doorContactFaults d
    else if which = .closedContact ∧ active = true then s.doorShuts d
    else if which = .openContact ∧ active = true then s.doorOpens d
    else s

/-- The closed contact of a door handed to the Fan Drive Unit, whatever the door's state (R84, R76). -/
def State.handClosedContact (d : Fin 6) (which : Contact) (s : State) : State :=
  match which with
  | .closedContact => s.recomputeFor (s.doorEntry d).galleryFan
  | .openContact => s

/-- A change of a door's contact: the door takes it and a closed contact is handed on (R84). -/
def State.doorContactChange (d : Fin 6) (which : Contact) (active : Bool) (s : State) : State :=
  (s.doorTakesContact d which active).handClosedContact d which

/-- A door that loses a contact point: CONTACT_FAULT for a present door in service (R84, R96).  One that is in
CONTACT_FAULT already, as where both points are lost in one write, stays there without a second key and event (DESIGN
CHOICE: R96 lists no loss in that state; assumption 51). -/
def State.doorContactLost (d : Fin 6) (which : Contact) (s : State) : State :=
  let faulted :=
    match (s.door d).mode with
    | .disabled | .outOfService | .contactFault => s
    | _ => s.doorContactFaults d
  faulted.handClosedContact d which

/-! ## Open requests and holds (R87 to R94) -/

/-- An open request at a door, by the rule of its state (R87, R90 to R97). -/
def State.openRequest (d : Fin 6) (s : State) : State :=
  match (s.door d).mode with
  | .closed => s.doorStartsOpening d
  | .opening => s
  | .opened => s.setDoor d ((s.door d).restartDwell (s.doorEntry d))
  | .closing => s.doorStartsOpening d
  | .jammed => s.doorStartsOpening d
  | .contactFault => s
  | .outOfService => s
  | .disabled => s

/-- What is left to do after a hold slot of a door was made absent: the last one restarts the dwell in
OPEN (R88, R92). -/
def Door.afterWithdrawal (e : DoorEntry) (x : Door) : Door :=
  if x.mode = .opened ∧ x.held = false then x.restartDwell e else x

/-- A response hold slot made absent: an absent one is not reached (R88). -/
def State.withdrawHold (d : Fin 6) (k : Fin 4) (s : State) : State :=
  let x := s.door d
  if x.responseHolds[k] then
    s.setDoor d (({ x with responseHolds := x.responseHolds.set k false }).afterWithdrawal (s.doorEntry d))
  else s

/-- A response hold slot written, which is an open request (R87, R88). -/
def State.writeHold (d : Fin 6) (k : Fin 4) (s : State) : State :=
  let x := s.door d
  (s.setDoor d { x with responseHolds := x.responseHolds.set k true }).openRequest d

/-- The line hold slot written, which is an open request (R89). -/
def State.writeLineHold (d : Fin 6) (s : State) : State :=
  (s.setDoor d { s.door d with lineHold := true }).openRequest d

/-- The line hold slot made absent: an absent one is not reached (R89). -/
def State.withdrawLineHold (d : Fin 6) (s : State) : State :=
  let x := s.door d
  if x.lineHold then s.setDoor d (({ x with lineHold := false }).afterWithdrawal (s.doorEntry d)) else s

/-! ## Orders at one door (R97, R98): the state after it and whether the door took it -/

/-- DOOR OPEN (R98): refused in CONTACT_FAULT and OUT_OF_SERVICE. -/
def State.doorOrderOpen (d : Fin 6) (s : State) : State × Bool :=
  match (s.door d).mode with
  | .contactFault | .outOfService => (s, false)
  | _ => (s.openRequest d, true)

/-- DOOR HOLD (R89, R98). -/
def State.doorOrderHold (d : Fin 6) (s : State) : State × Bool := (s.writeLineHold d, true)

/-- DOOR FREE (R89, R98). -/
def State.doorOrderFree (d : Fin 6) (s : State) : State × Bool := (s.withdrawLineHold d, true)

/-- DOOR CLOSE (R90 to R94, R98). -/
def State.doorOrderClose (d : Fin 6) (s : State) : State × Bool :=
  match (s.door d).mode with
  | .closed => (s, true)
  | .opened | .jammed => if (s.door d).held then (s, false) else (s.doorStartsClosing d, true)
  | _ => (s, false)

/-- DOOR SERVICE OFF (R97, R98). -/
def State.doorOrderServiceOff (d : Fin 6) (s : State) : State × Bool :=
  (s.setDoor d ((s.door d).toRest .outOfService), true)

/-- DOOR SERVICE ON (R97, R98): a door in any other state is left unchanged. -/
def State.doorOrderServiceOn (d : Fin 6) (s : State) : State × Bool :=
  if (s.door d).mode = .outOfService then (s.deriveDoor d, true) else (s, true)

/-! ## Table writes, start and reset -/

/-- Whether a door's state lets its entry be changed (R83). -/
def Door.entryFree (x : Door) : Bool :=
  match x.mode with
  | .disabled | .closed | .outOfService => true
  | _ => false

/-- Whether a present door's state lets its points be changed (R83). -/
def Door.pointsFree (x : Door) : Bool :=
  match x.mode with
  | .closed | .outOfService => true
  | _ => false

/-- A door with all five hold slots absent. -/
def Door.unheld (x : Door) : Door := { x with responseHolds := Vector.replicate 4 false, lineHold := false }

/-- What a taken Door Table write does to its door, the entry stored already (R76, R99). -/
def State.doorWritten (d : Fin 6) (old : DoorEntry) (s : State) : State :=
  let e := s.doorEntry d
  let moved :=
    if old.present = false ∧ e.present = true then (s.setDoor d (s.door d).unheld).deriveDoorSilently d
    else if old.present = true ∧ e.present = false then s.setDoor d (((s.door d).toRest .disabled).unheld)
    else s
  if old.galleryFan = e.galleryFan ∧ old.boost = e.boost then moved
  else (moved.recomputeFor old.galleryFan).recomputeFor e.galleryFan

/-- A door's starting state when the units start (R95, R102). -/
def State.startDoor (d : Fin 6) (s : State) : State :=
  if (s.doorEntry d).present then s.deriveDoorSilently d else s.setDoor d ((s.door d).toRest .disabled)

/-- One door at a door tick (R86). -/
def Door.tick (x : Door) : Door :=
  match x.mode with
  | .opening | .closing => { x with travelTimer := x.travelTimer - 1 }
  | .opened => { x with dwellTimer := x.dwellTimer - 1 }
  | _ => x

/-! ## The door events -/

/-- DOOR_TICK (R86): every door in one tick, once the units have started. -/
def doorTickEffect (s : State) : State :=
  if s.started then forEach (fun d s => s.setDoor d (s.door d).tick) s else s

/-- TRAVEL_TIMER_EXPIRY (R91, R93): due in OPENING and CLOSING with the travel timer at 0. -/
def travelTimerExpiryEffect (d : Fin 6) (s : State) : State :=
  if ((s.door d).mode = .opening ∨ (s.door d).mode = .closing) ∧ (s.door d).travelTimer = 0 then s.doorJams d else s

/-- DWELL_EXPIRY (R92): due in OPEN with the dwell timer at 0; a held door stays OPEN. -/
def dwellExpiryEffect (d : Fin 6) (s : State) : State :=
  if (s.door d).mode = .opened ∧ (s.door d).dwellTimer = 0 ∧ (s.door d).held = false then s.doorStartsClosing d else s

end Sys2Proof.Machine
end

