-- ==== Sys2Proof/Machine/SlotReads.lean ====
section
/-! DEFINITION. The slot service of the Retained Store Controller (R172, R173): requests, reads, and the
suspension of an erase. -/

namespace Sys2Proof.Machine

/-- n bytes of free value, each fresh (assumption 1). -/
def State.freeBytes (s : State) (n : Nat) : List Byte := (List.range n).map fun i => Config.freeByte (s.freeCount + i)

/-- A page left with any byte holding any value, by an abort or a reset (R171, R176). -/
def State.scramblePage (s : State) (p : Option (Fin 48)) : State :=
  match p with
  | some p => { s with store := s.store.setPage p (s.freeBytes 512), freeCount := s.freeCount + 512 }
  | none => s

/-- A page part erased by a pulse that is broken off: each byte between its old value and FFh (R169,
R173). -/
def State.partErase (s : State) (p : Option (Fin 48)) : State :=
  match p with
  | some p =>
    { s with
      store := s.store.setPage p (List.zipWith (fun old free => old ||| free) (s.store.page p) (s.freeBytes 512))
      freeCount := s.freeCount + 512 }
  | none => s

/-- A read of a response's page begun: the page as it stands now (R172). -/
def State.beginRead (s : State) (r : SlotRequest) : State :=
  s.setStore { s.store with service := .reading r.number r.dropped (s.store.page (responsePage r.number)) }

/-- A request served by the store state it finds (R172): read at once, or left waiting for the erase to
be suspended or the program to end. -/
def State.serve (s : State) (r : SlotRequest) : State :=
  match s.store.mode with
  | .ready | .eraseSet | .programSet => s.beginRead r
  | .erasing | .eraseSuspended | .programming =>
    s.setStore { s.store with service := .waiting r.number r.dropped }

/-- A request reaching the slot service: one that is busy makes it wait behind (R172). -/
def State.requestSlot (s : State) (n : Fin 128) : State :=
  match s.store.service with
  | .idle => s.serve { number := n, dropped := false }
  | _ => s.setStore { s.store with behind := s.store.behind ++ [{ number := n, dropped := false }] }

/-- A request that waited, served when the store state lets it (R171, R172, R173). -/
def State.serveWaiting (s : State) : State :=
  match s.store.service with
  | .waiting n dropped => s.serve { number := n, dropped := dropped }
  | _ => s

/-- The service idle again: the next waiting request is served (R172). -/
def State.serviceIdle (s : State) : State :=
  match s.store.behind with
  | [] => s.setStore { s.store with service := .idle }
  | r :: rest => (s.setStore { s.store with service := .idle, behind := rest }).serve r

/-- A read that ends in ERASE_SUSPENDED: the erase resumes with the broken-off pulse in full, or, aborted
meanwhile, the store is READY (R171, R173). -/
def StoreState.resumed (x : StoreState) : StoreState :=
  if x.mode = .eraseSuspended then { x with mode := if x.operationPage.isSome then .erasing else .ready } else x

/-- The end of a slot read: the erase resumes and the service turns to the next request (R172, R173). -/
def State.endRead (s : State) : State := (s.setStore s.store.resumed).serviceIdle

/-- ERASE_SUSPEND (R173): due in ERASING with a request waiting; the current pulse is broken off,
uncounted, and the read begins. -/
def eraseSuspendEffect (s : State) : State :=
  match s.store.mode, s.store.service with
  | .erasing, .waiting n dropped =>
    let broken := s.partErase s.store.operationPage
    (broken.setStore { broken.store with mode := .eraseSuspended }).beginRead { number := n, dropped := dropped }
  | _, _ => s

end Sys2Proof.Machine
end

