-- ==== Sys2Proof/Machine/Engine.lean ====
section
/-! DEFINITION. The Response Engine (chapter 8): trigger matching, the dispatch queue, fetches, activation,
endings and node mode. -/

namespace Sys2Proof.Machine

/-! ## Fetch condition (R143) -/

/-- Whether the Active Table has a free slot. -/
def EngineState.hasFree (e : EngineState) : Bool := e.active.toList.any fun a => a.isNone

/-- Whether a precedence is strictly higher than the lowest among the active responses (R143). -/
def EngineState.outranksLowest (e : EngineState) (p : Nat) : Bool :=
  e.active.toList.any fun a => match a with | some r => decide (r.precedence < p) | none => false

/-- The fetch condition examined: a head that may go becomes the fetch in flight and its slot is asked
for (R143). -/
def State.examineFetch (s : State) : State :=
  match s.engine.fetch, s.engine.queue with
  | none, h :: rest =>
    if s.engine.hasFree || s.engine.outranksLowest h.precedence then
      (s.setEngine
        { s.engine with
          queue := rest
          fetch := some { number := h.number, precedence := h.precedence, cancelled := false, disturbed := false } }).requestSlot
        h.number
    else s
  | _, _ => s

/-! ## Dispatch (R140 to R142) -/

/-- How a dispatch request came out (R140). -/
inductive DispatchResult where
  | absent | done | queueFull
  deriving DecidableEq, Repr

/-- Whether a response is active. -/
def EngineState.isActive (e : EngineState) (n : Fin 128) : Bool :=
  e.active.toList.any fun a => match a with | some r => decide (r.number = n) | none => false

/-- Whether a response is queued. -/
def EngineState.isQueued (e : EngineState) (n : Fin 128) : Bool := e.queue.any fun q => decide (q.number = n)

/-- Whether a response is in fetch. -/
def EngineState.isFetching (e : EngineState) (n : Fin 128) : Bool :=
  match e.fetch with
  | some f => decide (f.number = n)
  | none => false

/-- A newcomer's place: behind every entry of equal or higher precedence (R142). -/
def enqueue (q : Queued) : List Queued → List Queued
  | [] => [q]
  | h :: rest => if h.precedence < q.precedence then q :: h :: rest else h :: enqueue q rest

/-- An absorbed request takes the cancel mark off the fetch of its number (R141). -/
def EngineState.absorb (e : EngineState) (n : Fin 128) : EngineState :=
  match e.fetch with
  | some f => if f.number = n then { e with fetch := some { f with cancelled := false } } else e
  | none => e

/-- A dispatch request by the first case of R140 that applies. -/
def State.dispatch (n : Fin 128) (s : State) : State × DispatchResult :=
  match s.engine.index[n] with
  | none => (s.latch .responseAbsent, .absent)
  | some info =>
    let e := s.engine
    let q : Queued := { number := n, precedence := info.precedence }
    if e.isQueued n || e.isFetching n || e.isActive n then (s.setEngine (e.absorb n), .done)
    else if e.queue.length < 4 then ((s.setEngine { e with queue := enqueue q e.queue }).examineFetch, .done)
    else
      match e.queue.getLast? with
      | some last =>
        if last.precedence < info.precedence then
          (((s.setEngine { e with queue := enqueue q e.queue.dropLast }).latch .queueOverflow).examineFetch, .done)
        else (s.latch .queueOverflow, .queueFull)
      | none => (s.latch .queueOverflow, .queueFull)

/-! ## Endings (R148 to R151) -/

/-- The demands of Active Table slot k withdrawn: response slot k of every fan and response hold slot k
of every door (R70, R88). -/
def State.withdrawSlot (k : Fin 4) (s : State) : State :=
  let fans :=
    forEach
      (fun f s =>
        let x := s.fan f
        if (x.responseSlots[k]).isSome then
          (s.setFan f { x with responseSlots := x.responseSlots.set k none }).resolveFan f
        else s)
      s
  forEach (fun d s => s.withdrawHold d k) fans

/-- Active Table slot k freed. -/
def State.freeSlot (k : Fin 4) (s : State) : State :=
  s.setEngine { s.engine with active := s.engine.active.set k none }

/-- ENGINE_IDLE latched where the table, the queue and the fetch are empty after an end (R151). -/
def State.checkIdle (s : State) : State :=
  if s.engine.active.toList.all (fun a => a.isNone) && s.engine.queue.isEmpty && s.engine.fetch.isNone then
    s.latch .engineIdle
  else s

/-- The Active Table slot of a response, if it is active. -/
def EngineState.slotOf (e : EngineState) (n : Fin 128) : Option (Fin 4) :=
  (List.finRange 4).find? fun k => match e.active[k] with | some r => decide (r.number = n) | none => false

/-- A cancel request at the place where the number stands (R150). -/
def State.cancel (n : Fin 128) (s : State) : State :=
  let e := s.engine
  if e.isQueued n then (s.setEngine { e with queue := e.queue.filter fun q => decide (q.number ≠ n) }).examineFetch
  else
    match e.slotOf n with
    | some k => (((s.withdrawSlot k).freeSlot k).checkIdle).examineFetch
    | none =>
      match e.fetch with
      | some f => if f.number = n then s.setEngine { e with fetch := some { f with cancelled := true } } else s
      | none => s

/-- HOLD_TIMER_EXPIRY (R148, R149): an active response whose hold timer has run down to 0 ends and hands on to its
successor. -/
def holdTimerExpiryEffect (k : Fin 4) (s : State) : State :=
  match s.engine.active[k] with
  | some r =>
    if r.hold = some 0 then
      let freed := (s.withdrawSlot k).freeSlot k
      let handed := match r.successor with | some n => (freed.dispatch n).1 | none => freed
      handed.checkIdle.examineFetch
    else s
  | none => s

/-! ## Trigger keys (R134, R137) -/

/-- Whether an entry matches a key under a node mode (R137). -/
def TriggerEntry.matchesKey (t : TriggerEntry) (mode : NodeMode) (k : Key) : Bool :=
  t.enabled && decide (t.kind = k.kind) &&
    (match t.selector with
      | .any => true
      | .index => decide (t.selectorValue = k.index)
      | .cls => match k.cls with | some c => decide (t.selectorValue = c.code) | none => false) &&
    (match k.kind with
      | .levelUp => decide (t.levelOperand ≤ k.level)
      | .levelDown => decide (k.level ≤ t.levelOperand)
      | _ => true) &&
    t.modeFilter.getLsbD mode.code

/-- The request a matching entry makes (R137). -/
def State.triggerRequest (t : TriggerEntry) (s : State) : State :=
  match t.action with
  | .dispatch => (s.dispatch t.response).1
  | .cancel => s.cancel t.response

/-- One key taken whole: entries 0 to 63 in order, under the mode standing when the key is taken
(R137). -/
def State.takeKey (s : State) (k : Key) : State :=
  let mode := s.engine.mode
  forEach (fun (i : Fin 64) s => let t := s.triggerTable[i]; if t.matchesKey mode k then s.triggerRequest t else s) s

/-- The keys the present event has emitted, taken in the order of their emission (R134, assumption 12).
Taking a key emits none. -/
def State.takeKeys (s : State) : State := s.keys.foldl State.takeKey { s with keys := [] }

/-! ## Node mode (R153 to R156) -/

/-- A change of node mode: the five steps of R156.  The doors out of service are derived, and their keys emitted, in door
number order (DESIGN CHOICE: R156 gives no order between doors; assumption 49). -/
def State.changeMode (m : NodeMode) (s : State) : State :=
  let recomputed := (s.setEngine { s.engine with mode := m }).recomputeGallery
  let served :=
    if m = .incident then
      (forEach (fun d s => if (s.door d).mode = .outOfService then s.deriveDoor d else s) recomputed).takeKeys
    else recomputed
  ((served.latch .modeChange).offer (plainKey .modeEntered m.code)).takeKeys

/-- Node mode entering INCIDENT, where it does not stand in it (R154). -/
def State.enterIncident (s : State) : State := if s.engine.mode = .incident then s else s.changeMode .incident

/-- A change of the maintenance key's active level (R155). -/
def State.maintKeyChange (active : Bool) (s : State) : State :=
  match s.engine.mode, active with
  | .normal, true => s.changeMode .maintenance
  | .maintenance, false => s.changeMode .normal
  | _, _ => s

/-! ## Activation (R145 to R147) -/

/-- The demand one fan action gives the fan it names (R69). -/
def Action.fanDemand (a : Action) (e : FanEntry) (precedence : Nat) : Option (Fin 6 × Demand) :=
  match a with
  | .fanRun f dir speed rate => some (f, { precedence := precedence, direction := dir, speed := speed, rate := rate })
  | .fanHoldStop f => some (f, { precedence := precedence, direction := .fwd, speed := 0, rate := e.defaultRate })
  | _ => none

/-- The demand a record gives a fan: the last fan action naming it (R69). -/
def ResponseRecord.demandFor (r : ResponseRecord) (e : FanEntry) (f : Fin 6) : Option Demand :=
  (r.actions.filterMap fun a => match a.fanDemand e r.precedence with | some (g, d) => if g = f then some d else none | none => none).getLast?

/-- Whether a record holds a door (R88). -/
def ResponseRecord.holds (r : ResponseRecord) (d : Fin 6) : Bool :=
  r.actions.any fun a => match a with | .doorHold set => set.getLsbD d.val | _ => false

/-- Whether a record opens a door (R87). -/
def ResponseRecord.opens (r : ResponseRecord) (d : Fin 6) : Bool :=
  r.actions.any fun a => match a with | .doorOpen set => set.getLsbD d.val | _ => false

/-- The notice codes of a record, in record order (R146). -/
def ResponseRecord.notices (r : ResponseRecord) : List Byte :=
  r.actions.filterMap fun a => match a with | .notice c => some c | _ => none

/-- The rank of a sequence among the active responses, from 1 (R147). -/
def EngineState.rank (e : EngineState) (sequence : Nat) : Nat :=
  1 + (e.active.toList.filter fun a => match a with | some r => decide (r.sequence < sequence) | none => false).length

/-- How many responses are active. -/
def EngineState.activeCount (e : EngineState) : Nat := (e.active.toList.filter fun a => a.isSome).length

/-- The active responses renumbered 1 to m in the order of their sequences, and the fan response slots
with them (R147). -/
def State.renumber (s : State) : State :=
  let e := s.engine
  let active := tabulate fun k => (e.active[k]).map fun r => { r with sequence := e.rank r.sequence }
  let engine := { e with active := active, sequence := e.activeCount }
  let fans := tabulate fun f =>
    let x := s.fan f
    { x with
      responseSlots := tabulate fun k =>
        match x.responseSlots[k], active[k] with
        | some d, some r => some { d with sequence := r.sequence }
        | d, _ => d }
  { s with engine := engine, fans := fans }

/-- The counter made ready for one increase, by renumbering where it would pass 4294967295 (R147). -/
def State.readySequence (s : State) : State := if s.engine.sequence < 4294967295 then s else s.renumber

/-- The lowest-numbered free slot (R145). -/
def EngineState.freeSlot? (e : EngineState) : Option (Fin 4) := (List.finRange 4).find? fun k => (e.active[k]).isNone

/-- Whether one active response is preempted before another: lower precedence, or the higher sequence
among equals (R145). -/
def preemptedBefore (a b : ActiveResponse) : Bool :=
  decide (a.precedence < b.precedence ∨ (a.precedence = b.precedence ∧ b.sequence < a.sequence))

/-- The victim of a preemption: the slot whose response no other is preempted before (R145). -/
def EngineState.victim? (e : EngineState) : Option (Fin 4) :=
  (List.finRange 4).find? fun k =>
    match e.active[k] with
    | some a => (List.finRange 4).all fun j => match e.active[j] with | some b => !preemptedBefore b a | none => true
    | none => false

/-- The fans of an activation into slot k: written once each, or withdrawn where only the victim named
them (R69, R70, R145, R146). -/
def State.captureFans (k : Fin 4) (r : ResponseRecord) (sequence : Nat) (s : State) : State :=
  forEach
    (fun f s =>
      let x := s.fan f
      let named := if (s.fanEntry f).present then r.demandFor (s.fanEntry f) f else none
      match named with
      | some d =>
        (s.setFan f { x with responseSlots := x.responseSlots.set k (some { demand := d, sequence := sequence }) }).resolveFan f
      | none =>
        if (x.responseSlots[k]).isSome then
          (s.setFan f { x with responseSlots := x.responseSlots.set k none }).resolveFan f
        else s)
    s

/-- The doors of an activation into slot k: held, or withdrawn where only the victim held them, and opened
(R87, R88, R145, R146).  The doors are taken in door number order, holds and openings mixed (DESIGN CHOICE: R146 gives no
order between doors; assumption 42). -/
def State.captureDoors (k : Fin 4) (r : ResponseRecord) (s : State) : State :=
  forEach
    (fun d s =>
      let present := (s.doorEntry d).present
      if present && r.holds d then s.writeHold d k
      else
        let withdrawn := s.withdrawHold d k
        if present && r.opens d then withdrawn.openRequest d else withdrawn)
    s

/-- The record of response n put into Active Table slot k with the next sequence (R146, step 1). -/
def State.occupySlot (k : Fin 4) (n : Fin 128) (r : ResponseRecord) (s : State) : State :=
  let sequence := s.engine.sequence + 1
  let a : ActiveResponse :=
    { number := n, precedence := r.precedence, enter := r.enter, successor := r.successor,
      hold := if r.holdTime = 0 then none else some (r.holdTime * 1000), sequence := sequence }
  s.setEngine { s.engine with active := s.engine.active.set k (some a), sequence := sequence }

/-- Steps 1 to 6 of R146 for response n in Active Table slot k, a victim's entry gone already. -/
def State.activateIn (k : Fin 4) (n : Fin 128) (r : ResponseRecord) (s : State) : State :=
  let slotted := s.readySequence.occupySlot k n r
  let captured := ((slotted.captureFans k r slotted.engine.sequence).captureDoors k r).takeKeys
  let noticed := r.notices.foldl State.notify captured
  if r.enter then noticed.enterIncident else noticed

/-- Activation of response n: into a free slot, or into the victim's (R145, R146).  RESPONSE_PREEMPTED is latched before
the steps of R146, so that its notice precedes the response's (DESIGN CHOICE: R145 says only that both are in one
activation; assumption 41). -/
def State.activate (n : Fin 128) (r : ResponseRecord) (s : State) : State :=
  match s.engine.freeSlot? with
  | some k => s.activateIn k n r
  | none =>
    match s.engine.victim? with
    | some k => ((s.freeSlot k).latch .responsePreempted).activateIn k n r
    | none => s

/-- What the engine does with a fetch whose slot has been read: the cases of R144. -/
def State.completeFetch (f : Fetch) (page : List Byte) (s : State) : State :=
  let idle := s.setEngine { s.engine with fetch := none }
  let record := if pageValid page then slotRecord (slotBytes page (responseSlot f.number)) f.number else none
  let done :=
    match f.disturbed, record with
    | false, some r =>
      if f.cancelled then idle
      else if idle.engine.hasFree || idle.engine.outranksLowest r.precedence then idle.activate f.number r
      else idle.latch .responseAbsent
    | _, _ => idle.latch .responseAbsent
  done.examineFetch

/-- FETCH_COMPLETION (R144, R172, R173): due while the service reads a slot; a dropped read hands its
result to nobody. -/
def fetchCompletionEffect (s : State) : State :=
  match s.store.service with
  | .reading _ dropped page =>
    let ended := s.endRead
    match dropped, s.engine.fetch with
    | false, some f => ended.completeFetch f page
    | _, _ => ended
  | _ => s

/-! ## The Response Index (R139, R174) -/

/-- The index entry a page gives response n (R138, R174). -/
def pageIndexEntry (page : List Byte) (n : Fin 128) : Option IndexInfo :=
  if pageValid page then
    (slotRecord (slotBytes page (responseSlot n)) n).map fun r => { precedence := r.precedence, enter := r.enter }
  else none

/-- The index entries of one page made anew from its bytes (R174). -/
def EngineState.rebuildIndex (e : EngineState) (p : Fin 48) (page : List Byte) : EngineState :=
  { e with
    index := tabulate fun n => if responsePage n = p then pageIndexEntry page n else e.index[n] }

/-- The index entries of a page marked absent (R139). -/
def EngineState.clearIndex (e : EngineState) (p : Fin 48) : EngineState :=
  { e with index := tabulate fun n => if responsePage n = p then none else e.index[n] }

/-- The queue entries of a page removed, each latching RESPONSE_ABSENT (R139). -/
def State.unqueuePage (p : Fin 48) (s : State) : State :=
  let gone := s.engine.queue.filter fun q => decide (responsePage q.number = p)
  let kept := s.engine.queue.filter fun q => decide (responsePage q.number ≠ p)
  gone.foldl (fun s _ => s.latch .responseAbsent) (s.setEngine { s.engine with queue := kept })

/-- The fetch in flight marked disturbed where it is for a page (R139). -/
def State.disturbPage (p : Fin 48) (s : State) : State :=
  match s.engine.fetch with
  | some f => if responsePage f.number = p then s.setEngine { s.engine with fetch := some { f with disturbed := true } } else s
  | none => s

/-- A CONFIRM of a page told to the engine: for a response page the three things of R139, and the fetch
condition after the removals (R143). -/
def State.confirmTold (p : Fin 48) (s : State) : State :=
  if p.val < 32 then
    (((s.setEngine (s.engine.clearIndex p)).unqueuePage p).disturbPage p).examineFetch
  else s

end Sys2Proof.Machine
end

