-- ==== Sys2Proof/Machine/Points.lean ====
section
/-! DEFINITION. The Field Point Unit's events (chapter 10): accepted levels reaching their units, pin changes,
point ticks, and what a taken Point Table write hands over. -/

namespace Sys2Proof.Machine

/-- What ends every command that can move a unit: the keys emitted are taken and the driven pins follow
their outputs (R134, R182). -/
def State.settle (s : State) : State := s.takeKeys.followPins

/-! ## Units reached by an input signal (R46, R84, R155, R181, R184) -/

/-- A unit reached by a change of its input signal's active level. -/
def State.unitTakes (sig : Signal) (active : Bool) (s : State) : State :=
  match sig with
  | .fanConfirm f => s.fanConfirmChange f active
  | .fanIsolator f => s.fanIsolatorChange f active
  | .doorClosed d => s.doorContactChange d .closedContact active
  | .doorOpen d => s.doorContactChange d .openContact active
  | .doorButton d => if active then s.openRequest d else s
  | .maintKey => s.maintKeyChange active
  | .commissionKey => s
  | .fanRun _ => s
  | .fanReverse _ => s
  | .doorDriveOpen _ => s
  | .doorDriveClose _ => s

/-- A unit reached by a change, once the units have started (R186); the keys it emits are taken before
anything else of the event. -/
def State.reach (sig : Signal) (active : Bool) (s : State) : State :=
  if s.started then (s.unitTakes sig active).takeKeys else s

/-- A unit reached by a point gaining its input signal (R46, R84, R155, R180): a change where the level is
active, and for a door in CONTACT_FAULT an event that may end the fault whatever the level (R96).  A closed contact gained
is handed to the Fan Drive Unit whatever its level (R76, R84).  A button gained while active does not press (R84). -/
def State.unitGains (sig : Signal) (active : Bool) (s : State) : State :=
  match sig with
  | .doorButton _ => s
  | .doorClosed d =>
    if active then s.doorContactChange d .closedContact true
    else if (s.door d).mode = .contactFault then s.doorContactChange d .closedContact false
    else s.handClosedContact d .closedContact
  | .doorOpen d =>
    if active then s.doorContactChange d .openContact true
    else if (s.door d).mode = .contactFault then s.doorContactChange d .openContact false
    else s
  | _ => if active then s.unitTakes sig true else s

/-- A unit reached by the level of an input signal that has moved to another point (R180).  A button moved to a point
that is active already does not press: that point is newly given the button (R84; DESIGN CHOICE where the first row of
R180 calls the level a change; assumption 45). -/
def State.unitMoves (sig : Signal) (active : Bool) (s : State) : State :=
  match sig with
  | .doorButton _ => s
  | _ => s.unitTakes sig active

/-- A unit reached by the loss of its input signal's point, whose level had been `active` (R46, R84, R96,
R155, R180). -/
def State.unitLoses (sig : Signal) (active : Bool) (s : State) : State :=
  match sig with
  | .doorClosed d => s.doorContactLost d .closedContact
  | .doorOpen d => s.doorContactLost d .openContact
  | .fanConfirm _ => s
  | .doorButton _ => s
  | _ => if active then s.unitTakes sig false else s

/-! ## Filtering events (R181) -/

/-- A point's pin level accepted: it becomes the filtered level and reaches the owner of the input signal
the point holds. -/
def State.acceptAt (n : Fin 64) (s : State) : State :=
  let accepted := s.setPoint n (s.point n).accept
  match (s.pointEntry n).signal with
  | some sig => if sig.isOutput then accepted else accepted.reach sig (accepted.pointActive n)
  | none => accepted

/-- PIN_CHANGE (R181): a released pin takes a new level, accepted at once at filter time 0.  A driven pin
keeps the level it is driven to (assumption 13). -/
def pinChangeEffect (n : Fin 64) (high : Bool) (s : State) : State :=
  if (s.driveLevel n).isSome then s
  else if (s.point n).pin = high then s
  else
    let moved := s.setPoint n ((s.point n).takePin high)
    if (moved.point n).due (s.pointEntry n).filterTime then moved.acceptAt n else moved

/-- POINT_TICK (R181): every point in one tick, during start-up load too. -/
def pointTickEffect (s : State) : State :=
  forEach (fun n s => s.setPoint n ((s.point n).tick (s.pointEntry n).filterTime)) s

/-- FILTER_ACCEPT (R181): due where the hold count has reached the filter time. -/
def filterAcceptEffect (n : Fin 64) (s : State) : State :=
  if (s.point n).due (s.pointEntry n).filterTime then s.acceptAt n else s

/-! ## A taken Point Table write (R180) -/

/-- The signal of a point that a unit reads, if it holds one. -/
def inputSignal (e : PointEntry) : Option Signal :=
  match e.signal with
  | some sig => if sig.isOutput then none else some sig
  | none => none

/-- The hand-over of the signal a point held before the write and that no point holds now (R180). -/
def State.handLoss (before : State) (n : Fin 64) (s : State) : State :=
  match inputSignal (before.pointEntry n) with
  | some sig => if s.assigned sig then s else (s.unitLoses sig (before.signalActive sig)).takeKeys
  | none => s

/-- The hand-over of the signal a point holds now: a gain, a move, or the net change of its level (R180). -/
def State.handNow (before : State) (n : Fin 64) (s : State) : State :=
  match inputSignal (s.pointEntry n) with
  | some sig =>
    let now := s.signalActive sig
    if before.assigned sig = false then (s.unitGains sig now).takeKeys
    else if before.signalActive sig = now then s
    else if before.holder sig = some n then (s.unitTakes sig now).takeKeys
    else (s.unitMoves sig now).takeKeys
  | none => s

/-- The acceptance that a lowered filter time brings at the write (R181), not yet handed over.  It is made before the pin
takes the drive of its new entry (DESIGN CHOICE: R180 to R182 order neither; assumption 53). -/
def State.acceptLowered (before : State) (n : Fin 64) (s : State) : State :=
  if (s.pointEntry n).filterTime < (before.pointEntry n).filterTime ∧ (s.point n).due (s.pointEntry n).filterTime then
    s.setPoint n (s.point n).accept
  else s

/-- What a taken Point Table write does, the entries stored already (R180, R181): the acceptances it
brings, then each signal's unit reached once with the net result, in point order.  Where one point loses one signal and
gains another, the loss is handed over first (DESIGN CHOICE: R180 orders the points and not the two at one point;
assumption 44).  The acceptances come first and the pins take the drives of their new entries last (DESIGN CHOICE: R180
to R182 give no order; assumption 53).  During start-up load no unit is reached (R186). -/
def State.pointsWritten (before : State) (s : State) : State :=
  let accepted := forEach (State.acceptLowered before) s
  if s.started then forEach (fun n s => State.handNow before n (State.handLoss before n s)) accepted else accepted

end Sys2Proof.Machine
end

