-- ==== Sys2Proof/Machine/Sensing.lean ====
section
/-! DEFINITION. Sensor Conditioning and the Level Evaluator (chapters 1 and 2): calibration, smoothing,
windows, levels, and the sample events. -/

namespace Sys2Proof.Machine

/-! ## Conditioning (R15 to R20) -/

/-- Whether a raw value is valid: within the fault limits, both included (R15). -/
def ChannelEntry.valid (e : ChannelEntry) (x : Nat) : Bool := decide (e.lowLimit ≤ x ∧ x ≤ e.highLimit)

/-- The value a raw value has in the segment between two breakpoints (R18).  Floor rounds toward minus
infinity: both divisors are above 0. -/
def interpolate (p q : Breakpoint) (x : Nat) : Int :=
  let phase : Int := ((x : Int) - p.raw) * 4096 / ((q.raw : Int) - p.raw)
  let d := q.value - p.value
  p.value + (d * phase + 2048) / 4096

/-- The walk along a chain of breakpoints for a raw value at or above the first (R17). -/
def alongChain (x : Nat) : List Breakpoint → Int
  | [] => 0
  | [p] => p.value
  | p :: q :: rest => if x < q.raw then interpolate p q x else alongChain x (q :: rest)

/-- The breakpoints that take part in calibration: the first `count` (R4). -/
def CalibrationEntry.chain (e : CalibrationEntry) : List Breakpoint := e.points.toList.take e.count

/-- The engineering value of a valid raw value (R17, R18). -/
def CalibrationEntry.calibrate (e : CalibrationEntry) (x : Nat) : Int :=
  match e.chain with
  | [] => 0
  | p :: rest => if x ≤ p.raw then p.value else alongChain x (p :: rest)

/-- The value an invalid sample is filled with (R16). -/
def fillValue (e : ChannelEntry) (fill : Option Int) : Int :=
  match e.fillPolicy, fill with
  | .hold, some v => v
  | .hold, none => e.fallback
  | .fallback, _ => e.fallback

/-- The accumulator after a value has entered smoothing (R19, R20). -/
def smooth (k : Nat) (accumulator : Option Int) (v : Int) : Int :=
  match accumulator with
  | none => v * 256
  | some acc => acc + (v * 256 - acc) / (2 ^ k : Nat)

/-- The smoothed output of an accumulator (R20). -/
def smoothedOutput (acc : Int) : Int := (acc + 128) / 256

/-! ## Windows (R25 to R28) -/

/-- A record added to the open window (R26). -/
def OpenWindow.add (w : OpenWindow) (t2 s : Int) (valid : Bool) : OpenWindow :=
  { count := w.count + 1
    sum := w.sum + s
    maximum := some (match w.maximum with | some m => max m s | none => s)
    minimum := some (match w.minimum with | some m => min m s | none => s)
    valid := if valid then w.valid + 1 else w.valid
    exceedance := if t2 ≤ s then w.exceedance + 1 else w.exceedance }

/-- The quality of a closing window (R28). -/
def gradeOf (mode : ChannelMode) (valid length : Nat) : Quality :=
  match mode with
  | .warming => .warming
  | _ => if valid = 0 then .failed else if 2 * valid < length then .doubtful else .good

/-- The result a full window closes into (R27). -/
def OpenWindow.close (w : OpenWindow) (mode : ChannelMode) (length : Nat) : WindowResult :=
  { mean := (2 * w.sum + length) / (2 * length : Nat)
    maximum := w.maximum.getD 0
    minimum := w.minimum.getD 0
    valid := w.valid
    exceedance := w.exceedance
    quality := gradeOf mode w.valid length }

/-! ## Levels (R31 to R36) -/

/-- The evaluated value of a result (R31). -/
def evaluated (on : EvaluateOn) (r : WindowResult) : Int :=
  match on with
  | .mean => r.mean
  | .max => r.maximum
  | .meanAbs => r.mean.natAbs
  | .peakAbs => max r.maximum.natAbs r.minimum.natAbs

/-- The candidate level of an evaluated value (R32). -/
def ChannelEntry.candidate (e : ChannelEntry) (v : Int) : Nat :=
  if v < e.t1 then 0 else if v < e.t2 then 1 else if v < e.t3 then 2 else 3

/-- The threshold of a level (R34). -/
def ChannelEntry.threshold (e : ChannelEntry) (level : Nat) : Int :=
  if level = 1 then e.t1 else if level = 2 then e.t2 else e.t3

/-- What an evaluation reports besides the channel's new state, a change of level with both levels (R37). -/
inductive LevelReport where
  | up (old new : Nat) | down (old new : Nat) | failed | recovered
  deriving DecidableEq, Repr

/-- A rise by a result whose candidate lies above the level (R33). -/
def Channel.rises (e : ChannelEntry) (candidate : Nat) (c : Channel) : Channel × List LevelReport :=
  if e.persistence ≤ c.rise + 1 then ({ c with level := candidate, rise := 0, fall := 0 }, [.up c.level candidate])
  else ({ c with rise := c.rise + 1, fall := 0 }, [])

/-- A result whose candidate does not lie above the level (R34). -/
def Channel.settles (e : ChannelEntry) (v : Int) (good : Bool) (c : Channel) : Channel × List LevelReport :=
  let c := { c with rise := 0 }
  if good = false then (c, [])
  else if c.level = 0 ∨ e.threshold c.level - e.hysteresis ≤ v then ({ c with fall := 0 }, [])
  else if e.persistence ≤ c.fall + 1 then ({ c with level := c.level - 1, fall := 0 }, [.down c.level (c.level - 1)])
  else ({ c with fall := c.fall + 1 }, [])

/-- A FAILED result (R35, R36): counted in RUN, without effect in FAILED. -/
def Channel.takesFailure (e : ChannelEntry) (c : Channel) : Channel × List LevelReport :=
  if c.mode = .run then
    if e.failLimit ≤ c.failedWindows + 1 then
      let c' := { c with mode := .failed, failedWindows := c.failedWindows + 1 }
      if c.level < e.failLevel then ({ c' with level := e.failLevel }, [.failed, .up c.level e.failLevel]) else (c', [.failed])
    else ({ c with failedWindows := c.failedWindows + 1 }, [])
  else (c, [])

/-- A GOOD or DOUBTFUL result (R33, R34, R36): it clears the failed-window count, and in FAILED recovers
the channel without an evaluation. -/
def Channel.takesValues (e : ChannelEntry) (r : WindowResult) (c : Channel) : Channel × List LevelReport :=
  let v := evaluated e.evaluateOn r
  let c := { c with failedWindows := 0 }
  if c.mode = .failed then ({ c with mode := .run, rise := 0, fall := 0 }, [.recovered])
  else if c.level < e.candidate v then c.rises e (e.candidate v)
  else c.settles e v (decide (r.quality = .good))

/-- The evaluation of a stored result (R29). -/
def Channel.evaluate (e : ChannelEntry) (r : WindowResult) (c : Channel) : Channel × List LevelReport :=
  match r.quality with
  | .warming => (c, [])
  | .failed => c.takesFailure e
  | .good | .doubtful => c.takesValues e r

/-! ## The sample event (R14) -/

/-- A channel's sample event on a raw value: the four stages, the window, and the evaluation of a result
it closes (R14, R26, R27, R29). -/
def Channel.sample (e : ChannelEntry) (cal : CalibrationEntry) (x : Nat) (c : Channel) : Channel × List LevelReport :=
  let valid := e.valid x
  let v := if valid then cal.calibrate x else fillValue e c.fill
  let acc := smooth e.smoothing c.accumulator v
  let out := smoothedOutput acc
  let w := c.window.add e.t2 out valid
  let sampled :=
    { c with
      countdown := e.divider
      fill := if valid then some v else c.fill
      accumulator := some acc
      last := some { raw := x, valid := valid, value := v, output := out } }
  if e.window ≤ w.count then
    let r := w.close c.mode e.window
    ({ sampled with window := .empty, result := some r }).evaluate e r
  else ({ sampled with window := w }, [])

/-! ## The unit in the machine -/

/-- A key of channel n, with the class its entry holds now and, for a level key, the levels it changes from and to
(R37, R134). -/
def State.channelKey (s : State) (kind : KeyKind) (n : Fin 12) (old new : Nat) : Key :=
  { kind := kind, index := n.val, cls := some (s.channelEntry n).cls, level := new, oldLevel := old }

/-- One report of the Level Evaluator: its key, and its event kind (R37). -/
def State.levelReport (n : Fin 12) (s : State) : LevelReport → State
  | .up old new => (s.offer (s.channelKey .levelUp n old new)).latch .levelChange
  | .down old new => (s.offer (s.channelKey .levelDown n old new)).latch .levelChange
  | .failed => (s.offer (s.channelKey .channelFailed n 0 0)).latch .channelFailed
  | .recovered => s.offer (s.channelKey .channelRecovered n 0 0)

/-- SAMPLE_EVENT (R13, R14): due where the channel is sampling and its countdown is at 0. -/
def sampleEventEffect (n : Fin 12) (x : Nat) (s : State) : State :=
  if s.started ∧ (s.channel n).mode ≠ .off ∧ (s.channel n).countdown = 0 then
    let r := (s.channel n).sample (s.channelEntry n) (s.calibrationTable[n]) x
    r.2.foldl (State.levelReport n) (s.setChannel n r.1)
  else s

/-- WARM_UP_END (R7): due in WARMING with the warm-up countdown at 0. -/
def warmUpEndEffect (n : Fin 12) (s : State) : State :=
  if s.started ∧ (s.channel n).mode = .warming ∧ (s.channel n).warmUp = 0 then
    s.setChannel n { s.channel n with mode := .run }
  else s

/-- One channel at a sample tick (R7, R13): a countdown at 0 waits for its event. -/
def Channel.tick (c : Channel) : Channel :=
  match c.mode with
  | .off => c
  | .warming => { c with countdown := c.countdown - 1, warmUp := c.warmUp - 1 }
  | .run | .failed => { c with countdown := c.countdown - 1 }

/-- SAMPLE_TICK (R13): every channel in one tick, once the units have started. -/
def sampleTickEffect (s : State) : State :=
  if s.started then forEach (fun n s => s.setChannel n (s.channel n).tick) s else s

/-- A channel leaving OFF under an entry (R6). -/
def Channel.enabledUnder (e : ChannelEntry) : Channel :=
  { Channel.off with
    mode := if e.warmUp = 0 then .run else .warming
    countdown := e.divider
    warmUp := e.warmUp * 100 }

/-- A channel returning to OFF (R8): a level above 0 reports its fall to 0. -/
def State.disableChannel (n : Fin 12) (s : State) : State :=
  let off := s.setChannel n .off
  if 0 < (s.channel n).level then off.levelReport n (.down (s.channel n).level 0) else off

/-- What a taken Channel Table write does to its channel, the entry stored already (R6, R8, R10). -/
def State.channelWritten (n : Fin 12) (old : ChannelEntry) (s : State) : State :=
  let e := s.channelEntry n
  if old.enabled = false ∧ e.enabled = true then s.setChannel n (.enabledUnder e)
  else if old.enabled = true ∧ e.enabled = false then s.disableChannel n
  else s

/-- What a channel reads during start-up load after a record has set its entry (R23). -/
def State.channelLoaded (n : Fin 12) (s : State) : State :=
  let e := s.channelEntry n
  s.setChannel n
    { Channel.off with mode := if e.enabled then (if e.warmUp = 0 then .run else .warming) else .off }

/-- A channel when the units start (R23, R40). -/
def State.startChannel (n : Fin 12) (s : State) : State :=
  let e := s.channelEntry n
  s.setChannel n (if e.enabled then .enabledUnder e else .off)

end Sys2Proof.Machine
end

