-- ==== Sys2Proof/Machine/Watch.lean ====
section
/-! DEFINITION. The Watch Matcher (chapter 7): test values of passing reports and notices, latching,
staleness, and the neighbour records. -/

namespace Sys2Proof.Machine

/-! ## Staleness (R123) -/

/-- Whether an origin cycle is stale against the current number, round the 16-bit cycle (R123). -/
def stale (limit : Nat) (current origin : Word) : Bool :=
  let d := (current - origin).toNat
  decide (limit < d ∧ limit < 65536 - d)

/-! ## Test values (R124, R125) -/

/-- The level a channel item counts with (R124): 0 to 3 as carried. -/
def reportLevel (b : Byte) : Nat := if b.toNat ≤ 3 then b.toNat else Config.unstatedLevel b

/-- The highest level among a report's channel items of a class (R124). -/
def classLevel (payload : List Byte) (cls : Int) : Nat :=
  (List.range 12).foldl
    (fun acc n =>
      if ((byteAt payload (4 + 5 * n)).toNat : Int) = cls then max acc (reportLevel (byteAt payload (5 + 5 * n))) else acc)
    0

/-- The run state of a fan of a report (R124). -/
def fanStateValue (payload : List Byte) (f : Nat) : Int :=
  let state := (byteAt payload (64 + 4 * f)).toNat
  let direction := byteAt payload (65 + 4 * f)
  if state = 2 ∨ state = 3 ∨ state = 4 then
    if direction = 0 then 1 else if direction = 1 then 2 else Config.unstatedFanState direction
  else 0

/-- The number of open doors of a report (R124). -/
def openDoors (payload : List Byte) : Nat :=
  ((List.range 6).filter fun d =>
    decide (byteAt payload (88 + 2 * d) ≠ 0) && decide (byteAt payload (89 + 2 * d) = 0)).length

/-- The node mode of a report (R124, R198). -/
def modeValue (payload : List Byte) : Int :=
  let m := (byteAt payload 0).toNat % 4
  if m < 3 then m else Config.unstatedMode

/-- Whether a response number is among a report's active responses (R124). -/
def activeValue (payload : List Byte) (n : Int) : Int :=
  if (List.range 4).any fun k => decide (((byteAt payload (100 + k)).toNat : Int) = n) then 1 else 0

/-- The test value a report yields for a test field and index (R124). -/
def testValue (payload : List Byte) (t : TestField) (index : Int) : Int :=
  match t with
  | .classLevel => classLevel payload index
  | .fanState => fanStateValue payload index.toNat
  | .openDoors => openDoors payload
  | .mode => modeValue payload
  | .activeResponse => activeValue payload index
  | .noticeCode => 0

/-- A comparison of a test value with an operand, on signed values (R126). -/
def Comparison.holds (c : Comparison) (v operand : Int) : Bool :=
  match c with
  | .atOrAbove => decide (operand ≤ v)
  | .equal => decide (v = operand)
  | .below => decide (v < operand)

/-! ## Matching and latching (R126 to R128) -/

/-- Whether an entry applies to a frame of a kind from a source (R126). -/
def WatchEntry.applies (w : WatchEntry) (kind : WatchKind) (source : Byte) : Bool :=
  w.enabled && decide (w.kind = kind) && (decide (w.source = 255) || decide (w.source = source))

/-- A watch entry given a new latch state. -/
def State.setLatch (s : State) (i : Fin 32) (latch : Option Byte) : State :=
  { s with watchTable := s.watchTable.set i { s.watchTable[i] with latch := latch } }

/-- One report entry on a fresh report (R127).  A source of 0 or 251 to 255 latches an ANY entry as it stands, and shows
as it is in field 9 (DESIGN CHOICE: R120 gives the field 1 to 250 while LATCHED and says nothing of such a report;
assumption 40). -/
def State.watchReport (source : Byte) (payload : List Byte) (i : Fin 32) (s : State) : State :=
  let w := s.watchTable[i]
  if w.applies .report source then
    let condition := w.comparison.holds (testValue payload w.test w.testIndex) w.operand
    match w.latch with
    | none => if condition then (s.setLatch i (some source)).offer (nodeKey .watchHit i.val source) else s
    | some a =>
      if a = source ∧ condition = false then (s.setLatch i none).offer (nodeKey .watchClear i.val source) else s
  else s

/-- One notice entry on a notice (R128). -/
def State.watchNotice (source code : Byte) (i : Fin 32) (s : State) : State :=
  let w := s.watchTable[i]
  if w.applies .notice source && w.comparison.holds code.toNat w.operand then s.offer (nodeKey .watchHit i.val source)
  else s

/-! ## Neighbours (R129 to R131) -/

/-- A neighbour record given a new state and count. -/
def State.setNeighbour (s : State) (i : Fin 16) (state : Presence) (count : Nat) : State :=
  { s with
    neighbourTable := s.neighbourTable.set i { s.neighbourTable[i] with state := state, silenceCount := count } }

/-- One record refreshed by a report of its address (R131). -/
def State.refreshNeighbour (source : Byte) (i : Fin 16) (s : State) : State :=
  let r := s.neighbourTable[i]
  if r.address ≠ 0 ∧ r.address = source then
    let present := s.setNeighbour i .present 0
    if r.state = .silent then present.offer (nodeKey .neighbourBack i.val r.address) else present
  else s

/-- One record advanced by a cycle event (R130). -/
def State.advanceNeighbour (i : Fin 16) (s : State) : State :=
  let r := s.neighbourTable[i]
  if r.address = 0 ∨ r.state = .silent then s
  else if r.silenceLimit ≤ r.silenceCount + 1 then
    ((s.setNeighbour i .silent (r.silenceCount + 1)).latch .neighbourSilent).offer
      (nodeKey .neighbourSilent i.val r.address)
  else s.setNeighbour i r.state (r.silenceCount + 1)

/-! ## Hand-overs -/

/-- A report handed over: staleness, the neighbour record, and the report entries of a fresh report of
full length, in that order (R122). -/
def State.handReport (source : Byte) (origin : Word) (payload : List Byte) (s : State) : State :=
  let isStale := stale s.nodeTable.staleLimit s.cycle.number origin
  let refreshed := forEach (State.refreshNeighbour source) s
  let tested :=
    if isStale = false ∧ 104 ≤ payload.length then forEach (State.watchReport source payload) refreshed else refreshed
  tested.takeKeys

/-- A notice handed over (R128); one without a code is not tested (R125). -/
def State.handNotice (source : Byte) (payload : List Byte) (s : State) : State :=
  match payload with
  | code :: _ => (forEach (State.watchNotice source code) s).takeKeys
  | [] => s

/-! ## Table writes -/

/-- What a taken Watch Table write makes of an entry: unchanged where fields 1 to 7 are repeated, else the
new fields CLEAR, with WATCH_CLEAR for a latched entry (R121). -/
def State.writeWatchEntry (i : Fin 32) (w : WatchEntry) (s : State) : State :=
  let old := s.watchTable[i]
  if { old with latch := none } = w then s
  else
    let stored := { s with watchTable := s.watchTable.set i w }
    match old.latch with
    | some a => stored.offer (nodeKey .watchClear i.val a)
    | none => stored

/-- What a taken Neighbour Table write makes of a record: unchanged where fields 1 and 2 are repeated,
else UNKNOWN with count 0 (R129). -/
def State.writeNeighbour (i : Fin 16) (r : NeighbourRecord) (s : State) : State :=
  let old := s.neighbourTable[i]
  if old.address = r.address ∧ old.silenceLimit = r.silenceLimit then s
  else { s with neighbourTable := s.neighbourTable.set i r }

end Sys2Proof.Machine
end

