-- ==== Sys2Proof/Machine/Cycle.lean ====
section
/-! DEFINITION. The cycle and the node's reports (chapters 6, 11 and 12): the NICHE REPORT, cycle events,
marks, the mark timer and the local cycle, link timers and the end of a transmission. -/

namespace Sys2Proof.Machine

/-! ## The NICHE REPORT (R39, R63, R101, R196, R198) -/

/-- A code as a payload byte. -/
def codeByte (n : Nat) : Byte := BitVec.ofNat 8 n

/-- The node status byte: mode, unmarked flag, loading flag (R198). -/
def State.statusByte (s : State) : Byte :=
  codeByte (s.engine.mode.code + (if s.cycle.marked then 0 else 4) + (if s.started then 0 else 8))

/-- A channel's item (R39). -/
def State.channelItem (s : State) (n : Fin 12) : List Byte :=
  let c := s.channel n
  [codeByte (s.channelEntry n).cls.code, codeByte c.level, codeByte (qualityCode c.result)] ++
    bytesOfWord (fieldWord (match c.result with | some r => r.mean | none => 0))

/-- A fan's item (R63). -/
def State.fanItem (s : State) (f : Fin 6) : List Byte :=
  let x := s.fan f
  [codeByte x.mode.code, codeByte x.direction.code] ++ bytesOfWord (BitVec.ofNat 16 x.speedReference)

/-- A door's item (R101). -/
def State.doorItem (s : State) (d : Fin 6) : List Byte :=
  [codeByte (s.door d).mode.code, if s.signalActive (.doorClosed d) then 1 else 0]

/-- An Active Table slot's item (R158). -/
def State.activeItem (s : State) (k : Fin 4) : Byte :=
  match s.engine.active[k] with
  | some r => codeByte r.number.val
  | none => 0xFF

/-- The 104 bytes of the report (R198). -/
def State.reportPayload (s : State) : List Byte :=
  [s.statusByte, s.events.extractLsb' 16 8, s.events.extractLsb' 8 8, s.events.extractLsb' 0 8] ++
    (List.finRange 12).flatMap s.channelItem ++ (List.finRange 6).flatMap s.fanItem ++
    (List.finRange 6).flatMap s.doorItem ++ (List.finRange 4).map s.activeItem

/-- A NICHE REPORT built as things stand and queued to every UP port (R112, R196); an unaddressed node
builds none (R109). -/
def State.sendReport (s : State) : State :=
  if s.address.isSome then s.queueToAll (s.buildFrame 2 255 s.cycle.sequence s.reportPayload) else s

/-! ## Cycle events (R117) -/

/-- Report timing advanced by one cycle event: whether a report is due and the cycle logic after it
(R117). -/
def CycleState.advance (c : CycleState) (interval : Nat) : CycleState × Bool :=
  if interval ≤ c.interval + 1 then ({ c with interval := 0, sequence := c.sequence + 1 }, true)
  else ({ c with interval := c.interval + 1 }, false)

/-- One cycle event: report timing, every neighbour record, and then the report it calls for (R117, R130,
R196). -/
def State.cycleEvent (s : State) : State :=
  let r := s.cycle.advance s.nodeTable.reportInterval
  let advanced := (forEach State.advanceNeighbour (s.setCycle r.1)).takeKeys
  if r.2 then advanced.sendReport else advanced

/-- The mark timer's full value (R114). -/
def State.markTimeoutMs (s : State) : Nat := s.nodeTable.markTimeout * 100

/-- A mark taken (R114, R115). -/
def State.takeMark (number : Word) (s : State) : State :=
  let broken := s.cycle.firstMark && decide (number ≠ s.cycle.number + 1)
  let numbered := s.setCycle { s.cycle with number := number }
  let noted := if broken then numbered.latch .cycleBreak else numbered
  (noted.setCycle
    { noted.cycle with firstMark := true, marked := true, markTimer := noted.markTimeoutMs, localTimer := none }).cycleEvent

/-- A CYCLE MARK offered to the cycle logic (R114): in MARKED one of the current number is not taken. -/
def State.offerMark (number : Word) (s : State) : State :=
  if s.cycle.marked ∧ number = s.cycle.number then s else s.takeMark number

/-- MARK_TIMER_EXPIRY (R116): in MARKED with the timer at 0; a mark that has reloaded it leaves no expiry. -/
def markTimerExpiryEffect (s : State) : State :=
  if s.cycle.marked ∧ s.cycle.markTimer = 0 then
    let unmarked := (s.setCycle { s.cycle with marked := false, markTimer := 0 }).latch .unmarked
    let stepped := (unmarked.setCycle { unmarked.cycle with number := unmarked.cycle.number + 1 }).cycleEvent
    stepped.setCycle { stepped.cycle with localTimer := some 100 }
  else s

/-- LOCAL_CYCLE_TIMER_EXPIRY (R116): in UNMARKED with the timer run down to 0. -/
def localCycleTimerExpiryEffect (s : State) : State :=
  if s.cycle.marked = false ∧ s.cycle.localTimer = some 0 then
    let stepped := (s.setCycle { s.cycle with number := s.cycle.number + 1 }).cycleEvent
    stepped.setCycle { stepped.cycle with localTimer := some 100 }
  else s

/-! ## Links and transmitters (R103, R104, R113) -/

/-- The event kind of a port gone DOWN (R103). -/
def linkEvent : Port → EventKind
  | .a => .linkADown
  | .b => .linkBDown

/-- LINK_TIMER_EXPIRY (R103, R104): at an UP port with its timer at 0; a good frame that has reloaded the timer leaves no
expiry. -/
def linkTimerExpiryEffect (p : Port) (s : State) : State :=
  if (s.port p).up ∧ (s.port p).linkTimer = 0 then (s.setPort p (s.port p).goDown).latch (linkEvent p) else s

/-- TRANSMIT_END (R113): the transmitter becomes idle and the arbiter chooses. -/
def transmitEndEffect (p : Port) (s : State) : State :=
  if (s.port p).sending.isSome then s.setPort p ({ s.port p with sending := none }).choose else s

/-- FRAME_CUT_OFF (R105). -/
def frameCutOffEffect (s : State) : State := s.latch .frameError

/-! ## The passing of time (assumption 14) -/

/-- A port's link timer after a millisecond (R103). -/
def PortState.millisecond (p : PortState) : PortState := { p with linkTimer := p.linkTimer - 1 }

/-- The mark timer or local cycle timer after a millisecond (R114, R116). -/
def CycleState.millisecond (c : CycleState) : CycleState :=
  { c with markTimer := c.markTimer - 1, localTimer := c.localTimer.map fun t => t - 1 }

/-- The hold timers after a millisecond (R148). -/
def EngineState.millisecond (e : EngineState) : EngineState :=
  { e with active := tabulate fun k => (e.active[k]).map fun r => { r with hold := r.hold.map fun t => t - 1 } }

/-- One millisecond with no command: the timers that no command of the table counts. -/
def State.millisecond (s : State) : State :=
  { s with
    portA := s.portA.millisecond
    portB := s.portB.millisecond
    cycle := s.cycle.millisecond
    engine := s.engine.millisecond }

end Sys2Proof.Machine
end

