-- ==== Sys2Proof/Machine/Tables.lean ====
section
/-! DEFINITION. The tables and views as READ ENTRIES returns them (R190, R191): limits, lengths and the
field words of an entry as it stands. -/

namespace Sys2Proof.Machine

/-! ## The tables of the part (R190) -/

/-- The fifteen tables and views (R190). -/
inductive TableId where
  | node | channel | calibration | fan | door | watch | neighbour | trigger | point
  | responseIndex | channelStatus | fanStatus | doorStatus | engineStatus | lineStatus
  deriving DecidableEq, Repr

/-- R190. -/
def TableId.code : TableId → Nat
  | .node => 1 | .channel => 2 | .calibration => 3 | .fan => 4 | .door => 5 | .watch => 6 | .neighbour => 7
  | .trigger => 8 | .point => 9 | .responseIndex => 16 | .channelStatus => 17 | .fanStatus => 18
  | .doorStatus => 19 | .engineStatus => 20 | .lineStatus => 21

/-- The tables in id order (R190). -/
def TableId.all : List TableId :=
  [.node, .channel, .calibration, .fan, .door, .watch, .neighbour, .trigger, .point, .responseIndex,
    .channelStatus, .fanStatus, .doorStatus, .engineStatus, .lineStatus]

/-- The table an id names, if any (R190). -/
def tableOf (id : Nat) : Option TableId := TableId.all.find? fun t => decide (t.code = id)

/-- The field limit of a table: its entry count (R190). -/
def TableId.limit : TableId → Nat
  | .node => 1 | .channel => 12 | .calibration => 12 | .fan => 6 | .door => 6 | .watch => 32 | .neighbour => 16
  | .trigger => 64 | .point => 64 | .responseIndex => 128 | .channelStatus => 12 | .fanStatus => 6
  | .doorStatus => 6 | .engineStatus => 1 | .lineStatus => 1

/-- The entry length of a table in field words (R190). -/
def TableId.length : TableId → Nat
  | .node => 7 | .channel => 18 | .calibration => 17 | .fan => 9 | .door => 5 | .watch => 9 | .neighbour => 4
  | .trigger => 8 | .point => 4 | .responseIndex => 3 | .channelStatus => 17 | .fanStatus => 36
  | .doorStatus => 9 | .engineStatus => 42 | .lineStatus => 16

/-- Whether a table is writable (R190). -/
def TableId.writable : TableId → Bool
  | .node | .channel | .calibration | .fan | .door | .watch | .neighbour | .trigger | .point => true
  | .responseIndex | .channelStatus | .fanStatus | .doorStatus | .engineStatus | .lineStatus => false

/-! ## Views -/

/-- A count of ticks in tenths of a second, or of ticks in seconds, rounded up (R22, R62, R101, R158). -/
def roundedUp (n unit : Nat) : Nat := (n + (unit - 1)) / unit

/-- Channel Status (R22, R38). -/
def Channel.statusWords (c : Channel) : List Int :=
  [(c.mode.code : Int),
    match c.last with | some r => (r.raw : Int) | none => 0,
    match c.last with | some r => if r.valid then 1 else 2 | none => 0,
    match c.last with | some r => r.value | none => 0,
    match c.last with | some r => r.output | none => 0,
    if c.mode = .warming then (roundedUp c.warmUp 100 : Int) else 0,
    (c.window.count : Int), (qualityCode c.result : Int),
    match c.result with | some r => r.mean | none => 0,
    match c.result with | some r => r.maximum | none => 0,
    match c.result with | some r => r.minimum | none => 0,
    match c.result with | some r => (r.valid : Int) | none => 0,
    match c.result with | some r => (r.exceedance : Int) | none => 0,
    (c.level : Int), (c.rise : Int), (c.fall : Int), (c.failedWindows : Int)]

/-- A demand slot in Fan Status: zeros when absent (R78). -/
def demandWords : Option Demand → List Int
  | some d => [(d.precedence : Int), (d.direction.code : Int), (d.speed : Int), (d.rate : Int)]
  | none => [0, 0, 0, 0]

/-- The timer a fan shows, in ticks (R62). -/
def Fan.shownTimer (x : Fan) : Nat :=
  match x.mode with
  | .starting => x.startTimer
  | .coasting => x.coastTimer
  | .running | .stopping => x.lossTimer.getD 0
  | _ => 0

/-- Fan Status (R62, R78). -/
def State.fanStatusWords (s : State) (f : Fin 6) : List Int :=
  let x := s.fan f
  [(x.mode.code : Int), (x.direction.code : Int), flagCode x.runOutput, (x.speedReference : Int),
    (x.ramp / 10 : Nat), (roundedUp x.shownTimer 10 : Int), s.inputCode (.fanConfirm f),
    s.inputCode (.fanIsolator f),
    (x.target.direction.code : Int), (x.target.speed : Int), (x.target.rate : Int), (x.target.source.code : Int)] ++
    demandWords x.lineSlot ++
    (x.responseSlots.toList.flatMap fun d => demandWords (d.map ResponseDemand.demand)) ++
    demandWords x.pressurisationSlot

/-- The timer a door shows, in ticks (R101). -/
def Door.shownTimer (x : Door) : Nat :=
  match x.mode with
  | .opening | .closing => x.travelTimer
  | .opened => x.dwellTimer
  | _ => 0

/-- The hold set of a door: bits 0 to 3 the response hold slots, bit 4 the line hold slot (R101). -/
def Door.holdSet (x : Door) : Nat :=
  ((List.finRange 4).map fun k => if x.responseHolds[k] then 2 ^ k.val else 0).sum + if x.lineHold then 16 else 0

/-- Door Status (R101). -/
def State.doorStatusWords (s : State) (d : Fin 6) : List Int :=
  let x := s.door d
  [(x.mode.code : Int), flagCode x.driveOpen, flagCode x.driveClose, s.inputCode (.doorClosed d),
    s.inputCode (.doorOpen d), s.inputCode (.doorButton d), (roundedUp x.shownTimer 10 : Int), (x.holdSet : Int),
    flagCode (!s.signalActive (.doorClosed d))]

/-- The whole seconds left on a hold timer, from h down to 1; −1 for hold time 0 (R158). -/
def holdRemaining : Option Nat → Int
  | some ms => (max 1 (roundedUp ms 1000) : Nat)
  | none => -1

/-- An Active Table slot in Engine Status (R158). -/
def activeWords : Option ActiveResponse → List Int
  | some r =>
    [(r.number.val : Int), (r.precedence : Int), flagCode r.enter,
      match r.successor with | some n => (n.val : Int) | none => -1,
      holdRemaining r.hold, (r.sequence / 65536 : Nat), (r.sequence % 65536 : Nat)]
  | none => [-1, 0, 0, -1, 0, 0, 0]

/-- A queue entry in Engine Status (R158). -/
def queueWords : Option Queued → List Int
  | some q => [(q.number.val : Int), (q.precedence : Int)]
  | none => [-1, 0]

/-- The fetch unit in Engine Status (R158). -/
def fetchWords : Option Fetch → List Int
  | some f => [(f.number.val : Int), (f.precedence : Int), flagCode f.cancelled + 2 * flagCode f.disturbed]
  | none => [-1, 0, 0]

/-- Engine Status (R158). -/
def State.engineStatusWords (s : State) : List Int :=
  let e := s.engine
  [(e.mode.code : Int), s.inputCode .maintKey, (e.queue.length : Int)] ++
    ((List.range 4).flatMap fun i => queueWords (e.queue[i]?)) ++ fetchWords e.fetch ++
    e.active.toList.flatMap activeWords

/-- Line Status (R118). -/
def State.lineStatusWords (s : State) : List Int :=
  let a := s.portA
  let b := s.portB
  let c := s.cycle
  [flagCode a.up, flagCode b.up, flagCode c.marked, (c.number.toNat : Int),
    if c.marked then (c.markTimer : Int) else 0, flagCode c.firstMark, (c.interval : Int), (c.sequence.toNat : Int),
    (a.pass.length : Int), (b.pass.length : Int), (a.insertQueue.length : Int), (b.insertQueue.length : Int),
    flagCode (a.insertQueue.any isReport), flagCode (b.insertQueue.any isReport), (a.starvation : Int),
    (b.starvation : Int)]

/-- Response Index (R157). -/
def indexWords : Option IndexInfo → List Int
  | some i => [1, (i.precedence : Int), flagCode i.enter]
  | none => [0, 0, 0]

/-! ## Entries as READ ENTRIES returns them -/

/-- An entry of a fixed array as words; nothing past its end. -/
def rowOf {α : Type} {n : Nat} (words : α → List Int) (v : Vector α n) (i : Nat) : List Int :=
  if h : i < n then words v[i] else []

/-- The view words of a unit by number; nothing past its last. -/
def unitRow (n : Nat) (words : Fin n → List Int) (i : Nat) : List Int := if h : i < n then words ⟨i, h⟩ else []

/-- Entry i of a table as field values (R190). -/
def State.entryValues (s : State) (t : TableId) (i : Nat) : List Int :=
  match t with
  | .node => s.nodeTable.words
  | .channel => rowOf ChannelEntry.words s.channelTable i
  | .calibration => rowOf CalibrationEntry.words s.calibrationTable i
  | .fan => rowOf FanEntry.words s.fanTable i
  | .door => rowOf DoorEntry.words s.doorTable i
  | .watch => rowOf WatchEntry.words s.watchTable i
  | .neighbour => rowOf NeighbourRecord.words s.neighbourTable i
  | .trigger => rowOf TriggerEntry.words s.triggerTable i
  | .point => rowOf PointEntry.words s.pointTable i
  | .responseIndex => rowOf indexWords s.engine.index i
  | .channelStatus => rowOf Channel.statusWords s.channels i
  | .fanStatus => unitRow 6 s.fanStatusWords i
  | .doorStatus => unitRow 6 s.doorStatusWords i
  | .engineStatus => s.engineStatusWords
  | .lineStatus => s.lineStatusWords

/-- Entry i of a table as field words. -/
def State.entryWords (s : State) (t : TableId) (i : Nat) : List Word := (s.entryValues t i).map fieldWord

/-- How many entries a READ ENTRIES returns: the smallest of three counts (R191). -/
def TableId.readCount (t : TableId) (first count : Nat) : Nat := min count (min (t.limit - first) (56 / t.length))

/-- The words a READ ENTRIES returns (R191). -/
def State.readWords (s : State) (t : TableId) (first count : Nat) : List Word :=
  (List.range (t.readCount first count)).flatMap fun i => s.entryWords t (first + i)

/-- Whether the field limit cuts a read short: the run reaches past it or starts at or beyond it (R191,
assumption 15). -/
def TableId.cutShort (t : TableId) (first count : Nat) : Bool := decide (t.limit < first + count ∨ t.limit ≤ first)

end Sys2Proof.Machine
end

