-- ==== Sys2Proof/Machine/TableWrites.lean ====
section
/-! DEFINITION. WRITE ENTRIES (R192): the checks of a request as a whole, the storing of its entries, and what
the owning units then do.  Image records (R175) use the same checks without those for use. -/

namespace Sys2Proof.Machine

/-! ## Offered entries -/

/-- An entry of a writable table, parsed. -/
inductive TableEntry where
  | node (e : NodeEntry) | channel (e : ChannelEntry) | calibration (e : CalibrationEntry) | fan (e : FanEntry)
  | door (e : DoorEntry) | watch (e : WatchEntry) | neighbour (e : NeighbourRecord) | trigger (e : TriggerEntry)
  | point (e : PointEntry)
  deriving DecidableEq, Repr

/-- The entries of a request with their numbers, in entry order. -/
abbrev Batch := List (Nat × TableEntry)

/-- The ranges the clamps of a table use. -/
def TableId.ranges : TableId → List (Option (Int × Int))
  | .node => NodeEntry.ranges | .channel => ChannelEntry.ranges | .calibration => CalibrationEntry.ranges
  | .fan => FanEntry.ranges | .door => DoorEntry.ranges | .watch => WatchEntry.ranges
  | .neighbour => NeighbourRecord.ranges | .trigger => TriggerEntry.ranges | .point => PointEntry.ranges
  | .responseIndex | .channelStatus | .fanStatus | .doorStatus | .engineStatus | .lineStatus => []

/-- The entry that clamped words hold; none for a structural fault. -/
def TableId.parse (t : TableId) (ws : List Int) : Option TableEntry :=
  match t with
  | .node => (NodeEntry.parse ws).map .node
  | .channel => (ChannelEntry.parse ws).map .channel
  | .calibration => (CalibrationEntry.parse ws).map .calibration
  | .fan => (FanEntry.parse ws).map .fan
  | .door => (DoorEntry.parse ws).map .door
  | .watch => (WatchEntry.parse ws).map .watch
  | .neighbour => (NeighbourRecord.parse ws).map .neighbour
  | .trigger => (TriggerEntry.parse ws).map .trigger
  | .point => (PointEntry.parse ws).map .point
  | .responseIndex | .channelStatus | .fanStatus | .doorStatus | .engineStatus | .lineStatus => none

/-- The words of entry k of a request, as values. -/
def offeredValues (t : TableId) (ws : List Word) (k : Nat) : List Int :=
  ((ws.drop (t.length * k)).take t.length).map signed

/-- The same words after the clamps of the table. -/
def clampedValues (t : TableId) (ws : List Word) (k : Nat) : List Int := clampFields t.ranges (offeredValues t ws k)

/-- Whether a clamp altered a word of a request. -/
def anyClamped (t : TableId) (ws : List Word) (count : Nat) : Bool :=
  (List.range count).any fun k => decide (clampedValues t ws k ≠ offeredValues t ws k)

/-- The entries of a request that have no fault of their own, with their numbers, in entry order. -/
def offeredBatch (t : TableId) (first count : Nat) (ws : List Word) : Batch :=
  (List.range count).filterMap fun k => (t.parse (clampedValues t ws k)).map fun e => (first + k, e)

/-! ## Storing -/

/-- One entry stored.  A watch entry and a neighbour record change only where their writable fields do (R121,
R129). -/
def State.storeEntry (s : State) (i : Nat) (e : TableEntry) : State :=
  match e with
  | .node e => { s with nodeTable := e }
  | .channel e => if h : i < 12 then { s with channelTable := s.channelTable.set i e } else s
  | .calibration e => if h : i < 12 then { s with calibrationTable := s.calibrationTable.set i e } else s
  | .fan e => if h : i < 6 then { s with fanTable := s.fanTable.set i e } else s
  | .door e => if h : i < 6 then { s with doorTable := s.doorTable.set i e } else s
  | .watch e => if h : i < 32 then s.writeWatchEntry ⟨i, h⟩ e else s
  | .neighbour e => if h : i < 16 then s.writeNeighbour ⟨i, h⟩ e else s
  | .trigger e => if h : i < 64 then { s with triggerTable := s.triggerTable.set i e } else s
  | .point e => if h : i < 64 then { s with pointTable := s.pointTable.set i e } else s

/-- Every entry of a request stored, in entry order (R192); the latched watch entries that change offer their WATCH_CLEAR
in that order too (DESIGN CHOICE; assumption 50). -/
def State.storeBatch (s : State) (b : Batch) : State := b.foldl (fun s p => s.storeEntry p.1 p.2) s

/-! ## Duplicates (R129, R179) -/

/-- What at most one entry of a table may hold: a signal (R178), or a neighbour's address (R129). -/
inductive Claim where
  | signal (sig : Signal) | address (a : Byte)
  deriving DecidableEq, Repr

/-- What an entry of the Point Table or the Neighbour Table claims. -/
def TableEntry.claim : TableEntry → Option Claim
  | .point e => e.signal.map .signal
  | .neighbour r => if r.address = 0 then none else some (.address r.address)
  | .node _ | .channel _ | .calibration _ | .fan _ | .door _ | .watch _ | .trigger _ => none

/-- What the words offered for an entry claim.  A Point Table entry whose polarity is faulty claims the signal of its
function and index all the same; words that name no signal and no address claim nothing (assumption 27). -/
def TableId.offeredClaim (t : TableId) (vs : List Int) : Option Claim :=
  (t.parse (if t = .point then vs.set 2 0 else vs)).bind TableEntry.claim

/-- What entry i of a table claims as it stands. -/
def State.standingClaim (s : State) (t : TableId) (i : Nat) : Option Claim :=
  match t with
  | .point => if h : i < 64 then (TableEntry.point s.pointTable[i]).claim else none
  | .neighbour => if h : i < 16 then (TableEntry.neighbour s.neighbourTable[i]).claim else none
  | _ => none

/-- What entry i would claim once a whole request were written (R129, R179). -/
def State.claimAfter (s : State) (t : TableId) (first count : Nat) (ws : List Word) (i : Nat) : Option Claim :=
  if first ≤ i ∧ i < first + count then t.offeredClaim (clampedValues t ws (i - first)) else s.standingClaim t i

/-- Whether entry k of a request has a structural fault (R192, step 6): one of its own, or a claim that another entry
would hold too. -/
def State.entryFaulty (s : State) (t : TableId) (first count : Nat) (ws : List Word) (k : Nat) : Bool :=
  match t.parse (clampedValues t ws k) with
  | none => true
  | some e =>
    e.claim.isSome &&
      (List.range t.limit).any fun i =>
        decide (i ≠ first + k) && decide (s.claimAfter t first count ws i = e.claim)

/-- The first entry of a request with a structural fault (R192, step 6). -/
def State.firstFault (s : State) (t : TableId) (first count : Nat) (ws : List Word) : Option Nat :=
  (List.range count).find? (s.entryFaulty t first count ws)

/-! ## In use (R10, R11, R12, R44, R83, R179) -/

/-- Whether a Channel Table entry may not be stored now (R10, R11). -/
def State.channelInUse (s : State) (n : Fin 12) (e : ChannelEntry) : Bool :=
  let old := s.channelEntry n
  decide ({ e with enabled := old.enabled } ≠ old ∧ (s.channel n).mode ≠ .off) ||
    decide (s.engine.mode = .incident) && old.enabled && !e.enabled

/-- Whether a signal belongs to a present fan or door whose state keeps its points (R44, R83). -/
def State.signalInUse (s : State) : Signal → Bool
  | .fanRun f | .fanReverse f | .fanConfirm f | .fanIsolator f => (s.fanEntry f).present && !(s.fan f).free
  | .doorClosed d | .doorOpen d | .doorButton d | .doorDriveOpen d | .doorDriveClose d =>
    (s.doorEntry d).present && !(s.door d).pointsFree
  | .maintKey | .commissionKey => false

/-- Whether a new signal is the exception of R83 and R179: a contact that no point holds, given to a door in
CONTACT_FAULT. -/
def State.contactGain (s : State) : Signal → Bool
  | .doorClosed d => decide ((s.door d).mode = .contactFault) && !s.assigned (.doorClosed d)
  | .doorOpen d => decide ((s.door d).mode = .contactFault) && !s.assigned (.doorOpen d)
  | _ => false

/-- Whether a Point Table entry may not be stored now (R179, step 4). -/
def State.pointInUse (s : State) (n : Fin 64) (e : PointEntry) : Bool :=
  let old := s.pointEntry n
  decide (e.function ≠ old.function ∨ e.functionIndex ≠ old.functionIndex) &&
    ((match old.signal with | some sig => s.signalInUse sig | none => false) ||
      (match e.signal with | some sig => s.signalInUse sig && !s.contactGain sig | none => false))

/-- Whether an offered entry fails its table's in-use check (R192, step 7). -/
def State.entryInUse (s : State) (i : Nat) (e : TableEntry) : Bool :=
  match e with
  | .channel e => if h : i < 12 then s.channelInUse ⟨i, h⟩ e else false
  | .calibration e =>
    if h : i < 12 then decide (e ≠ s.calibrationTable[i]) && decide ((s.channel ⟨i, h⟩).mode ≠ .off) else false
  | .fan e => if h : i < 6 then decide (e ≠ s.fanTable[i]) && !(s.fan ⟨i, h⟩).free else false
  | .door e => if h : i < 6 then decide (e ≠ s.doorTable[i]) && !(s.door ⟨i, h⟩).entryFree else false
  | .point e => if h : i < 64 then s.pointInUse ⟨i, h⟩ e else false
  | .node _ | .watch _ | .neighbour _ | .trigger _ => false

/-! ## The checks in order (R192) -/

/-- How a WRITE ENTRIES request comes out of its checks. -/
inductive WriteCheck where
  | unknownTable | readOnly | badEntry (index : Nat) | outOfField | inUse | taken (clamped : Bool) (batch : Batch)
  deriving DecidableEq, Repr

/-- Steps 6 to 8 of R192: structural faults, use, and the request taken.  `image` leaves out step 7. -/
def State.checkBatch (s : State) (image : Bool) (t : TableId) (first count : Nat) (ws : List Word) : WriteCheck :=
  match s.firstFault t first count ws with
  | some k => .badEntry (first + k)
  | none =>
    let b := offeredBatch t first count ws
    if image = false ∧ b.any (fun p => s.entryInUse p.1 p.2) = true then .inUse
    else .taken (anyClamped t ws count) b

/-- Steps 2 to 8 of R192 on a request whose data are the words given. -/
def State.checkWrite (s : State) (image : Bool) (table first count : Nat) (ws : List Word) : WriteCheck :=
  match tableOf table with
  | none => .unknownTable
  | some t =>
    if t.writable = false then .readOnly
    else if ws.length < count * t.length then .badEntry (first + ws.length / t.length)
    else if count * t.length < ws.length then .badEntry (first + count)
    else if t.limit < first + count then .outOfField
    else s.checkBatch image t first count ws

/-! ## What a taken request does -/

/-- What the unit that owns a stored entry does (R6, R8, R45, R99); `before` is the state before the request. -/
def State.unitActs (before : State) (s : State) (p : Nat × TableEntry) : State :=
  match p.2 with
  | .channel _ => if h : p.1 < 12 then s.channelWritten ⟨p.1, h⟩ (before.channelEntry ⟨p.1, h⟩) else s
  | .fan e =>
    if h : p.1 < 6 then
      if e = before.fanEntry ⟨p.1, h⟩ then s else s.fanWritten ⟨p.1, h⟩ (before.fanEntry ⟨p.1, h⟩)
    else s
  | .door e =>
    if h : p.1 < 6 then
      if e = before.doorEntry ⟨p.1, h⟩ then s else s.doorWritten ⟨p.1, h⟩ (before.doorEntry ⟨p.1, h⟩)
    else s
  | .node e =>
    if e.pressurisationPrecedence = before.nodeTable.pressurisationPrecedence then s else s.recomputeGallery
  | .calibration _ | .watch _ | .neighbour _ | .trigger _ | .point _ => s

/-- Whether a batch holds Point Table entries. -/
def Batch.ofPoints (b : Batch) : Bool := b.any fun p => match p.2 with | .point _ => true | _ => false

/-- A taken WRITE ENTRIES: every entry stored, then the owning units (R192), signals handed over for a Point
Table write (R180).  The units act on the entries of a request in entry order, and so offer their keys and latch their
events (DESIGN CHOICE: R192 gives that order to the storing only; assumption 50). -/
def State.takeBatch (before : State) (b : Batch) : State :=
  let acted := b.foldl (State.unitActs before) (before.storeBatch b)
  if b.ofPoints then State.pointsWritten before acted else acted

/-- What a channel reads after an image record (R23). -/
def State.recordActs (s : State) (p : Nat × TableEntry) : State :=
  match p.2 with
  | .channel _ => if h : p.1 < 12 then s.channelLoaded ⟨p.1, h⟩ else s
  | _ => s

/-- A taken image record: the entries stored, the units held, and no key emitted (R23, R64, R102, R133, R186). -/
def State.takeRecord (before : State) (b : Batch) : State :=
  let acted := { b.foldl State.recordActs (before.storeBatch b) with keys := before.keys }
  if b.ofPoints then (State.pointsWritten before acted).followPins else acted

end Sys2Proof.Machine
end

