-- ==== Sys2Proof/Machine/Store.lean ====
section
/-! DEFINITION. The Retained Store Controller's commands and operations (chapter 9): status, staging, setup and
CONFIRM, erase pulses, the program, and the store supply. -/

namespace Sys2Proof.Machine

/-! ## Answers (R199) -/

/-- The status codes of an ACCESS REPLY (R199). -/
inductive AccessStatus where
  | ok | clamped | outOfField | badEntry | inUse | readOnly | unknownTable | busy | guarded | sequence
  deriving DecidableEq, Repr

/-- R199; `guarded` is PROTECTED. -/
def AccessStatus.code : AccessStatus → Nat
  | .ok => 0 | .clamped => 1 | .outOfField => 2 | .badEntry => 3 | .inUse => 4 | .readOnly => 5
  | .unknownTable => 6 | .busy => 7 | .guarded => 8 | .sequence => 9

/-- What a TABLE ACCESS is answered: its status, word 3 of the reply, and the data (R199). -/
structure Answer where
  status : AccessStatus
  number : Word
  data : List Byte
  deriving DecidableEq, Repr

/-- An answer without data: nothing is carried (R199). -/
def Answer.plain (status : AccessStatus) : Answer := { status := status, number := 0, data := [] }

/-- An answer that carries bytes, counted in word 3 (R199). -/
def Answer.bytes (status : AccessStatus) (bs : List Byte) : Answer :=
  { status := status, number := BitVec.ofNat 16 bs.length, data := bs }

/-- Word 3 under BAD_ENTRY: the index of the first faulty entry or point (R199). -/
def indexWord (i : Nat) : Word := if i < 65536 then BitVec.ofNat 16 i else Config.wideIndexWord i

/-- BAD_ENTRY with an index (R199). -/
def Answer.bad (i : Nat) : Answer := { status := .badEntry, number := indexWord i, data := [] }

/-- BAD_ENTRY of a store operation, which names no entry (R199, assumption 6). -/
def Answer.badLength (op : Word) : Answer := { status := .badEntry, number := Config.badLengthIndex op, data := [] }

/-! ## Sequence (R167) -/

/-- Whether a setup is pending (R163). -/
def StoreMode.setup : StoreMode → Bool
  | .eraseSet | .programSet => true
  | _ => false

/-- The busy flag (R163). -/
def StoreMode.busy : StoreMode → Bool
  | .erasing | .eraseSuspended | .programming => true
  | _ => false

/-- A broken sequence: setup page cleared, READY, sequence error (R167). -/
def StoreState.breakSequence (x : StoreState) : StoreState :=
  { x with mode := .ready, setupPage := none, sequenceError := true }

/-- A store command other than STORE STATUS and STORE CONFIRM: in a setup state it breaks the sequence and is not
executed (R167). -/
def State.sequenced (s : State) (run : State × Answer) : State × Answer :=
  if s.store.mode.setup then (s.setStore s.store.breakSequence, .plain .sequence) else run

/-! ## Status (R165) -/

/-- The status flags word of STORE STATUS (R165). -/
def StoreState.flagsWord (x : StoreState) : Int :=
  flagCode x.mode.busy + 2 * flagCode (decide (x.mode = .eraseSuspended)) + 4 * flagCode x.eraseError +
    8 * flagCode x.programError + 16 * flagCode x.supplyError + 32 * flagCode x.sequenceError +
    64 * flagCode x.protectError

/-- A page field of STORE STATUS: −1 for none (R165). -/
def pageWord : Option (Fin 48) → Int
  | some p => p.val
  | none => -1

/-- The six words of STORE STATUS (R165). -/
def State.storeStatusWords (s : State) : List Int :=
  [(s.store.mode.code : Int), s.store.flagsWord, pageWord s.store.setupPage, pageWord s.store.operationPage,
    (s.store.pulses : Int), flagCode s.supplyOk]

/-- STORE STATUS (R165): taken in every store state. -/
def State.storeStatus (s : State) : State × Answer :=
  (s, { status := .ok, number := Config.wordReplyCount 7, data := bytesOf (s.storeStatusWords.map fieldWord) })

/-- The five error flags cleared (R165). -/
def StoreState.clearErrors (x : StoreState) : StoreState :=
  { x with eraseError := false, programError := false, supplyError := false, sequenceError := false, protectError := false }

/-- STORE CLEAR STATUS (R165). -/
def State.storeClearStatus (s : State) : State × Answer :=
  s.sequenced
    (if s.store.mode.busy then (s, .plain .busy) else (s.setStore s.store.clearErrors, .plain .ok))

/-! ## Reads (R164, R165) -/

/-- Bytes of a 512-byte memory from an offset, cut off at byte 511 (R164, R165). -/
def cutRead (m : Mem) (base offset length : Nat) : Answer :=
  .bytes (if 512 < offset + length then .outOfField else .ok) (Mem.readBytes m (base + offset) (min length (512 - offset)))

/-- STORE READ (R165): READY only. -/
def State.storeRead (page offset length : Nat) (s : State) : State × Answer :=
  s.sequenced
    (s,
      if s.store.mode.busy then .plain .busy
      else if length = 0 ∨ 96 < length then .badLength 9
      else if 47 < page ∨ 511 < offset then .plain .outOfField
      else cutRead s.store.cells (512 * page) offset length)

/-- STAGING READ (R164): in every store state but the two setup states. -/
def State.stagingRead (offset length : Nat) (s : State) : State × Answer :=
  s.sequenced
    (s,
      if length = 0 ∨ 96 < length then .badLength 11
      else if 511 < offset then .plain .outOfField
      else cutRead s.store.staging 0 offset length)

/-- STAGING WRITE (R164, R199): checked whole; in every store state but the two setup states. -/
def State.stagingWrite (offset : Nat) (data : List Byte) (s : State) : State × Answer :=
  s.sequenced
    (if data = [] then (s, .badLength 10)
      else if 512 < offset + data.length then (s, .plain .outOfField)
      else (s.setStore { s.store with staging := Mem.writeBytes s.store.staging offset data }, .plain .ok))

/-! ## Setup and CONFIRM (R166 to R170) -/

/-- A store page by its number, if there is one (R161). -/
def pageOf (page : Nat) : Option (Fin 48) := if h : page < 48 then some ⟨page, h⟩ else none

/-- ERASE SETUP and PROGRAM SETUP: the cases of R166. -/
def State.storeSetup (mode : StoreMode) (page : Nat) (s : State) : State × Answer :=
  s.sequenced
    (if s.store.mode.busy then (s, .plain .busy)
      else
        match pageOf page with
        | none => (s, .plain .outOfField)
        | some p =>
          if s.store.supplyError then (s, .plain .busy)
          else (s.setStore { s.store with mode := mode, setupPage := some p }, .plain .ok))

/-- The store after a taken erase CONFIRM of page p (R169). -/
def StoreState.beginErase (x : StoreState) (p : Fin 48) : StoreState :=
  { x with mode := .erasing, setupPage := none, operationPage := some p, pulses := 0 }

/-- The store after a taken program CONFIRM of page p (R170). -/
def StoreState.beginProgram (x : StoreState) (p : Fin 48) : StoreState :=
  { x with mode := .programming, setupPage := none, operationPage := some p, programData := x.staging }

/-- The store after an abort: supply error set, no operation, READY; a read that suspended the erase ends first
(R171).  The program data read FFh from then on (DESIGN CHOICE; assumption 48). -/
def StoreState.aborted (x : StoreState) : StoreState :=
  { x with
    mode := if x.mode = .eraseSuspended then .eraseSuspended else .ready
    setupPage := none, operationPage := none, pulses := 0, programData := [], supplyError := true }

/-- A CONFIRM that has passed the sequence and protection checks: the operation begins, or is aborted at once by a
low supply; the engine is told either way (R169 to R171, R174, assumption 17). -/
def State.beginOperation (p : Fin 48) (s : State) : State :=
  let begun := if s.store.mode = .eraseSet then s.store.beginErase p else s.store.beginProgram p
  let moved := if s.supplyOk then s.setStore begun else (s.setStore begun.aborted).latch .storeError
  moved.confirmTold p

/-- Whether protection lets a CONFIRM of a page pass (R168). -/
def State.confirmAllowed (s : State) (p : Fin 48) : Bool := decide (8 ≤ p.val) || s.signalActive .commissionKey

/-- STORE CONFIRM (R167, R168). -/
def State.storeConfirm (page : Nat) (s : State) : State × Answer :=
  if s.store.mode.busy then (s, .plain .busy)
  else if s.store.mode = .ready then (s.setStore { s.store with sequenceError := true }, .plain .sequence)
  else
    match pageOf page with
    | none => (s.setStore s.store.breakSequence, .plain .sequence)
    | some p =>
      if s.store.setupPage ≠ some p then (s.setStore s.store.breakSequence, .plain .sequence)
      else if s.confirmAllowed p = false then
        (s.setStore { s.store with mode := .ready, setupPage := none, protectError := true }, .plain .guarded)
      else (s.beginOperation p, .plain .ok)

/-! ## Operations (R169 to R171) -/

/-- A page after an erase pulse that sets the bits given besides those already set. -/
def afterPulse (old cells : List Byte) : List Byte :=
  (List.range 512).map fun i => byteAt old i ||| byteAt cells i

/-- The store at the end of an operation: READY, no operation page (R169, R170), the program data FFh throughout (DESIGN
CHOICE: R170 holds them for the operation only; assumption 48). -/
def StoreState.operationOver (x : StoreState) : StoreState :=
  { x with mode := .ready, operationPage := none, pulses := 0, programData := [] }

/-- ERASE_PULSE_END (R169): at the end of a pulse in ERASING.  A pulse that a waiting request breaks off has no end
(R173), and an erase confirmed during a slot read acts on the cells only after the read ends (R172). -/
def erasePulseEndEffect (cells : List Byte) (s : State) : State :=
  match s.store.mode, s.store.operationPage, s.store.service with
  | .erasing, some p, .idle =>
    let page := afterPulse (s.store.page p) cells
    let pulsed := s.setStore (s.store.setPage p page)
    if page.all (fun b => decide (b = 0xFF)) then (pulsed.setStore pulsed.store.operationOver).latch .storeDone
    else if s.store.pulses + 1 < 8 then pulsed.setStore { pulsed.store with pulses := s.store.pulses + 1 }
    else (pulsed.setStore { pulsed.store.operationOver with eraseError := true }).latch .storeError
  | _, _, _ => s

/-- The 512 bytes a program asks for (R170). -/
def StoreState.asked (x : StoreState) : List Byte := Mem.readBytes x.programData 0 512

/-- The page a program gives: the AND of its old bytes and the program data (R170). -/
def StoreState.programmed (x : StoreState) (p : Fin 48) : List Byte :=
  List.zipWith (fun old new => old &&& new) (x.page p) x.asked

/-- The Response Index entries of a programmed response page rebuilt (R174). -/
def State.rebuildFor (p : Fin 48) (s : State) : State :=
  if p.val < 32 then s.setEngine (s.engine.rebuildIndex p (s.store.page p)) else s

/-- PROGRAM_COMPLETION (R170, R172): in PROGRAMMING.  A program confirmed during a slot read acts on the cells only after
the read ends. -/
def programCompletionEffect (s : State) : State :=
  match s.store.mode, s.store.operationPage, s.store.service with
  | .programming, some _, .reading _ _ _ => s
  | .programming, some p, _ =>
    let page := s.store.programmed p
    let agrees := decide (page = s.store.asked)
    let written := (s.store.setPage p page).operationOver
    let judged :=
      if agrees then (s.setStore written).latch .storeDone
      else (s.setStore { written with programError := true }).latch .storeError
    (judged.rebuildFor p).serveWaiting
  | _, _, _ => s

/-- SMON_CHANGE (R171): a level that goes low during an operation aborts it and leaves its page indeterminate. -/
def smonChangeEffect (withinLimit : Bool) (s : State) : State :=
  if withinLimit = s.supplyOk then s
  else
    let seen := { s with supplyOk := withinLimit }
    if withinLimit = false ∧ s.store.mode.busy ∧ s.store.operationPage.isSome then
      let scrambled := seen.scramblePage s.store.operationPage
      ((scrambled.setStore scrambled.store.aborted).latch .storeError).serveWaiting
    else seen

end Sys2Proof.Machine
end

