-- ==== Sys2Proof/Machine/Orders.lean ====
section
/-! DEFINITION. The ORDERs (R188): what each does, its result, and its reply (R187, R199). -/

namespace Sys2Proof.Machine

/-- The result codes of an ORDER REPLY (R199). -/
inductive OrderResult where
  | done | clamped | refusedMode | refusedState | unknownTarget | queueFull | absent | busy
  deriving DecidableEq, Repr

/-- R199. -/
def OrderResult.code : OrderResult → Nat
  | .done => 0 | .clamped => 1 | .refusedMode => 2 | .refusedState => 3 | .unknownTarget => 4 | .queueFull => 5
  | .absent => 6 | .busy => 7

/-- An ORDER REPLY: to the request's source with its tag, out of the arrival port; only to a request addressed to
the node (R112, R187, R199). -/
def State.answerOrder (req : Request) (kind : Word) (result : OrderResult) (s : State) : State :=
  if req.own && s.address.isSome then
    s.queueTo req.port (s.buildFrame 4 req.source req.tag (bytesOf [kind, BitVec.ofNat 16 result.code]))
  else s

/-- An order executed as one event and answered; during start-up load answered BUSY without being executed
(R187). -/
def State.order (req : Request) (kind : Word) (run : State → State × OrderResult) (s : State) : State :=
  if s.started then ((run s).1.settle).answerOrder req kind (run s).2 else s.answerOrder req kind .busy

/-! ## Fan orders (R58, R71, R72) -/

/-- The present fan an order names, if any (R71). -/
def State.presentFan (s : State) (fan : Word) : Option (Fin 6) :=
  match indexOf 6 fan.toNat with
  | some f => if (s.fanEntry f).present then some f else none
  | none => none

/-- The demand a FAN SET carries, after its clamps (R71). -/
def fanSetDemand (direction speed rate precedence : Word) : Demand :=
  { precedence := (clamp 1 15 (signed precedence)).toNat
    direction := if signed direction = 0 then .fwd else .rev
    speed := (clamp 0 1000 (signed speed)).toNat
    rate := (clamp 1 500 (signed rate)).toNat }

/-- Whether a FAN SET has a field its clamp altered (R71). -/
def fanSetClamped (direction speed rate precedence : Word) : Bool :=
  decide (signed direction ≠ 0 ∧ signed direction ≠ 1) || decide (clamp 0 1000 (signed speed) ≠ signed speed) ||
    decide (clamp 1 500 (signed rate) ≠ signed rate) || decide (clamp 1 15 (signed precedence) ≠ signed precedence)

/-- A fan's line slot given a new content, with one resolution (R68, R71, R72). -/
def State.setLineSlot (f : Fin 6) (d : Option Demand) (s : State) : State :=
  (s.setFan f { s.fan f with lineSlot := d }).resolveFan f

/-- FAN SET (R71). -/
def State.fanSet (fan direction speed rate precedence : Word) (s : State) : State × OrderResult :=
  match s.presentFan fan with
  | some f =>
    (s.setLineSlot f (some (fanSetDemand direction speed rate precedence)),
      if fanSetClamped direction speed rate precedence then .clamped else .done)
  | none => (s, .unknownTarget)

/-- FAN RELEASE (R72). -/
def State.fanRelease (fan : Word) (s : State) : State × OrderResult :=
  match s.presentFan fan with
  | some f => (s.setLineSlot f none, .done)
  | none => (s, .unknownTarget)

/-- FAN RESET (R58). -/
def State.fanReset (fan : Word) (s : State) : State × OrderResult :=
  match s.presentFan fan with
  | some f =>
    if (s.fan f).mode = .fault then (s.setFan f ((s.fan f).coast (s.fanEntry f)), .done) else (s, .refusedState)
  | none => (s, .unknownTarget)

/-! ## Door orders (R97, R98) -/

/-- The present doors of a door set, in door order (R98). -/
def State.namedDoors (s : State) (doors : Word) : List (Fin 6) :=
  (List.finRange 6).filter fun d => doors.getLsbD d.val && (s.doorEntry d).present

/-- One door after another takes an order; true while every one took it (R98). -/
def doorsTake (act : Fin 6 → State → State × Bool) : List (Fin 6) → State → State × Bool
  | [], s => (s, true)
  | d :: ds, s =>
    let rest := doorsTake act ds (act d s).1
    (rest.1, (act d s).2 && rest.2)

/-- A door order over its door set: UNKNOWN_TARGET, or DONE, or the refusal of a door (R98). -/
def State.doorOrder (doors : Word) (act : Fin 6 → State → State × Bool) (s : State) : State × OrderResult :=
  if s.namedDoors doors = [] then (s, .unknownTarget)
  else
    let taken := doorsTake act (s.namedDoors doors) s
    (taken.1, if taken.2 then .done else .refusedState)

/-- DOOR SERVICE OFF: refused outside MAINTENANCE as a whole (R97, R98). -/
def State.doorServiceOff (doors : Word) (s : State) : State × OrderResult :=
  if s.namedDoors doors ≠ [] ∧ s.engine.mode ≠ .maintenance then (s, .refusedMode)
  else s.doorOrder doors State.doorOrderServiceOff

/-! ## Mode and response orders (R152, R154, R155) -/

/-- INCIDENT ON (R154). -/
def State.incidentOn (s : State) : State × OrderResult := (s.enterIncident, .done)

/-- INCIDENT CLEAR (R155). -/
def State.incidentClear (s : State) : State × OrderResult :=
  if s.engine.mode = .incident then
    (s.changeMode (if s.signalActive .maintKey then .maintenance else .normal), .done)
  else (s, .done)

/-- The result a dispatch request gives its order (R140). -/
def DispatchResult.answer : DispatchResult → OrderResult
  | .absent => .absent | .done => .done | .queueFull => .queueFull

/-- RESPONSE RUN (R152). -/
def State.responseRun (number : Word) (s : State) : State × OrderResult :=
  match indexOf 128 number.toNat with
  | some n => ((s.dispatch n).1, (s.dispatch n).2.answer)
  | none => (s, .unknownTarget)

/-- RESPONSE CANCEL (R152). -/
def State.responseCancel (number : Word) (s : State) : State × OrderResult :=
  match indexOf 128 number.toNat with
  | some n => (s.cancel n, .done)
  | none => (s, .unknownTarget)

/-- An order of no known kind, or with too few values (R188). -/
def State.unknownOrder (s : State) : State × OrderResult := (s, .unknownTarget)

/-! ## The orders as requests (R199) -/

/-- FAN_SET. -/
def fanSetEffect (req : Request) (fan direction speed rate precedence : Word) (s : State) : State :=
  s.order req 1 (State.fanSet fan direction speed rate precedence)

/-- FAN_RELEASE. -/
def fanReleaseEffect (req : Request) (fan : Word) (s : State) : State := s.order req 2 (State.fanRelease fan)

/-- FAN_RESET. -/
def fanResetEffect (req : Request) (fan : Word) (s : State) : State := s.order req 3 (State.fanReset fan)

/-- DOOR_OPEN. -/
def doorOpenEffect (req : Request) (doors : Word) (s : State) : State :=
  s.order req 4 (State.doorOrder doors State.doorOrderOpen)

/-- DOOR_HOLD. -/
def doorHoldEffect (req : Request) (doors : Word) (s : State) : State :=
  s.order req 5 (State.doorOrder doors State.doorOrderHold)

/-- DOOR_FREE. -/
def doorFreeEffect (req : Request) (doors : Word) (s : State) : State :=
  s.order req 6 (State.doorOrder doors State.doorOrderFree)

/-- DOOR_CLOSE. -/
def doorCloseEffect (req : Request) (doors : Word) (s : State) : State :=
  s.order req 7 (State.doorOrder doors State.doorOrderClose)

/-- DOOR_SERVICE_OFF. -/
def doorServiceOffEffect (req : Request) (doors : Word) (s : State) : State :=
  s.order req 8 (State.doorServiceOff doors)

/-- DOOR_SERVICE_ON. -/
def doorServiceOnEffect (req : Request) (doors : Word) (s : State) : State :=
  s.order req 9 (State.doorOrder doors State.doorOrderServiceOn)

/-- INCIDENT_ON. -/
def incidentOnEffect (req : Request) (s : State) : State := s.order req 10 State.incidentOn

/-- INCIDENT_CLEAR. -/
def incidentClearEffect (req : Request) (s : State) : State := s.order req 11 State.incidentClear

/-- RESPONSE_RUN. -/
def responseRunEffect (req : Request) (number : Word) (s : State) : State := s.order req 12 (State.responseRun number)

/-- RESPONSE_CANCEL. -/
def responseCancelEffect (req : Request) (number : Word) (s : State) : State :=
  s.order req 13 (State.responseCancel number)

/-- UNKNOWN_ORDER: the reply echoes the kind received (assumption 2 where there was none). -/
def unknownOrderEffect (req : Request) (kind : Option Word) (s : State) : State :=
  s.order req (kind.getD (Config.missingOrderKind req.tag)) State.unknownOrder

end Sys2Proof.Machine
end

