-- ==== Sys2Proof/Machine/Access.lean ====
section
/-! DEFINITION. The TABLE ACCESS operations (R190): what each does, its answer, and its reply (R187, R199). -/

namespace Sys2Proof.Machine

/-- The operation's byte of word 0 of a reply (R199, assumption 4). -/
def operationByte (op : Word) : Byte := if op.toNat < 256 then op.extractLsb' 0 8 else Config.wideOperationByte op

/-- The payload of an ACCESS REPLY (R199). -/
def Answer.payload (op a b : Word) (x : Answer) : List Byte :=
  [operationByte op, codeByte x.status.code] ++ bytesOf [a, b, x.number] ++ x.data

/-- An ACCESS REPLY, only to a request addressed to the node (R112, R187, R199). -/
def State.answerAccess (req : Request) (op a b : Word) (x : Answer) (s : State) : State :=
  if req.own && s.address.isSome then
    s.queueTo req.port (s.buildFrame 6 req.source req.tag (x.payload op a b))
  else s

/-- A TABLE ACCESS executed as one event and answered; during start-up load answered BUSY without being executed
(R187). -/
def State.access (req : Request) (op a b : Word) (run : State → State × Answer) (s : State) : State :=
  if s.started then (run s).1.answerAccess req op a b (run s).2 else s.answerAccess req op a b (.plain .busy)

/-! ## Tables (R191, R192) -/

/-- READ ENTRIES (R191). -/
def State.readEntries (table first count : Nat) (s : State) : State × Answer :=
  match tableOf table with
  | none => (s, .plain .unknownTable)
  | some t =>
    (s,
      { status := if t.cutShort first count then .outOfField else .ok
        number := BitVec.ofNat 16 (t.readCount first count)
        data := bytesOf (s.readWords t first count) })

/-- WRITE ENTRIES (R192). -/
def State.writeEntries (table first count : Nat) (data : List Byte) (s : State) : State × Answer :=
  match s.checkWrite false table first count (wordsOf data) with
  | .unknownTable => (s, .plain .unknownTable)
  | .readOnly => (s, .plain .readOnly)
  | .badEntry i => (s, .bad i)
  | .outOfField => (s, .plain .outOfField)
  | .inUse => (s, .plain .inUse)
  | .taken clamped b => ((s.takeBatch b).settle, .plain (if clamped then .clamped else .ok))

/-! ## Point values (R183) -/

/-- A point's value as READ returns it (R183). -/
def State.pointValue (s : State) (n : Fin 64) : Bool := (s.outputActive n).getD (s.pointActive n)

/-- A point's value word by number; 0 past P63, which no read reaches. -/
def State.pointValueWord (s : State) (i : Nat) : Word :=
  if h : i < 64 then (if s.pointValue ⟨i, h⟩ then 1 else 0) else 0

/-- How many points a POINT VALUE READ returns: those of the run up to P63 that fit in 56 words (R183, R190). -/
def pointReadCount (first count : Nat) : Nat := min count (min (64 - first) 56)

/-- POINT VALUE READ (R183).  A run within P63 of more than 56 points is answered OK with its first 56 values (DESIGN
CHOICE: R190 caps the reply and R191 gives such a status for READ ENTRIES alone; assumption 46).  A count of 0 is
answered OK up to first point 64 and OUT_OF_FIELD past it (DESIGN CHOICE: R183 gives an empty run there no status;
assumption 47). -/
def State.pointValueRead (first count : Nat) (s : State) : State × Answer :=
  (s,
    { status := if 64 < first + count then .outOfField else .ok
      number := BitVec.ofNat 16 (pointReadCount first count)
      data := bytesOf ((List.range (pointReadCount first count)).map fun i => s.pointValueWord (first + i)) })

/-- A latch written, by number. -/
def State.writeLatch (s : State) (i : Nat) (v : Bool) : State :=
  if h : i < 64 then s.setPoint ⟨i, h⟩ { s.point ⟨i, h⟩ with latch := v } else s

/-- Every latch of a run written, in point order (R183). -/
def State.writeLatches : State → Nat → List Word → State
  | s, _, [] => s
  | s, i, w :: ws => State.writeLatches (s.writeLatch i (decide (w = 1))) (i + 1) ws

/-- The place of the first value that is neither 0 nor 1 (R183). -/
def firstBadValue (ws : List Word) : Option Nat := ws.findIdx? fun w => decide (w ≠ 0 ∧ w ≠ 1)

/-- POINT VALUE WRITE, checked whole (R183, R199, assumption 18).  A count of 0 is answered OK up to first point 64 and
OUT_OF_FIELD past it (DESIGN CHOICE: R183 gives an empty run there no status; assumption 47). -/
def State.pointValueWrite (first count : Nat) (data : List Byte) (s : State) : State × Answer :=
  let ws := wordsOf data
  if ws.length < count then (s, .bad (first + ws.length))
  else if count < ws.length then (s, .bad (first + count))
  else
    match firstBadValue ws with
    | some k => (s, .bad (first + k))
    | none =>
      if 64 < first + count then (s, .plain .outOfField) else ((s.writeLatches first ws).followPins, .plain .ok)

/-! ## The event latch (R195) -/

/-- The mask two field words carry: kinds 0 to 15, and kinds 16 to 23 in the low byte of the second (R195). -/
def eventMask (low high : Word) : BitVec 24 := high.extractLsb' 0 8 ++ low

/-- The whole event latch in two words arranged as the mask (R195, R199). -/
def State.eventWords (s : State) : List Word :=
  [s.events.extractLsb' 0 16, (0 : BitVec 8) ++ s.events.extractLsb' 16 8]

/-- EVENT CLEAR (R195). -/
def State.eventClear (low high : Word) (s : State) : State × Answer :=
  let cleared := { s with events := s.events &&& ~~~eventMask low high }
  (cleared, { status := .ok, number := Config.wordReplyCount 5, data := bytesOf cleared.eventWords })

/-- The kinds a mask names latched, in ascending order (R195). -/
def State.latchMask (mask : BitVec 24) (s : State) : State :=
  EventKind.all.foldl (fun s k => if mask.getLsbD k.code then s.latch k else s) s

/-- EVENT SET (R195). -/
def State.eventSet (low high : Word) (s : State) : State × Answer :=
  let set := s.latchMask (eventMask low high)
  (set, { status := .ok, number := Config.wordReplyCount 6, data := bytesOf set.eventWords })

/-! ## The operations as requests (R199) -/

/-- READ_ENTRIES. -/
def readEntriesEffect (req : Request) (table first count : Word) (s : State) : State :=
  s.access req 1 table first (State.readEntries table.toNat first.toNat count.toNat)

/-- WRITE_ENTRIES. -/
def writeEntriesEffect (req : Request) (table first count : Word) (data : List Byte) (s : State) : State :=
  s.access req 2 table first (State.writeEntries table.toNat first.toNat count.toNat data)

/-- POINT_VALUE_READ. -/
def pointValueReadEffect (req : Request) (a first count : Word) (s : State) : State :=
  s.access req 3 a first (State.pointValueRead first.toNat count.toNat)

/-- POINT_VALUE_WRITE. -/
def pointValueWriteEffect (req : Request) (a first count : Word) (data : List Byte) (s : State) : State :=
  s.access req 4 a first (State.pointValueWrite first.toNat count.toNat data)

/-- EVENT_CLEAR. -/
def eventClearEffect (req : Request) (low high : Word) (s : State) : State :=
  s.access req 5 low high (State.eventClear low high)

/-- EVENT_SET. -/
def eventSetEffect (req : Request) (low high : Word) (s : State) : State :=
  s.access req 6 low high (State.eventSet low high)

/-- STORE_STATUS. -/
def storeStatusEffect (req : Request) (a b : Word) (s : State) : State := s.access req 7 a b State.storeStatus

/-- STORE_CLEAR_STATUS. -/
def storeClearStatusEffect (req : Request) (a b : Word) (s : State) : State :=
  s.access req 8 a b State.storeClearStatus

/-- STORE_READ. -/
def storeReadEffect (req : Request) (page offset length : Word) (s : State) : State :=
  s.access req 9 page offset (State.storeRead page.toNat offset.toNat length.toNat)

/-- STAGING_WRITE. -/
def stagingWriteEffect (req : Request) (a offset : Word) (data : List Byte) (s : State) : State :=
  s.access req 10 a offset (State.stagingWrite offset.toNat data)

/-- STAGING_READ. -/
def stagingReadEffect (req : Request) (a offset length : Word) (s : State) : State :=
  s.access req 11 a offset (State.stagingRead offset.toNat length.toNat)

/-- ERASE_SETUP. -/
def eraseSetupEffect (req : Request) (page b : Word) (s : State) : State :=
  s.access req 12 page b (State.storeSetup .eraseSet page.toNat)

/-- PROGRAM_SETUP. -/
def programSetupEffect (req : Request) (page b : Word) (s : State) : State :=
  s.access req 13 page b (State.storeSetup .programSet page.toNat)

/-- STORE_CONFIRM. -/
def storeConfirmEffect (req : Request) (page b : Word) (s : State) : State :=
  s.access req 14 page b (State.storeConfirm page.toNat)

/-- Word i of a head that may be too short (R199, assumption 3). -/
def headWord (req : Request) (head : List Word) (i : Nat) : Word := head.getD i (Config.missingHeadWord i req.tag)

/-- UNKNOWN_OPERATION: an operation of no known code, or a head too short (R190, R199). -/
def unknownOperationEffect (req : Request) (head : List Word) (s : State) : State :=
  s.access req (headWord req head 0) (headWord req head 1) (headWord req head 2) fun s => (s, .plain .unknownTable)

end Sys2Proof.Machine
end

