-- ==== Sys2Proof/Machine/Load.lean ====
section
/-! DEFINITION. Resets and start-up load: power-on reset, RESTART, the image replay, the index build and the start of
the units (R175, R185, R186, R189, R197, R200). -/

namespace Sys2Proof.Machine

/-! ## The load report (R196) -/

/-- The load report: the next report sequence, to every UP port; an unaddressed node builds none (R109, R196,
assumption 19). -/
def State.loadReport (s : State) : State :=
  if s.address.isSome then (s.setCycle { s.cycle with sequence := s.cycle.sequence + 1 }).sendReport else s

/-! ## Power-on reset -/

/-- The node address the address inputs give (R185). -/
def addressOf (adr : Byte) : Option Byte := if 1 ≤ adr.toNat ∧ adr.toNat ≤ 250 then some adr else none

/-- The store at power-on reset: its state as R176 gives it, its pages kept. -/
def StoreState.poweredOn (x : StoreState) : StoreState := { StoreState.reset with cells := x.cells }

/-- POWER_ON_RESET (R176, R185, R186, R197 and the reset rule of every block): the page of an operation in
progress is left indeterminate, the points take the levels at the pins, and start-up load begins with its
report. -/
def powerOnResetEffect (adr : Byte) (pins : BitVec 64) (s : State) : State :=
  let ended := s.scramblePage s.store.operationPage
  State.loadReport
    { State.reset with
      address := addressOf adr
      store := ended.store.poweredOn
      supplyOk := s.supplyOk
      points := tabulate fun n => { pin := pins.getLsbD n.val, filtered := pins.getLsbD n.val, hold := 0, latch := false }
      freeCount := ended.freeCount
      pending := s.pending }

/-! ## RESTART (R189) -/

/-- The store at RESTART: a setup cleared, the staging buffer FFh, an operation and the flags kept, and the slot
reads asked for dropped (R177). -/
def StoreState.restarted (x : StoreState) : StoreState :=
  { x with
    mode := if x.mode.setup then .ready else x.mode
    setupPage := none
    staging := []
    service :=
      match x.service with
      | .idle => .idle
      | .waiting n _ => .waiting n true
      | .reading n _ page => .reading n true page
    behind := x.behind.map fun r => { r with dropped := true } }

/-- A port at RESTART: a frame being sent is sent to its end (R119). -/
def PortState.restarted (p : PortState) : PortState := { PortState.reset with sending := p.sending }

/-- Every block reset by a RESTART that arrived on a port, and start-up load begun (R24, R40, R65, R79, R102, R119,
R133, R160, R177, R186, R189). -/
def State.restarted (p : Port) (s : State) : State :=
  let fresh : State :=
    { State.reset with
      address := s.address
      load := .image 0 true
      pointTable := s.pointTable
      portA := s.portA.restarted
      portB := s.portB.restarted
      fans := s.fans.map Fan.restarted
      store := s.store.restarted
      supplyOk := s.supplyOk
      points := s.points
      freeCount := s.freeCount
      pending := s.pending }
  (fresh.setPort p (fresh.port p).heard).followPins

/-- RESTART: refused in INCIDENT; otherwise the resets, the reply and the load report, in that order (R189,
R196). -/
def restartEffect (req : Request) (s : State) : State :=
  if s.started = false then s.answerOrder req 14 .busy
  else if s.engine.mode = .incident then s.answerOrder req 14 .refusedMode
  else ((s.restarted req.port).answerOrder req 14 .done).loadReport

/-! ## Image replay (R175, R200) -/

/-- Image page p, 0 to 15: store page 32 + p. -/
def imagePage (p : Fin 16) : Fin 48 := ⟨32 + p.val, by omega⟩

/-- The words of an image record. -/
def recordWords (page : List Byte) (start words : Nat) : List Word := wordsOf ((page.drop start).take (2 * words))

/-- One image record applied as a WRITE ENTRIES request without the in-use checks (R175).  A record with count 0
of a writable table is taken; after RESTART a Point Table record is skipped (R186). -/
def State.applyRecord (afterRestart : Bool) (id first count : Nat) (ws : List Word) (s : State) : State :=
  if afterRestart ∧ id = TableId.point.code then s
  else
    match s.checkWrite true id first count ws with
    | .taken _ b => s.takeRecord b
    | .outOfField => if count = 0 then s else s.latch .imageRefused
    | _ => s.latch .imageRefused

/-- The entry length that finds the next record: 1 for an unknown table id (R200). -/
def recordLength (id : Nat) : Nat := match tableOf id with | some t => t.length | none => 1

/-- The records of an image page from a byte on, at most `fuel` of them (R175, R200).  A record that runs past byte 507
latches IMAGE_REFUSED whatever its table, after a RESTART a Point Table record too (DESIGN CHOICE: R186 says that skipped
Point Table records latch nothing, R175 and R200 that a record past byte 507 is refused with it; assumption 43). -/
def applyRecords (afterRestart : Bool) (page : List Byte) : Nat → Nat → State → State
  | 0, _, s => s
  | fuel + 1, pos, s =>
    if 508 ≤ pos then s
    else if byteAt page pos = 0xFF then s
    else if 508 < pos + 3 then s.latch .imageRefused
    else
      let id := (byteAt page pos).toNat
      let count := (byteAt page (pos + 2)).toNat
      let words := count * recordLength id
      let next := pos + 3 + 2 * words
      if 508 < next then s.latch .imageRefused
      else
        applyRecords afterRestart page fuel next
          (s.applyRecord afterRestart id (byteAt page (pos + 1)).toNat count (recordWords page (pos + 3) words))

/-- An image page as read: skipped with IMAGE_REFUSED where it is not valid, else its records (R175).  A record is
at least 3 bytes, so a page holds at most 170. -/
def State.applyImagePage (afterRestart : Bool) (page : List Byte) (s : State) : State :=
  if pageValid page then applyRecords afterRestart page 170 0 s else s.latch .imageRefused

/-- A page read of the load: in ERASING it suspends the erase for its length (R173, R174). -/
def State.loadRead (s : State) : State := if s.store.mode = .erasing then s.partErase s.store.operationPage else s

/-- The Response Index entries of one page made from a read of it (R174). -/
def State.buildPage (p : Fin 32) (s : State) : State :=
  let read := s.loadRead
  let page : Fin 48 := ⟨p.val, by omega⟩
  read.setEngine (read.engine.rebuildIndex page (read.store.page page))

/-- The build of the Response Index: pages 0 to 31 in order (R174). -/
def State.buildIndex (s : State) : State := forEach State.buildPage s

/-- Whether a page read of the load can be served: no slot read stands before it, and no program or suspension holds
the store (R172, R174). -/
def State.loadCanRead (s : State) : Bool :=
  decide (s.store.service = .idle ∧ s.store.mode ≠ .programming ∧ s.store.mode ≠ .eraseSuspended)

/-- One image page handled, and after the last one the index built (R174, R175). -/
def State.replayPage (p : Fin 16) (afterRestart : Bool) (s : State) : State :=
  let read := s.loadRead
  let applied := read.applyImagePage afterRestart (read.store.page (imagePage p))
  if h : p.val + 1 < 16 then { applied with load := .image ⟨p.val + 1, h⟩ afterRestart }
  else { applied.buildIndex with load := .built }

/-- IMAGE_REPLAY (R175): the next image page, when the store can read it. -/
def imageReplayEffect (s : State) : State :=
  match s.load with
  | .image p afterRestart => if s.loadCanRead then s.replayPage p afterRestart else s
  | _ => s

/-! ## The start of the units (R197) -/

/-- The starting node mode (R153). -/
def State.startMode (s : State) : State :=
  s.setEngine { s.engine with mode := if s.signalActive .maintKey then .maintenance else .normal }

/-- The steps of starting, in the order of R197. -/
def State.startUnits (s : State) : State :=
  let fans := forEach State.startFan (forEach State.startDoor s).startMode
  let channels := forEach State.startChannel fans
  let timed := channels.setCycle { channels.cycle with localTimer := some 100 }
  State.followPins { timed with load := .running }

/-- UNITS_START (R197): when the index has been built. -/
def unitsStartEffect (s : State) : State := if s.load = .built then s.startUnits else s

end Sys2Proof.Machine
end

