-- ==== Sys2Proof/Machine/Frames.lean ====
section
/-! DEFINITION. A frame's arrival (R105 to R110): the checks, the classification, the relaying, and the handing of
what it carries to the block that owns the work. -/

namespace Sys2Proof.Machine

/-! ## Requests in frames (R199) -/

/-- An ORDER frame handed to the Access Unit (R188, R199): values beyond those the kind needs are ignored, too few
make an order of unknown kind. -/
def State.handOrder (req : Request) (payload : List Byte) (s : State) : State :=
  match wordsOf payload with
  | [] => unknownOrderEffect req none s
  | kind :: values =>
    match kind.toNat, values with
    | 1, fan :: direction :: speed :: rate :: precedence :: _ => fanSetEffect req fan direction speed rate precedence s
    | 2, fan :: _ => fanReleaseEffect req fan s
    | 3, fan :: _ => fanResetEffect req fan s
    | 4, doors :: _ => doorOpenEffect req doors s
    | 5, doors :: _ => doorHoldEffect req doors s
    | 6, doors :: _ => doorFreeEffect req doors s
    | 7, doors :: _ => doorCloseEffect req doors s
    | 8, doors :: _ => doorServiceOffEffect req doors s
    | 9, doors :: _ => doorServiceOnEffect req doors s
    | 10, _ => incidentOnEffect req s
    | 11, _ => incidentClearEffect req s
    | 12, number :: _ => responseRunEffect req number s
    | 13, number :: _ => responseCancelEffect req number s
    | 14, _ => restartEffect req s
    | _, _ => unknownOrderEffect req (some kind) s

/-- A TABLE ACCESS frame handed to the Access Unit (R190, R199). -/
def State.handAccess (req : Request) (payload : List Byte) (s : State) : State :=
  match wordsOf (payload.take 8) with
  | [op, a, b, c] =>
    let data := payload.drop 8
    match op.toNat with
    | 1 => readEntriesEffect req a b c s
    | 2 => writeEntriesEffect req a b c data s
    | 3 => pointValueReadEffect req a b c s
    | 4 => pointValueWriteEffect req a b c data s
    | 5 => eventClearEffect req a b s
    | 6 => eventSetEffect req a b s
    | 7 => storeStatusEffect req a b s
    | 8 => storeClearStatusEffect req a b s
    | 9 => storeReadEffect req a b c s
    | 10 => stagingWriteEffect req a b data s
    | 11 => stagingReadEffect req a b c s
    | 12 => eraseSetupEffect req a b s
    | 13 => programSetupEffect req a b s
    | 14 => storeConfirmEffect req a b s
    | _ => unknownOperationEffect req [op, a, b, c] s
  | head => unknownOperationEffect req head s

/-! ## Classification (R107) -/

/-- How a destination stands to a node (R107). -/
inductive Destination where
  | own | shared | elsewhere
  deriving DecidableEq, Repr

/-- A frame's destination under the node's address and group memberships (R107). -/
def State.classify (s : State) (destination : Byte) : Destination :=
  if s.address = some destination then .own
  else if destination = 255 then .shared
  else if 251 ≤ destination.toNat ∧ s.address.isSome ∧ s.nodeTable.groups.getLsbD (destination.toNat - 251) = true then
    .shared
  else .elsewhere

/-- A frame placed toward the other port, or discarded there (R110). -/
def State.relay (p : Port) (f : Frame) (s : State) : State :=
  let r := (s.port (otherPort p)).placePass f
  let placed := s.setPort (otherPort p) r.1
  if r.2 = .lost then placed.latch .passOverflow else placed

/-- A report or notice watched: outside start-up load, and not from the node's own address (R108, R109). -/
def State.watches (s : State) (source : Byte) : Bool := s.started && decide (s.address ≠ some source)

/-- The origin cycle of a frame (R198). -/
def frameOrigin (f : Frame) : Word := wordOf (byteAt f 4) (byteAt f 5)

/-- A good frame handed on by its kind (R108). -/
def State.handOn (p : Port) (d : Destination) (f : Frame) (s : State) : State :=
  let req : Request := { port := p, source := byteAt f 2, tag := byteAt f 3, own := decide (d = .own) }
  match (byteAt f 0).toNat with
  | 1 => if s.started then s.offerMark (frameOrigin f) else s
  | 2 => if s.watches (byteAt f 2) then s.handReport (byteAt f 2) (frameOrigin f) (framePayload f) else s
  | 3 => if d = .elsewhere then s else s.handOrder req (framePayload f)
  | 5 => if d = .elsewhere then s else s.handAccess req (framePayload f)
  | 7 => if s.watches (byteAt f 2) then s.handNotice (byteAt f 2) (framePayload f) else s
  | _ => s

/-- Whether a good frame is relayed: every mark, and every frame not addressed to the node (R107). -/
def relayed (d : Destination) (f : Frame) : Bool := isMark f || decide (d ≠ .own)

/-- A good frame (R103, R107, R109, R110, R108): the port heard, a conflict latched, the frame relayed, and then
handed on (assumption 20). -/
def State.goodFrame (p : Port) (f : Frame) (s : State) : State :=
  let heard := s.setPort p (s.port p).heard
  let checked := if heard.address = some (byteAt f 2) then heard.latch .addressConflict else heard
  let d := checked.classify (byteAt f 1)
  let passed := if relayed d f then checked.relay p f else checked
  passed.handOn p d f

/-- FRAME_ARRIVAL (R105): a frame that fails a check latches FRAME_ERROR and does nothing else. -/
def frameArrivalEffect (p : Port) (bytes : List Byte) (s : State) : State :=
  if frameGood bytes then (s.goodFrame p bytes).settle else s.latch .frameError

end Sys2Proof.Machine
end

