-- ==== Sys2Proof/Machine/EventCommands.lean ====
section
/-! DEFINITION. The meanings of the event commands: each is its block's effect, with the keys it emits taken and the
driven pins following where a unit can move (`State.settle`). -/

namespace Sys2Proof.Machine

/-- POWER_ON_RESET (R197). -/
def execPowerOnReset (adr : Byte) (pins : BitVec 64) (s : State) : Host.Outcome State Fault Refusal :=
  .next (powerOnResetEffect adr pins s)

/-- IMAGE_REPLAY (R175). -/
def execImageReplay (s : State) : Host.Outcome State Fault Refusal := .next (imageReplayEffect s)

/-- UNITS_START (R197). -/
def execUnitsStart (s : State) : Host.Outcome State Fault Refusal := .next (unitsStartEffect s)

/-- FRAME_ARRIVAL (R105). -/
def execFrameArrival (port : Port) (bytes : List Byte) (s : State) : Host.Outcome State Fault Refusal :=
  .next (frameArrivalEffect port bytes s)

/-- LINK_TIMER_EXPIRY (R103). -/
def execLinkTimerExpiry (port : Port) (s : State) : Host.Outcome State Fault Refusal := .next (linkTimerExpiryEffect port s)

/-- TRANSMIT_END (R113). -/
def execTransmitEnd (port : Port) (s : State) : Host.Outcome State Fault Refusal := .next (transmitEndEffect port s)

/-- MARK_TIMER_EXPIRY (R116). -/
def execMarkTimerExpiry (s : State) : Host.Outcome State Fault Refusal := .next ((markTimerExpiryEffect s).settle)

/-- LOCAL_CYCLE_TIMER_EXPIRY (R116). -/
def execLocalCycleTimerExpiry (s : State) : Host.Outcome State Fault Refusal := .next ((localCycleTimerExpiryEffect s).settle)

/-- SAMPLE_EVENT (R14). -/
def execSampleEvent (channel : Fin 12) (raw : BitVec 12) (s : State) : Host.Outcome State Fault Refusal :=
  .next ((sampleEventEffect channel raw.toNat s).settle)

/-- WARM_UP_END (R7). -/
def execWarmUpEnd (channel : Fin 12) (s : State) : Host.Outcome State Fault Refusal := .next (warmUpEndEffect channel s)

/-- ERASE_SUSPEND (R173). -/
def execEraseSuspend (s : State) : Host.Outcome State Fault Refusal := .next (eraseSuspendEffect s)

/-- FETCH_COMPLETION (R144). -/
def execFetchCompletion (s : State) : Host.Outcome State Fault Refusal := .next ((fetchCompletionEffect s).settle)

/-- HOLD_TIMER_EXPIRY (R148). -/
def execHoldTimerExpiry (slot : Fin 4) (s : State) : Host.Outcome State Fault Refusal := .next ((holdTimerExpiryEffect slot s).settle)

/-- RAMP_TICK (R49). -/
def execRampTick (s : State) : Host.Outcome State Fault Refusal := .next ((rampTickEffect s).settle)

/-- START_TIMER_EXPIRY (R52). -/
def execStartTimerExpiry (fan : Fin 6) (s : State) : Host.Outcome State Fault Refusal := .next ((startTimerExpiryEffect fan s).settle)

/-- CONFIRM_LOSS_TIMER_EXPIRY (R55). -/
def execConfirmLossTimerExpiry (fan : Fin 6) (s : State) : Host.Outcome State Fault Refusal := .next ((lossTimerExpiryEffect fan s).settle)

/-- COAST_TIMER_EXPIRY (R57). -/
def execCoastTimerExpiry (fan : Fin 6) (s : State) : Host.Outcome State Fault Refusal := .next ((coastTimerExpiryEffect fan s).settle)

/-- TRAVEL_TIMER_EXPIRY (R91). -/
def execTravelTimerExpiry (door : Fin 6) (s : State) : Host.Outcome State Fault Refusal := .next ((travelTimerExpiryEffect door s).settle)

/-- DWELL_EXPIRY (R92). -/
def execDwellExpiry (door : Fin 6) (s : State) : Host.Outcome State Fault Refusal := .next ((dwellExpiryEffect door s).settle)

/-- PIN_CHANGE (R181). -/
def execPinChange (point : Fin 64) (high : Bool) (s : State) : Host.Outcome State Fault Refusal :=
  .next ((pinChangeEffect point high s).settle)

/-- POINT_TICK (R181). -/
def execPointTick (s : State) : Host.Outcome State Fault Refusal := .next (pointTickEffect s)

/-- FILTER_ACCEPT (R181). -/
def execFilterAccept (point : Fin 64) (s : State) : Host.Outcome State Fault Refusal := .next ((filterAcceptEffect point s).settle)

/-- SMON_CHANGE (R171). -/
def execSmonChange (withinLimit : Bool) (s : State) : Host.Outcome State Fault Refusal := .next (smonChangeEffect withinLimit s)

/-- ERASE_PULSE_END (R169). -/
def execErasePulseEnd (cells : List Byte) (s : State) : Host.Outcome State Fault Refusal := .next (erasePulseEndEffect cells s)

/-- PROGRAM_COMPLETION (R170). -/
def execProgramCompletion (s : State) : Host.Outcome State Fault Refusal := .next (programCompletionEffect s)

/-- DOOR_TICK (R86). -/
def execDoorTick (s : State) : Host.Outcome State Fault Refusal := .next (doorTickEffect s)

/-- SAMPLE_TICK (R13). -/
def execSampleTick (s : State) : Host.Outcome State Fault Refusal := .next (sampleTickEffect s)

/-- FRAME_CUT_OFF (R105): the port does not matter to what it does. -/
def execFrameCutOff (_port : Port) (s : State) : Host.Outcome State Fault Refusal := .next (frameCutOffEffect s)

end Sys2Proof.Machine
end

