-- ==== Sys2Proof/Machine/OrderCommands.lean ====
section
/-! DEFINITION. The meanings of the ORDER commands. -/

namespace Sys2Proof.Machine

/-- FAN_SET (R71). -/
def execFanSet (req : Request) (fan direction speed rate precedence : Word) (s : State) : Host.Outcome State Fault Refusal :=
  .next (fanSetEffect req fan direction speed rate precedence s)

/-- FAN_RELEASE (R72). -/
def execFanRelease (req : Request) (fan : Word) (s : State) : Host.Outcome State Fault Refusal :=
  .next (fanReleaseEffect req fan s)

/-- FAN_RESET (R58). -/
def execFanReset (req : Request) (fan : Word) (s : State) : Host.Outcome State Fault Refusal :=
  .next (fanResetEffect req fan s)

/-- DOOR_OPEN (R98). -/
def execDoorOpen (req : Request) (doors : Word) (s : State) : Host.Outcome State Fault Refusal :=
  .next (doorOpenEffect req doors s)

/-- DOOR_HOLD (R89). -/
def execDoorHold (req : Request) (doors : Word) (s : State) : Host.Outcome State Fault Refusal :=
  .next (doorHoldEffect req doors s)

/-- DOOR_FREE (R89). -/
def execDoorFree (req : Request) (doors : Word) (s : State) : Host.Outcome State Fault Refusal :=
  .next (doorFreeEffect req doors s)

/-- DOOR_CLOSE (R98). -/
def execDoorClose (req : Request) (doors : Word) (s : State) : Host.Outcome State Fault Refusal :=
  .next (doorCloseEffect req doors s)

/-- DOOR_SERVICE_OFF (R97). -/
def execDoorServiceOff (req : Request) (doors : Word) (s : State) : Host.Outcome State Fault Refusal :=
  .next (doorServiceOffEffect req doors s)

/-- DOOR_SERVICE_ON (R97). -/
def execDoorServiceOn (req : Request) (doors : Word) (s : State) : Host.Outcome State Fault Refusal :=
  .next (doorServiceOnEffect req doors s)

/-- INCIDENT_ON (R154). -/
def execIncidentOn (req : Request) (s : State) : Host.Outcome State Fault Refusal :=
  .next (incidentOnEffect req s)

/-- INCIDENT_CLEAR (R155). -/
def execIncidentClear (req : Request) (s : State) : Host.Outcome State Fault Refusal :=
  .next (incidentClearEffect req s)

/-- RESPONSE_RUN (R152). -/
def execResponseRun (req : Request) (number : Word) (s : State) : Host.Outcome State Fault Refusal :=
  .next (responseRunEffect req number s)

/-- RESPONSE_CANCEL (R152). -/
def execResponseCancel (req : Request) (number : Word) (s : State) : Host.Outcome State Fault Refusal :=
  .next (responseCancelEffect req number s)

/-- RESTART (R189). -/
def execRestart (req : Request) (s : State) : Host.Outcome State Fault Refusal :=
  .next (restartEffect req s)

/-- UNKNOWN_ORDER (R188). -/
def execUnknownOrder (req : Request) (kind : Option Word) (s : State) : Host.Outcome State Fault Refusal :=
  .next (unknownOrderEffect req kind s)

end Sys2Proof.Machine
end

