-- ==== Sys2Proof/Machine/AccessCommands.lean ====
section
/-! DEFINITION. The meanings of the TABLE ACCESS commands. -/

namespace Sys2Proof.Machine

/-- READ_ENTRIES (R191). -/
def execReadEntries (req : Request) (table first count : Word) (s : State) : Host.Outcome State Fault Refusal :=
  .next (readEntriesEffect req table first count s)

/-- WRITE_ENTRIES (R192). -/
def execWriteEntries (req : Request) (table first count : Word) (data : List Byte) (s : State) : Host.Outcome State Fault Refusal :=
  .next (writeEntriesEffect req table first count data s)

/-- POINT_VALUE_READ (R183). -/
def execPointValueRead (req : Request) (a first count : Word) (s : State) : Host.Outcome State Fault Refusal :=
  .next (pointValueReadEffect req a first count s)

/-- POINT_VALUE_WRITE (R183). -/
def execPointValueWrite (req : Request) (a first count : Word) (data : List Byte) (s : State) : Host.Outcome State Fault Refusal :=
  .next (pointValueWriteEffect req a first count data s)

/-- EVENT_CLEAR (R195). -/
def execEventClear (req : Request) (maskLow maskHigh : Word) (s : State) : Host.Outcome State Fault Refusal :=
  .next (eventClearEffect req maskLow maskHigh s)

/-- EVENT_SET (R195). -/
def execEventSet (req : Request) (maskLow maskHigh : Word) (s : State) : Host.Outcome State Fault Refusal :=
  .next (eventSetEffect req maskLow maskHigh s)

/-- STORE_STATUS (R165). -/
def execStoreStatus (req : Request) (a b : Word) (s : State) : Host.Outcome State Fault Refusal :=
  .next (storeStatusEffect req a b s)

/-- STORE_CLEAR_STATUS (R165). -/
def execStoreClearStatus (req : Request) (a b : Word) (s : State) : Host.Outcome State Fault Refusal :=
  .next (storeClearStatusEffect req a b s)

/-- STORE_READ (R165). -/
def execStoreRead (req : Request) (page offset length : Word) (s : State) : Host.Outcome State Fault Refusal :=
  .next (storeReadEffect req page offset length s)

/-- STAGING_WRITE (R164). -/
def execStagingWrite (req : Request) (a offset : Word) (data : List Byte) (s : State) : Host.Outcome State Fault Refusal :=
  .next (stagingWriteEffect req a offset data s)

/-- STAGING_READ (R164). -/
def execStagingRead (req : Request) (a offset length : Word) (s : State) : Host.Outcome State Fault Refusal :=
  .next (stagingReadEffect req a offset length s)

/-- ERASE_SETUP (R166). -/
def execEraseSetup (req : Request) (page b : Word) (s : State) : Host.Outcome State Fault Refusal :=
  .next (eraseSetupEffect req page b s)

/-- PROGRAM_SETUP (R166). -/
def execProgramSetup (req : Request) (page b : Word) (s : State) : Host.Outcome State Fault Refusal :=
  .next (programSetupEffect req page b s)

/-- STORE_CONFIRM (R167). -/
def execStoreConfirm (req : Request) (page b : Word) (s : State) : Host.Outcome State Fault Refusal :=
  .next (storeConfirmEffect req page b s)

/-- UNKNOWN_OPERATION (R190). -/
def execUnknownOperation (req : Request) (head : List Word) (s : State) : Host.Outcome State Fault Refusal :=
  .next (unknownOperationEffect req head s)

end Sys2Proof.Machine
end

