-- ==== Sys2Proof/Machine/Dispatch.lean ====
section
/-! DEFINITION. One arm per command: the direct call of its meaning. -/

namespace Sys2Proof.Machine

def exec (i : Instr) (s : State) : Host.Outcome State Fault Refusal :=
  match i with
  | .powerOnReset adr pins => Sys2Proof.Machine.execPowerOnReset adr pins s
  | .imageReplay => Sys2Proof.Machine.execImageReplay s
  | .unitsStart => Sys2Proof.Machine.execUnitsStart s
  | .frameArrival port bytes => Sys2Proof.Machine.execFrameArrival port bytes s
  | .linkTimerExpiry port => Sys2Proof.Machine.execLinkTimerExpiry port s
  | .transmitEnd port => Sys2Proof.Machine.execTransmitEnd port s
  | .markTimerExpiry => Sys2Proof.Machine.execMarkTimerExpiry s
  | .localCycleTimerExpiry => Sys2Proof.Machine.execLocalCycleTimerExpiry s
  | .sampleEvent channel raw => Sys2Proof.Machine.execSampleEvent channel raw s
  | .warmUpEnd channel => Sys2Proof.Machine.execWarmUpEnd channel s
  | .eraseSuspend => Sys2Proof.Machine.execEraseSuspend s
  | .fetchCompletion => Sys2Proof.Machine.execFetchCompletion s
  | .holdTimerExpiry slot => Sys2Proof.Machine.execHoldTimerExpiry slot s
  | .rampTick => Sys2Proof.Machine.execRampTick s
  | .startTimerExpiry fan => Sys2Proof.Machine.execStartTimerExpiry fan s
  | .confirmLossTimerExpiry fan => Sys2Proof.Machine.execConfirmLossTimerExpiry fan s
  | .coastTimerExpiry fan => Sys2Proof.Machine.execCoastTimerExpiry fan s
  | .travelTimerExpiry door => Sys2Proof.Machine.execTravelTimerExpiry door s
  | .dwellExpiry door => Sys2Proof.Machine.execDwellExpiry door s
  | .pinChange point high => Sys2Proof.Machine.execPinChange point high s
  | .pointTick => Sys2Proof.Machine.execPointTick s
  | .filterAccept point => Sys2Proof.Machine.execFilterAccept point s
  | .smonChange withinLimit => Sys2Proof.Machine.execSmonChange withinLimit s
  | .erasePulseEnd cells => Sys2Proof.Machine.execErasePulseEnd cells s
  | .programCompletion => Sys2Proof.Machine.execProgramCompletion s
  | .fanSet req fan direction speed rate precedence => Sys2Proof.Machine.execFanSet req fan direction speed rate precedence s
  | .fanRelease req fan => Sys2Proof.Machine.execFanRelease req fan s
  | .fanReset req fan => Sys2Proof.Machine.execFanReset req fan s
  | .doorOpen req doors => Sys2Proof.Machine.execDoorOpen req doors s
  | .doorHold req doors => Sys2Proof.Machine.execDoorHold req doors s
  | .doorFree req doors => Sys2Proof.Machine.execDoorFree req doors s
  | .doorClose req doors => Sys2Proof.Machine.execDoorClose req doors s
  | .doorServiceOff req doors => Sys2Proof.Machine.execDoorServiceOff req doors s
  | .doorServiceOn req doors => Sys2Proof.Machine.execDoorServiceOn req doors s
  | .incidentOn req => Sys2Proof.Machine.execIncidentOn req s
  | .incidentClear req => Sys2Proof.Machine.execIncidentClear req s
  | .responseRun req number => Sys2Proof.Machine.execResponseRun req number s
  | .responseCancel req number => Sys2Proof.Machine.execResponseCancel req number s
  | .restart req => Sys2Proof.Machine.execRestart req s
  | .unknownOrder req kind => Sys2Proof.Machine.execUnknownOrder req kind s
  | .readEntries req table first count => Sys2Proof.Machine.execReadEntries req table first count s
  | .writeEntries req table first count data => Sys2Proof.Machine.execWriteEntries req table first count data s
  | .pointValueRead req a first count => Sys2Proof.Machine.execPointValueRead req a first count s
  | .pointValueWrite req a first count data => Sys2Proof.Machine.execPointValueWrite req a first count data s
  | .eventClear req maskLow maskHigh => Sys2Proof.Machine.execEventClear req maskLow maskHigh s
  | .eventSet req maskLow maskHigh => Sys2Proof.Machine.execEventSet req maskLow maskHigh s
  | .storeStatus req a b => Sys2Proof.Machine.execStoreStatus req a b s
  | .storeClearStatus req a b => Sys2Proof.Machine.execStoreClearStatus req a b s
  | .storeRead req page offset length => Sys2Proof.Machine.execStoreRead req page offset length s
  | .stagingWrite req a offset data => Sys2Proof.Machine.execStagingWrite req a offset data s
  | .stagingRead req a offset length => Sys2Proof.Machine.execStagingRead req a offset length s
  | .eraseSetup req page b => Sys2Proof.Machine.execEraseSetup req page b s
  | .programSetup req page b => Sys2Proof.Machine.execProgramSetup req page b s
  | .storeConfirm req page b => Sys2Proof.Machine.execStoreConfirm req page b s
  | .unknownOperation req head => Sys2Proof.Machine.execUnknownOperation req head s
  | .doorTick => Sys2Proof.Machine.execDoorTick s
  | .sampleTick => Sys2Proof.Machine.execSampleTick s
  | .frameCutOff port => Sys2Proof.Machine.execFrameCutOff port s

end Sys2Proof.Machine
end

