-- ==== Sys2Proof/Machine/Step.lean ====
section
/-! DEFINITION. One step: the command at the front of the queue, or a millisecond with no command. -/

namespace Sys2Proof.Machine

/-- One step.  On an empty queue a millisecond passes: the timers that no command of the table counts fall by one
(assumption 14). -/
def step (s : State) : Host.Outcome State Fault Refusal :=
  match s.pending with
  | [] => .next s.millisecond
  | c :: rest => exec c { s with pending := rest }

/-- The state with the command a table word spells put at the front of the queue; unchanged where the word spells
none. -/
def State.withFetchWord (s : State) (nbits w : Nat) : State :=
  match decodeTableWord nbits w with
  | some c => { s with pending := c :: s.pending }
  | none => s

end Sys2Proof.Machine
end

