-- ==== Sys2Proof/Safety.lean ====
section
/-! DEFINITION. The terms in which claims speak of the machine: what a command's follow-up leaves as it was, and the
invariants of the part. -/

namespace Sys2Proof.Machine

/-- A point whose pin is driven to a level (R181, R182): where the pin stands at another, it takes the level with its
hold count at 0, and the filtered level at once at filter time 0. -/
def Point.led (filterTime : Nat) (high : Bool) (x : Point) : Point :=
  if x.pin = high then x
  else { x with pin := high, filtered := if filterTime = 0 then high else x.filtered, hold := 0 }

/-- u with its driven pins at the levels u drives them to (R182): a released point and every latch as in u. -/
def State.followed (u : State) : State :=
  { u with
    points := tabulate fun n =>
      match u.driveLevel n with
      | none => u.point n
      | some high => (u.point n).led (u.pointEntry n).filterTime high }

/-- The three byte memories of the store in canonical form: addresses rising, no FFh listed. -/
def State.memoriesCanonical (s : State) : Prop :=
  Mem.wf s.store.cells = true ∧ Mem.wf s.store.staging = true ∧ Mem.wf s.store.programData = true

/-- A port's queues within their bounds (R110, R111, R113). -/
def PortState.bounded (p : PortState) : Prop :=
  p.pass.length ≤ 4 ∧ p.insertQueue.length ≤ 8 ∧ (p.insertQueue.filter isReport).length ≤ 1 ∧ p.starvation ≤ 4

/-- Both ports' queues within their bounds. -/
def State.queuesBounded (s : State) : Prop := s.portA.bounded ∧ s.portB.bounded

/-- A drive whose ramp value is 0 outside RUNNING and STOPPING (R51, R52, R57 to R60). -/
def Fan.rampAtRest (x : Fan) : Prop := x.mode = .running ∨ x.mode = .stopping ∨ x.ramp = 0

/-- Every drive's ramp value 0 outside RUNNING and STOPPING. -/
def State.rampsAtRest (s : State) : Prop := ∀ f : Fin 6, (s.fan f).rampAtRest

/-- Every driven pin at the level its owner drives it to (R182). -/
def State.pinsDriven (s : State) : Prop :=
  ∀ n : Fin 64, ∀ high : Bool, s.driveLevel n = some high → (s.point n).pin = high

/-- A machine between commands: no key waits and every driven pin stands at its level. -/
def State.atRest (s : State) : Prop := s.keys = [] ∧ s.pinsDriven

/-- The store's items agree with its state (R163, R165): a setup page exactly in the setup states, an operation page in
ERASING and PROGRAMMING and in no state that is not busy, and a pulse count of 0 without an erase, of at most 7 in one. -/
def StoreState.coherent (x : StoreState) : Prop :=
  (x.setupPage.isSome = x.mode.setup) ∧ (x.operationPage.isSome = true → x.mode.busy = true) ∧
    (x.mode = .erasing ∨ x.mode = .programming → x.operationPage.isSome = true) ∧
    (x.operationPage = none ∨ x.mode = .programming → x.pulses = 0) ∧ x.pulses ≤ 7

/-- The response numbers in the dispatch queue, in fetch and in the Active Table. -/
def EngineState.numbers (e : EngineState) : List (Fin 128) :=
  e.queue.map Queued.number ++ (e.fetch.map Fetch.number).toList ++
    e.active.toList.filterMap fun a => a.map ActiveResponse.number

/-- The dispatch queue holds at most four entries in falling precedence, and no number stands twice among the queue,
the fetch and the Active Table (R142). -/
def EngineState.orderly (e : EngineState) : Prop :=
  e.queue.length ≤ 4 ∧ e.queue.Pairwise (fun a b => b.precedence ≤ a.precedence) ∧ e.numbers.Nodup

/-- Response slot k of a fan and response hold slot k of a door are present only while slot k of the Active Table holds a
response (R66, R87, R147, R151). -/
def State.demandsActive (s : State) : Prop :=
  ∀ k : Fin 4, s.engine.active[k] = none →
    ∀ u : Fin 6, (s.fans[u]).responseSlots[k] = none ∧ (s.doors[u]).responseHolds[k] = false

/-- A value within a range, both ends in it. -/
def within (low high v : Int) : Prop := low ≤ v ∧ v ≤ high

/-- A value of a field word. -/
def fitsWord (v : Int) : Prop := within (-32768) 32767 v

/-- A Node Table entry within its ranges (R193). -/
def NodeEntry.inRange (e : NodeEntry) : Prop :=
  within 1 10 e.reportInterval ∧ within 3 20 e.markTimeout ∧ e.staleLimit ≤ 5 ∧ within 1 15 e.pressurisationPrecedence

/-- A Channel Table entry within its ranges, its limits and its thresholds rising (R2, R3). -/
def ChannelEntry.inRange (e : ChannelEntry) : Prop :=
  within 1 100 e.divider ∧ e.lowLimit < e.highLimit ∧ e.highLimit ≤ 4095 ∧ fitsWord e.fallback ∧ e.smoothing ≤ 7 ∧
    within 1 255 e.window ∧ e.warmUp ≤ 600 ∧ fitsWord e.t1 ∧ e.t1 < e.t2 ∧ e.t2 < e.t3 ∧ fitsWord e.t3 ∧
    e.hysteresis ≤ 32767 ∧ within 1 15 e.persistence ∧ within 1 15 e.failLimit ∧ e.failLevel ≤ 3

/-- A Calibration Table entry within its ranges, the raws of the breakpoints that count rising (R4). -/
def CalibrationEntry.inRange (e : CalibrationEntry) : Prop :=
  within 2 8 e.count ∧ e.increasing = true ∧ ∀ i : Fin 8, (e.points[i]).raw ≤ 4095 ∧ fitsWord (e.points[i]).value

/-- A Fan Table entry within its ranges (R42). -/
def FanEntry.inRange (e : FanEntry) : Prop :=
  within 1 500 e.defaultRate ∧ within 5 600 e.coastTime ∧ within 1 30 e.startTimeout ∧ within 1 100 e.lossTolerance ∧
    e.minimumSpeed ≤ 500 ∧ e.standbySpeed ≤ 1000

/-- A Door Table entry within its ranges (R81). -/
def DoorEntry.inRange (e : DoorEntry) : Prop :=
  within 2 30 e.travelLimit ∧ within 5 600 e.dwell ∧ e.boost ≤ 1000

/-- A Watch Table entry within its ranges (R120, R121); a notice entry is never latched (R128). -/
def WatchEntry.inRange (e : WatchEntry) : Prop :=
  (within 1 250 e.source.toNat ∨ e.source = 255) ∧ (e.kind = .notice ↔ e.test = .noticeCode) ∧
    e.test.indexOk e.testIndex = true ∧ fitsWord e.testIndex ∧ fitsWord e.operand ∧ (e.kind = .notice → e.latch = none)

/-- A Neighbour Table record within its ranges: its count at the silence limit exactly where it is SILENT (R129, R130),
and an unused record UNKNOWN at 0. -/
def NeighbourRecord.inRange (e : NeighbourRecord) : Prop :=
  e.address.toNat ≤ 250 ∧ within 2 50 e.silenceLimit ∧ e.silenceCount ≤ e.silenceLimit ∧
    (e.state = .silent ↔ e.silenceCount = e.silenceLimit) ∧
    (e.address = 0 → e.state = .unknown ∧ e.silenceCount = 0)

/-- A Trigger Table entry within its ranges (R135, R136). -/
def TriggerEntry.inRange (e : TriggerEntry) : Prop :=
  e.levelOperand ≤ 3 ∧ selectorOk e.kind e.selector e.selectorValue = true ∧ fitsWord e.selectorValue

/-- A Point Table entry within its ranges (R178, R179). -/
def PointEntry.inRange (e : PointEntry) : Prop :=
  e.filterTime ≤ 255 ∧ (e.function.indexed = true → within 0 5 e.functionIndex) ∧ fitsWord e.functionIndex

/-- No two points hold one signal (R178) and no two neighbour records one address (R129). -/
def State.claimsDistinct (s : State) : Prop :=
  (∀ i j : Fin 64, (s.pointTable[i]).signal.isSome = true → (s.pointTable[i]).signal = (s.pointTable[j]).signal → i = j) ∧
    ∀ i j : Fin 16,
      (s.neighbourTable[i]).address ≠ 0 → (s.neighbourTable[i]).address = (s.neighbourTable[j]).address → i = j

/-- Every entry of the nine writable tables within its ranges, no signal or address held twice, and every channel's level
at most 3 (R30). -/
def State.tablesInRange (s : State) : Prop :=
  s.nodeTable.inRange ∧
    (∀ n : Fin 12, (s.channelTable[n]).inRange ∧ (s.calibrationTable[n]).inRange ∧ (s.channels[n]).level ≤ 3) ∧
    (∀ f : Fin 6, (s.fanTable[f]).inRange ∧ (s.doorTable[f]).inRange) ∧ (∀ i : Fin 32, (s.watchTable[i]).inRange) ∧
    (∀ i : Fin 16, (s.neighbourTable[i]).inRange) ∧
    (∀ i : Fin 64, (s.triggerTable[i]).inRange ∧ (s.pointTable[i]).inRange) ∧ s.claimsDistinct

/-- Every fan's ramp value at most 100000 (R41), its minimum run speed at most 500 (R42), and its target speed (R68) and
demand speeds (R66) at most 1000 per mille. -/
def State.speedsInRange (s : State) : Prop :=
  ∀ f : Fin 6,
    (s.fans[f]).ramp ≤ 100000 ∧ (s.fans[f]).target.speed ≤ 1000 ∧ (s.fanTable[f]).minimumSpeed ≤ 500 ∧
      ∀ p ∈ (s.fans[f]).demands, p.2.speed ≤ 1000

/-! ## Table entries -/

/-- The table an entry belongs to. -/
def TableEntry.table : TableEntry → TableId
  | .node _ => .node | .channel _ => .channel | .calibration _ => .calibration | .fan _ => .fan | .door _ => .door
  | .watch _ => .watch | .neighbour _ => .neighbour | .trigger _ => .trigger | .point _ => .point

/-- An entry's field words as READ ENTRIES returns them. -/
def TableEntry.words (e : TableEntry) : List Word :=
  (match e with
    | .node e => e.words | .channel e => e.words | .calibration e => e.words | .fan e => e.words | .door e => e.words
    | .watch e => e.words | .neighbour e => e.words | .trigger e => e.words | .point e => e.words).map
    (BitVec.ofInt 16)

/-- An entry as a request can hold it: within its ranges, a watch entry CLEAR, a neighbour record UNKNOWN at 0. -/
def TableEntry.offerable : TableEntry → Prop
  | .node e => e.inRange | .channel e => e.inRange | .calibration e => e.inRange | .fan e => e.inRange
  | .door e => e.inRange
  | .watch e => e.inRange ∧ e.latch = none
  | .neighbour e => e.inRange ∧ e.state = .unknown ∧ e.silenceCount = 0
  | .trigger e => e.inRange
  | .point e => e.inRange

/-- The entries of a request for a run of entries from `first` on. -/
def runFrom (first : Nat) (es : List TableEntry) : Batch := es.zipIdx.map fun p => (first + p.2, p.1)

/-- The table that a run of entries written from `first` on leaves of an old one. -/
def overlaid {α : Type} {n : Nat} (old : Vector α n) (first : Nat) (es : List α) : Vector α n :=
  tabulate fun i => if first ≤ i.val then es.getD (i.val - first) old[i] else old[i]

/-- Whether a signal belongs to a present fan or door whose state keeps its points as they are (R44, R83). -/
def State.signalKept (s : State) : Signal → Prop
  | .fanRun f | .fanReverse f | .fanConfirm f | .fanIsolator f =>
    (s.fanTable[f]).present = true ∧ (s.fans[f]).mode ≠ .disabled ∧ (s.fans[f]).mode ≠ .stopped ∧
      (s.fans[f]).mode ≠ .isolated
  | .doorClosed d | .doorOpen d | .doorButton d | .doorDriveOpen d | .doorDriveClose d =>
    (s.doorTable[d]).present = true ∧ (s.doors[d]).mode ≠ .closed ∧ (s.doors[d]).mode ≠ .outOfService
  | .maintKey | .commissionKey => False

/-- Whether a signal is a contact that no point holds, of a door in CONTACT_FAULT (R83, R179). -/
def State.contactWanted (s : State) (sig : Signal) : Prop :=
  ∃ d : Fin 6, (sig = .doorClosed d ∨ sig = .doorOpen d) ∧ (s.doors[d]).mode = .contactFault ∧ s.assigned sig = false

/-- Whether an offered entry fails its table's in-use check (R10, R11, R12, R44, R83, R179). -/
def State.refusesInUse (s : State) (i : Nat) : TableEntry → Prop
  | .channel e =>
    ∃ n : Fin 12, n.val = i ∧
      ((e ≠ { s.channelTable[n] with enabled := e.enabled } ∧ (s.channels[n]).mode ≠ .off) ∨
        (s.engine.mode = .incident ∧ (s.channelTable[n]).enabled = true ∧ e.enabled = false))
  | .calibration e => ∃ n : Fin 12, n.val = i ∧ e ≠ s.calibrationTable[n] ∧ (s.channels[n]).mode ≠ .off
  | .fan e =>
    ∃ f : Fin 6, f.val = i ∧ e ≠ s.fanTable[f] ∧ (s.fans[f]).mode ≠ .disabled ∧ (s.fans[f]).mode ≠ .stopped ∧
      (s.fans[f]).mode ≠ .isolated
  | .door e =>
    ∃ d : Fin 6, d.val = i ∧ e ≠ s.doorTable[d] ∧ (s.doors[d]).mode ≠ .disabled ∧ (s.doors[d]).mode ≠ .closed ∧
      (s.doors[d]).mode ≠ .outOfService
  | .point e =>
    ∃ n : Fin 64, n.val = i ∧
      (e.function ≠ (s.pointTable[n]).function ∨ e.functionIndex ≠ (s.pointTable[n]).functionIndex) ∧
        ((∃ sig, (s.pointTable[n]).signal = some sig ∧ s.signalKept sig) ∨
          ∃ sig, e.signal = some sig ∧ s.signalKept sig ∧ ¬s.contactWanted sig)
  | .node _ | .watch _ | .neighbour _ | .trigger _ => False

/-- Whether entry k of a request has a structural fault (R192): it does not parse after the clamps, or a signal or a
neighbour's address it holds would stand in another entry too, once the whole request were written (R129, R179). -/
def State.offersFault (s : State) (t : TableId) (first count : Nat) (ws : List Word) (k : Nat) : Prop :=
  t.parse (clampedValues t ws k) = none ∨
    (t = .point ∧ ∃ (sig : Signal) (i : Fin 64), i.val ≠ first + k ∧
      (PointEntry.parse (clampedValues t ws k)).bind PointEntry.signal = some sig ∧
        (if first ≤ i.val ∧ i.val < first + count then
          (PointEntry.parse ((clampedValues t ws (i.val - first)).set 2 0)).bind PointEntry.signal
        else (s.pointTable[i]).signal) = some sig) ∨
    (t = .neighbour ∧ ∃ (a : Byte) (i : Fin 16), i.val ≠ first + k ∧ a ≠ 0 ∧
      (NeighbourRecord.parse (clampedValues t ws k)).map NeighbourRecord.address = some a ∧
        (if first ≤ i.val ∧ i.val < first + count then
          (NeighbourRecord.parse (clampedValues t ws (i.val - first))).map NeighbourRecord.address
        else some (s.neighbourTable[i]).address) = some a)

/-- The requests of a run of keys made in order (R134, R137). -/
def State.takes (s : State) (keys : List Key) : State := keys.foldl State.takeKey s

/-- No enabled Trigger Table entry names one of the key kinds, so that no key of these kinds makes a request (R137). -/
def State.noTriggerOn (s : State) (kinds : List KeyKind) : Prop :=
  ∀ i : Fin 64, (s.triggerTable[i]).enabled = true → (s.triggerTable[i]).kind ∉ kinds

/-- A good frame heard at a port, held against the node's own address and relayed (R103, R107, R109, R110): the port is UP
with its link timer at 250 ms; a source of the node's own address latches ADDRESS_CONFLICT; and a frame that is not
addressed to the node goes toward the other port where that port is UP, a mark in any case, or is lost with PASS_OVERFLOW
where four frames wait there. -/
def State.carried (p : Port) (f : Frame) (s : State) : State :=
  let heard := s.setPort p { s.port p with up := true, linkTimer := 250 }
  let checked := if s.address = some (f.getD 2 0xFF) then heard.latch .addressConflict else heard
  let q := checked.port (otherPort p)
  if f.head? ≠ some 1 ∧ (s.address = some (f.getD 1 0xFF) ∨ q.up = false) then checked
  else if 4 ≤ q.pass.length then checked.latch .passOverflow
  else checked.setPort (otherPort p) (PortState.kick { q with pass := q.pass ++ [f] })

/-- Whether a request with a destination is for the node (R107): its own address, everyone, or a group that the node
belongs to, which no unaddressed node does. -/
def State.isFor (s : State) (destination : Byte) : Prop :=
  s.address = some destination ∨ destination = 255 ∨
    (s.address.isSome = true ∧
      ∃ g : Fin 4, destination.toNat = 251 + g.val ∧ s.nodeTable.groups.getLsbD g.val = true)

/-- A command that is an ORDER, with its request and order kind (R199). -/
def orderOf : Instr → Option (Request × Word)
  | .fanSet req _ _ _ _ _ => some (req, 1)
  | .fanRelease req _ => some (req, 2)
  | .fanReset req _ => some (req, 3)
  | .doorOpen req _ => some (req, 4)
  | .doorHold req _ => some (req, 5)
  | .doorFree req _ => some (req, 6)
  | .doorClose req _ => some (req, 7)
  | .doorServiceOff req _ => some (req, 8)
  | .doorServiceOn req _ => some (req, 9)
  | .incidentOn req => some (req, 10)
  | .incidentClear req => some (req, 11)
  | .responseRun req _ => some (req, 12)
  | .responseCancel req _ => some (req, 13)
  | .restart req => some (req, 14)
  | .unknownOrder req (some kind) => some (req, kind)
  | _ => none

/-- A command that is a TABLE ACCESS, with its request, operation and parameters A and B (R199). -/
def accessOf : Instr → Option (Request × Word × Word × Word)
  | .readEntries req table first _ => some (req, 1, table, first)
  | .writeEntries req table first _ _ => some (req, 2, table, first)
  | .pointValueRead req a first _ => some (req, 3, a, first)
  | .pointValueWrite req a first _ _ => some (req, 4, a, first)
  | .eventClear req low high => some (req, 5, low, high)
  | .eventSet req low high => some (req, 6, low, high)
  | .storeStatus req a b => some (req, 7, a, b)
  | .storeClearStatus req a b => some (req, 8, a, b)
  | .storeRead req page offset _ => some (req, 9, page, offset)
  | .stagingWrite req a offset _ => some (req, 10, a, offset)
  | .stagingRead req a offset _ => some (req, 11, a, offset)
  | .eraseSetup req page b => some (req, 12, page, b)
  | .programSetup req page b => some (req, 13, page, b)
  | .storeConfirm req page b => some (req, 14, page, b)
  | .unknownOperation req (op :: a :: b :: _) => some (req, op, a, b)
  | _ => none

/-- The ORDER command that a payload's words carry (R188, R199). -/
def orderCommand (req : Request) : List Word → Instr
  | [] => .unknownOrder req none
  | kind :: values =>
    if kind = 1 then
      match values with
      | fan :: direction :: speed :: rate :: precedence :: _ => .fanSet req fan direction speed rate precedence
      | _ => .unknownOrder req (some kind)
    else if kind = 10 then .incidentOn req
    else if kind = 11 then .incidentClear req
    else if kind = 14 then .restart req
    else
      match values with
      | [] => .unknownOrder req (some kind)
      | v :: _ =>
        if kind = 2 then .fanRelease req v
        else if kind = 3 then .fanReset req v
        else if kind = 4 then .doorOpen req v
        else if kind = 5 then .doorHold req v
        else if kind = 6 then .doorFree req v
        else if kind = 7 then .doorClose req v
        else if kind = 8 then .doorServiceOff req v
        else if kind = 9 then .doorServiceOn req v
        else if kind = 12 then .responseRun req v
        else if kind = 13 then .responseCancel req v
        else .unknownOrder req (some kind)

/-- The TABLE ACCESS command that a payload carries, its four head words and the data after them (R190, R199). -/
def accessCommand (req : Request) (head : List Word) (data : List Byte) : Instr :=
  match head with
  | [op, a, b, c] =>
    if op = 1 then .readEntries req a b c
    else if op = 2 then .writeEntries req a b c data
    else if op = 3 then .pointValueRead req a b c
    else if op = 4 then .pointValueWrite req a b c data
    else if op = 5 then .eventClear req a b
    else if op = 6 then .eventSet req a b
    else if op = 7 then .storeStatus req a b
    else if op = 8 then .storeClearStatus req a b
    else if op = 9 then .storeRead req a b c
    else if op = 10 then .stagingWrite req a b data
    else if op = 11 then .stagingRead req a b c
    else if op = 12 then .eraseSetup req a b
    else if op = 13 then .programSetup req a b
    else if op = 14 then .storeConfirm req a b
    else .unknownOperation req head
  | _ => .unknownOperation req head

/-- A door after an open request, and whether it enters OPEN with DOOR_OPENED (R87, R90 to R97), under its entry and
what its contacts show. -/
def Door.asked (e : DoorEntry) (shows : Contacts) (x : Door) : Door × Bool :=
  match x.mode with
  | .closed | .closing | .jammed =>
    if shows = .opened then ({ x with mode := .opened, travelTimer := 0, dwellTimer := e.dwell * 100 }, true)
    else ({ x with mode := .opening, travelTimer := e.travelLimit * 100, dwellTimer := 0 }, false)
  | .opened => ({ x with dwellTimer := e.dwell * 100 }, false)
  | .opening | .contactFault | .outOfService | .disabled => (x, false)

/-- A door whose state is derived from its contacts in service (R95, R96): the door, the key kinds it emits in order,
and the event it latches.  A held door that derives CLOSED opens at once (R90). -/
def Door.derived (e : DoorEntry) (assigned : Bool) (shows : Contacts) (x : Door) : Door × List KeyKind × Option EventKind :=
  if assigned = false ∨ shows = .conflict then
    ({ x with mode := .contactFault, travelTimer := 0, dwellTimer := 0 }, [.doorContactFault], some .doorContactFault)
  else if shows = .closed then
    if x.lineHold = true ∨ ∃ k : Fin 4, x.responseHolds[k] = true then
      ({ x with mode := .opening, travelTimer := e.travelLimit * 100, dwellTimer := 0 }, [.doorShut], none)
    else ({ x with mode := .closed, travelTimer := 0, dwellTimer := 0 }, [.doorShut], none)
  else if shows = .opened then
    ({ x with mode := .opened, travelTimer := 0, dwellTimer := e.dwell * 100 }, [.doorOpened], none)
  else ({ x with mode := .jammed, travelTimer := 0, dwellTimer := 0 }, [.doorJammed], some .doorJammed)

/-- The level a door's two contacts show now (R84). -/
def State.shows (s : State) (d : Fin 6) : Contacts :=
  if s.signalActive (.doorClosed d) = true then
    if s.signalActive (.doorOpen d) = true then .conflict else .closed
  else if s.signalActive (.doorOpen d) = true then .opened
  else .neither

/-- A door driven to OPENING, or to OPEN at once where its contacts show open (R90, R91), with the keys it emits. -/
def Door.driven (e : DoorEntry) (shows : Contacts) (x : Door) : Door × List KeyKind :=
  if shows = .opened then ({ x with mode := .opened, travelTimer := 0, dwellTimer := e.dwell * 100 }, [.doorOpened])
  else ({ x with mode := .opening, travelTimer := e.travelLimit * 100, dwellTimer := 0 }, [])

/-- A door that takes a change of its closed contact, or of its open contact, to a level (R84, R90 to R97), under what its
contacts show after it: the door, the key kinds it emits in order, and the event it latches.  A door in CONTACT_FAULT
takes a conflict without a key and an event (assumption 51). -/
def Door.contacted (e : DoorEntry) (assigned : Bool) (shows : Contacts) (closedContact active : Bool) (x : Door) :
    Door × List KeyKind × Option EventKind :=
  match x.mode with
  | .disabled | .outOfService => (x, [], none)
  | .contactFault => if assigned = true ∧ shows ≠ .conflict then Door.derived e assigned shows x else (x, [], none)
  | .closed =>
    if shows = .conflict then Door.derived e assigned shows x
    else if closedContact = true ∧ active = false then
      ((Door.driven e shows x).1, .doorForced :: (Door.driven e shows x).2, some .doorForced)
    else (x, [], none)
  | .opening =>
    if shows = .conflict then Door.derived e assigned shows x
    else if closedContact = false ∧ active = true then Door.derived e true .opened x
    else (x, [], none)
  | .opened | .closing =>
    if shows = .conflict then Door.derived e assigned shows x
    else if closedContact = true ∧ active = true then Door.derived e true .closed x
    else (x, [], none)
  | .jammed =>
    if shows = .conflict then Door.derived e assigned shows x
    else if closedContact = true ∧ active = true then Door.derived e true .closed x
    else if closedContact = false ∧ active = true then Door.derived e true .opened x
    else (x, [], none)

/-- A door whose response hold slot k is made absent: the last one withdrawn in OPEN restarts the dwell (R88, R92). -/
def Door.released (e : DoorEntry) (k : Fin 4) (x : Door) : Door :=
  if x.responseHolds[k] = false then x
  else
    { x with
      responseHolds := x.responseHolds.set k false
      dwellTimer :=
        if x.mode = .opened ∧ x.lineHold = false ∧ ∀ j : Fin 4, j ≠ k → x.responseHolds[j] = false then e.dwell * 100
        else x.dwellTimer }

/-- A door's state derived from its contacts without keys and events (R95, R99, R102). -/
def Door.settled (e : DoorEntry) (assigned : Bool) (shows : Contacts) (x : Door) : Door :=
  if assigned = false ∨ shows = .conflict then { x with mode := .contactFault, travelTimer := 0, dwellTimer := 0 }
  else
    match shows with
    | .closed => { x with mode := .closed, travelTimer := 0, dwellTimer := 0 }
    | .opened => { x with mode := .opened, travelTimer := 0, dwellTimer := e.dwell * 100 }
    | _ => { x with mode := .jammed, travelTimer := 0, dwellTimer := 0 }

/-- A door with a hold slot present (R80). -/
def Door.isHeld (x : Door) : Prop := x.lineHold = true ∨ ∃ k : Fin 4, x.responseHolds[k] = true

/-- The present doors of a door set, in door order (R98). -/
def State.doorsOf (s : State) (doors : Word) : List (Fin 6) :=
  (List.finRange 6).filter fun d => doors.getLsbD d.val && (s.doorTable[d]).present

/-- The drive a fan's isolation, coasting or fault leaves: run output off, ramp value 0, no timer but a coast timer. -/
def Fan.off (mode : DriveMode) (coast : Nat) (x : Fan) : Fan :=
  { x with mode := mode, ramp := 0, startTimer := 0, coastTimer := coast, lossTimer := none }

/-- A safe outcome: the machine goes on. -/
def safe (o : Host.Outcome State Fault Refusal) : Prop := ∃ t, o = .next t

end Sys2Proof.Machine
end

