-- ==== Sys2Proof/Certificates/Slice0/Obligations.lean ====
section
/-! DEFINITION. The statements for the provers. -/

open Sys2Proof Sys2Proof.Machine

/-! ## The machine as a whole -/

/-- A step takes the command at the front of the queue and runs it on the state with the queue's rest. -/
def Obligations.StepRunsTheFrontCommand : Prop :=
  ∀ (c : Instr) (s : State), step { s with pending := c :: s.pending } = exec c s

/-- On an empty queue a step lets a millisecond pass: the link, mark, local cycle and hold timers fall by one, a timer at
0 stays at 0, and nothing else changes (the model's choice, assumption 14). -/
def Obligations.EmptyQueueLetsAMillisecondPass : Prop :=
  ∀ s : State, s.pending = [] →
    ∃ t, step s = .next t ∧
      t =
        { s with
          portA := { s.portA with linkTimer := s.portA.linkTimer - 1 }
          portB := { s.portB with linkTimer := s.portB.linkTimer - 1 }
          cycle := { s.cycle with markTimer := s.cycle.markTimer - 1, localTimer := s.cycle.localTimer.map (· - 1) }
          engine := { s.engine with active := t.engine.active } } ∧
      ∀ k : Fin 4, t.engine.active[k] = (s.engine.active[k]).map fun r => { r with hold := r.hold.map (· - 1) }

/-- The state after reset meets every invariant stated below, and its queue is empty. -/
def Obligations.ResetMeetsTheInvariants : Prop :=
  State.reset.memoriesCanonical ∧ State.reset.queuesBounded ∧ State.reset.rampsAtRest ∧ State.reset.atRest ∧
    State.reset.store.coherent ∧ State.reset.tablesInRange ∧ State.reset.speedsInRange ∧ State.reset.engine.orderly ∧
    State.reset.demandsActive ∧ State.reset.pending = []

/-- Every step keeps the store cells, the staging buffer and the program data in canonical form (addresses rising, no byte
listed that reads as FFh anyway), and the store's setup page, operation page and pulse count in agreement with the store
state (R163). -/
def Obligations.StepKeepsTheStoreCanonicalAndCoherent : Prop :=
  (∀ s t : State, s.memoriesCanonical → step s = .next t → t.memoriesCanonical) ∧
    ∀ s t : State, s.store.coherent → step s = .next t → t.store.coherent

/-- Every step keeps each port's pass buffer at 4 frames or fewer, its insert queue at 8 or fewer with at most one NICHE
REPORT among them, and its starvation count at 4 or less (R110, R111, R113); and it keeps the ramp value of a drive 0 in
every state but RUNNING and STOPPING (R41). -/
def Obligations.StepKeepsQueuesBoundedAndRampsAtRest : Prop :=
  (∀ s t : State, s.queuesBounded → step s = .next t → t.queuesBounded) ∧
    (∀ s t : State, s.rampsAtRest → step s = .next t → t.rampsAtRest)

/-- Every step leaves no key waiting and every driven pin at the level its owner drives it to (R134, R182). -/
def Obligations.StepKeepsTheMachineAtRest : Prop :=
  ∀ s t : State, s.atRest → step s = .next t → t.atRest

/-- Every step keeps each entry of the nine writable tables within its ranges, with no signal held by two points and no
address in two neighbour records, and each channel's level at 3 or less (R2 to R4, R30, R42, R43, R81, R82, R120, R121,
R128 to R130, R135, R136, R178, R179, R193); and it keeps each fan's ramp value within 100000, its minimum run speed
within 500, and its target and demand speeds within 1000 per mille (R41, R42, R53, R66, R68).
That a watch source below 0 is refused is the model's reading (assumption 52). -/
def Obligations.StepKeepsTablesAndSpeedsInRange : Prop :=
  (∀ s t : State, s.tablesInRange → step s = .next t → t.tablesInRange) ∧
    ∀ s t : State, s.speedsInRange → step s = .next t → t.speedsInRange

/-- Every step keeps the dispatch queue at four entries or fewer, in falling precedence, and no response number twice
among the queue, the fetch and the Active Table (R142, R146); and it keeps the response slots of the fans and doors absent
where the Active Table's slot is free (R147, R151). -/
def Obligations.StepKeepsTheEngineOrderlyAndItsDemands : Prop :=
  (∀ s t : State, s.engine.orderly → step s = .next t → t.engine.orderly) ∧
    ∀ s t : State, s.demandsActive → step s = .next t → t.demandsActive

/-- A step changes a fan's direction output only while its drive is in STOPPED, where the run output is off, or at the
coast timer expiry that takes it through STOPPED; or at a power-on reset, which sets it to FWD with the run output off
(R47). -/
def Obligations.DirectionChangesOnlyInStoppedOrAtReset : Prop :=
  ∀ (s t : State) (f : Fin 6), step s = .next t → (t.fan f).direction ≠ (s.fan f).direction →
    (s.fan f).mode = .stopped ∨
      ((s.fan f).mode = .coasting ∧ s.pending.head? = some (.coastTimerExpiry f)) ∨
      ((∃ adr pins, s.pending.head? = some (.powerOnReset adr pins)) ∧ (t.fan f).direction = .fwd ∧
        (t.fan f).runOutput = false)

/-- Once the units have started, a step leaves INCIDENT only at a power-on reset or an INCIDENT CLEAR order, given as a
command or carried by an arriving ORDER frame (R154). -/
def Obligations.IncidentIsLeftOnlyByClearOrReset : Prop :=
  ∀ s t : State, s.load = .running → s.engine.mode = .incident → step s = .next t → t.engine.mode ≠ .incident →
    (∃ adr pins, s.pending.head? = some (.powerOnReset adr pins)) ∨
      (∃ req, s.pending.head? = some (.incidentClear req)) ∨
      (∃ p bytes, s.pending.head? = some (.frameArrival p bytes) ∧ frameGood bytes = true ∧ byteAt bytes 0 = 3 ∧
        (wordsOf (framePayload bytes)).head? = some 11)

/-- A step changes the bytes of a store page only while that page is the operation page, and a page becomes the operation
page only when the setup named it and, for a page of 0 to 7, the commissioning key was active (R168). -/
def Obligations.PagesChangeOnlyInConfirmedOperations : Prop :=
  ∀ (s t : State) (p : Fin 48), step s = .next t →
    (t.store.page p ≠ s.store.page p → s.store.operationPage = some p) ∧
      (t.store.operationPage = some p → s.store.operationPage ≠ some p →
        s.store.setupPage = some p ∧ (p.val < 8 → s.signalActive .commissionKey = true))

/-! ## Sensor conditioning and levels -/

/-- Which case of R17 a valid raw value takes: flat outside the first and last breakpoints, and otherwise exactly one
segment, where a breakpoint's own raw value yields its value exactly.

Interpolation in a segment (R18): the phase in 4096ths, the rounded product, and their ranges; the result lies
between the two breakpoints' values whichever way the segment runs. -/
def Obligations.CalibrationFollowsItsBreakpoints : Prop :=
  (∀ (e : CalibrationEntry) (x : Nat) (_ : 2 ≤ e.count) (hc : e.count ≤ 8), e.increasing = true →
      (e.points[0]).raw < (e.points[e.count - 1]'(by omega)).raw ∧
        (x ≤ (e.points[0]).raw → e.calibrate x = (e.points[0]).value) ∧
        ((e.points[e.count - 1]'(by omega)).raw ≤ x → e.calibrate x = (e.points[e.count - 1]'(by omega)).value) ∧
        ((e.points[0]).raw < x → x < (e.points[e.count - 1]'(by omega)).raw →
          ∃ (i : Nat) (h : i + 1 < e.count),
            ((e.points[i]'(by omega)).raw ≤ x ∧ x < (e.points[i + 1]'(by omega)).raw) ∧
              e.calibrate x = interpolate (e.points[i]'(by omega)) (e.points[i + 1]'(by omega)) x ∧
              (x = (e.points[i]'(by omega)).raw → e.calibrate x = (e.points[i]'(by omega)).value) ∧
              ∀ (j : Nat) (h' : j + 1 < e.count),
                (e.points[j]'(by omega)).raw ≤ x → x < (e.points[j + 1]'(by omega)).raw → j = i)) ∧
  ∀ (p q : Breakpoint) (x : Nat),
    p.raw ≤ x → x < q.raw → -32768 ≤ p.value → p.value ≤ 32767 → -32768 ≤ q.value → q.value ≤ 32767 →
      ∃ phase d : Int,
        phase = ((x : Int) - p.raw) * 4096 / ((q.raw : Int) - p.raw) ∧ 0 ≤ phase ∧ phase ≤ 4095 ∧
          d = q.value - p.value ∧ -65535 ≤ d ∧ d ≤ 65535 ∧ (d * phase).natAbs ≤ 268365825 ∧
          interpolate p q x = p.value + (d * phase + 2048) / 4096 ∧
          (0 ≤ d → 0 ≤ (d * phase + 2048) / 4096 ∧ (d * phase + 2048) / 4096 ≤ d) ∧
          (d < 0 → d ≤ (d * phase + 2048) / 4096 ∧ (d * phase + 2048) / 4096 ≤ 0) ∧
          min p.value q.value ≤ interpolate p q x ∧ interpolate p q x ≤ max p.value q.value ∧
          -32768 ≤ interpolate p q x ∧ interpolate p q x ≤ 32767 ∧ (d = 0 → interpolate p q x = p.value)

/-- One smoothing step (R20): its value, the output formed after it, the exact follow at k = 0, and that the step never
passes the value entering; so after any run of values from an empty accumulator the accumulator and the output stay
within the span of those values. -/
def Obligations.SmoothingStepNeverPassesItsValue : Prop :=
  (∀ (k : Nat) (acc v : Int),
    smooth k (some acc) v = acc + (v * 256 - acc) / 2 ^ k ∧ smoothedOutput acc = (acc + 128) / 256 ∧
      (k = 0 → smooth k (some acc) v = v * 256 ∧ smoothedOutput (smooth k (some acc) v) = v) ∧
      (acc ≤ v * 256 → acc ≤ smooth k (some acc) v ∧ smooth k (some acc) v ≤ v * 256) ∧
      (v * 256 < acc → smooth k (some acc) v ≤ acc - 1 ∧ v * 256 ≤ smooth k (some acc) v)) ∧
    ∀ (k : Nat) (low high v : Int) (vs : List Int), (∀ u ∈ v :: vs, low ≤ u ∧ u ≤ high) →
      ∃ acc : Int,
        vs.foldl (fun a u => smooth k (some a) u) (smooth k none v) = acc ∧
          low * 256 ≤ acc ∧ acc ≤ high * 256 ∧ low ≤ smoothedOutput acc ∧ smoothedOutput acc ≤ high

/-- A steady value is reached (R21): from any accumulator there is a number of sample events from which on the output is
the value itself; the accumulator then stands less than 2^k below value × 256, and at it exactly if it came from above. -/
def Obligations.SteadyValueIsReachedExactly : Prop :=
  ∀ (k : Nat) (acc v : Int), k ≤ 7 →
    ∃ steps : Nat, ∀ n : Nat, steps ≤ n →
      ∃ a : Int,
        (fun b => smooth k (some b) v)^[n] acc = a ∧ smoothedOutput a = v ∧
          v * 256 - 2 ^ k < a ∧ a ≤ v * 256 ∧ (v * 256 ≤ acc → a = v * 256)

/-- A sample event of a sampling channel whose window does not fill (R13 to R16, R19, R20, R26): the countdown is
reloaded, the value is calibrated or filled, smoothed and added to the open window, and nothing else changes.

A sample event that fills the window (R27, R28): the result is formed and graded, the window is empty again, and the
result replaces the last one and is evaluated in the same event, whose reports are offered in order.
The keys are taken when the reports have been offered (the model's choice, assumption 12).  A sample event that is not due,
before the units start, in OFF or at a countdown above 0, changes nothing (the model's choice, assumption 21). -/
def Obligations.SampleEventFillsAndClosesTheWindow : Prop :=
  (∀ (n : Fin 12) (raw : BitVec 12) (s : State), s.atRest →
    s.load ≠ .running ∨ (s.channels[n]).mode = .off ∨ (s.channels[n]).countdown ≠ 0 →
      exec (.sampleEvent n raw) s = .next s) ∧
  (∀ (n : Fin 12) (raw : BitVec 12) (s : State) (e : ChannelEntry) (c : Channel) (v acc out : Int) (valid : Bool),
    s.atRest → s.load = .running → e = s.channelTable[n] → c = s.channels[n] → c.mode ≠ .off → c.countdown = 0 →
      c.window.count + 1 < e.window →
      valid = decide (e.lowLimit ≤ raw.toNat ∧ raw.toNat ≤ e.highLimit) →
      v = (if valid then (s.calibrationTable[n]).calibrate raw.toNat
        else if e.fillPolicy = .hold then c.fill.getD e.fallback else e.fallback) →
      acc = (match c.accumulator with | none => v * 256 | some a => a + (v * 256 - a) / 2 ^ e.smoothing) →
      out = (acc + 128) / 256 →
        exec (.sampleEvent n raw) s =
          .next
            { s with
              channels :=
                s.channels.set n
                  { c with
                    countdown := e.divider
                    fill := if valid then some v else c.fill
                    accumulator := some acc
                    last := some { raw := raw.toNat, valid := valid, value := v, output := out }
                    window :=
                      { count := c.window.count + 1
                        sum := c.window.sum + out
                        maximum := some (c.window.maximum.elim out fun m => max m out)
                        minimum := some (c.window.minimum.elim out fun m => min m out)
                        valid := c.window.valid + valid.toNat
                        exceedance := c.window.exceedance + (decide (e.t2 ≤ out)).toNat } } }) ∧
    (∀ (n : Fin 12) (raw : BitVec 12) (s : State) (e : ChannelEntry) (c : Channel) (v acc out : Int) (valid : Bool)
    (r : WindowResult) (x : Channel × List LevelReport),
    s.load = .running → e = s.channelTable[n] → c = s.channels[n] → c.mode ≠ .off → c.countdown = 0 →
      e.window ≤ c.window.count + 1 →
      valid = decide (e.lowLimit ≤ raw.toNat ∧ raw.toNat ≤ e.highLimit) →
      v = (if valid then (s.calibrationTable[n]).calibrate raw.toNat
        else if e.fillPolicy = .hold then c.fill.getD e.fallback else e.fallback) →
      acc = (match c.accumulator with | none => v * 256 | some a => a + (v * 256 - a) / 2 ^ e.smoothing) →
      out = (acc + 128) / 256 →
      r =
        { mean := (2 * (c.window.sum + out) + e.window) / (2 * e.window)
          maximum := c.window.maximum.elim out fun m => max m out
          minimum := c.window.minimum.elim out fun m => min m out
          valid := c.window.valid + valid.toNat
          exceedance := c.window.exceedance + (decide (e.t2 ≤ out)).toNat
          quality :=
            if c.mode = .warming then .warming
            else if c.window.valid + valid.toNat = 0 then .failed
            else if 2 * (c.window.valid + valid.toNat) < e.window then .doubtful
            else .good } →
      x =
        Channel.evaluate e r
          { c with
            countdown := e.divider
            fill := if valid then some v else c.fill
            accumulator := some acc
            last := some { raw := raw.toNat, valid := valid, value := v, output := out }
            window := { count := 0, sum := 0, maximum := none, minimum := none, valid := 0, exceedance := 0 }
            result := some r } →
        exec (.sampleEvent n raw) s =
          .next (x.2.foldl (State.levelReport n) { s with channels := s.channels.set n x.1 }).settle)

/-- The evaluation of a result (R29, R31 to R36) by quality, channel state and candidate: the new state, level and
counters, and the reports in the order they are offered.

What each report offers (R37): a key of its kind with the channel, the channel's class and, for a level change, the old
and the new level; a change of level latches LEVEL_CHANGE, a failure CHANNEL_FAILED, a recovery nothing. -/
def Obligations.EvaluationFollowsTheLevelRules : Prop :=
  (∀ (e : ChannelEntry) (r : WindowResult) (c : Channel) (v : Int) (candidate : Nat),
      e.t1 < e.t2 → e.t2 < e.t3 → c.level ≤ 3 →
        v = (match e.evaluateOn with
          | .mean => r.mean
          | .max => r.maximum
          | .meanAbs => |r.mean|
          | .peakAbs => max |r.maximum| |r.minimum|) →
        candidate = ([e.t1, e.t2, e.t3].filter fun t => decide (t ≤ v)).length →
          Channel.evaluate e r c =
            match r.quality, c.mode with
            | .warming, _ => (c, [])
            | .failed, .run =>
              if c.failedWindows + 1 < e.failLimit then ({ c with failedWindows := c.failedWindows + 1 }, [])
              else
                ({ c with mode := .failed, failedWindows := c.failedWindows + 1, level := max c.level e.failLevel },
                  .failed :: if c.level < e.failLevel then [.up c.level e.failLevel] else [])
            | .failed, _ => (c, [])
            | _, .failed => ({ c with mode := .run, rise := 0, fall := 0, failedWindows := 0 }, [.recovered])
            | quality, _ =>
              if c.level < candidate then
                if c.rise + 1 < e.persistence then ({ c with rise := c.rise + 1, fall := 0, failedWindows := 0 }, [])
                else ({ c with level := candidate, rise := 0, fall := 0, failedWindows := 0 }, [.up c.level candidate])
              else if quality = .doubtful then ({ c with rise := 0, failedWindows := 0 }, [])
              else if c.level = 0 ∨ [e.t1, e.t2, e.t3].getD (c.level - 1) 0 - e.hysteresis ≤ v then
                ({ c with rise := 0, fall := 0, failedWindows := 0 }, [])
              else if c.fall + 1 < e.persistence then
                ({ c with rise := 0, fall := c.fall + 1, failedWindows := 0 }, [])
              else ({ c with level := c.level - 1, rise := 0, fall := 0, failedWindows := 0 }, [.down c.level (c.level - 1)])) ∧
    ∀ (n : Fin 12) (s : State) (cls : SensorClass) (old new : Nat), cls = (s.channelTable[n]).cls →
      s.levelReport n (.up old new) =
          ({ s with
            keys :=
              s.keys ++
                [{ kind := .levelUp, index := n.val, cls := some cls, level := new, oldLevel := old }] } : State).latch
            .levelChange ∧
        s.levelReport n (.down old new) =
          ({ s with
            keys :=
              s.keys ++
                [{ kind := .levelDown, index := n.val, cls := some cls, level := new, oldLevel := old }] } : State).latch
            .levelChange ∧
        s.levelReport n .failed =
          ({ s with keys := s.keys ++ [{ kind := .channelFailed, index := n.val, cls := some cls }] } : State).latch
            .channelFailed ∧
        s.levelReport n .recovered =
          { s with keys := s.keys ++ [{ kind := .channelRecovered, index := n.val, cls := some cls }] }

/-- What the sample, door and point ticks count and what the end of warm-up does (R7, R13, R86, R181): a count at its end
waits for its own command, and nothing else of the machine changes.
That the tick only counts, and that an end of warm-up not due changes nothing, are the model's choices (assumptions 22,
21). -/
def Obligations.TicksCountAndWarmUpEnds : Prop :=
  ∀ s : State,
    (∃ t, exec .sampleTick s = .next t ∧ t = { s with channels := t.channels } ∧
        ∀ n : Fin 12, t.channels[n] =
          if s.load = .running ∧ (s.channels[n]).mode ≠ .off then
            { s.channels[n] with
              countdown := (s.channels[n]).countdown - 1
              warmUp := (s.channels[n]).warmUp - if (s.channels[n]).mode = .warming then 1 else 0 }
          else s.channels[n]) ∧
      (∃ t, exec .doorTick s = .next t ∧ t = { s with doors := t.doors } ∧
        ∀ d : Fin 6, t.doors[d] =
          if s.load = .running ∧ ((s.doors[d]).mode = .opening ∨ (s.doors[d]).mode = .closing) then
            { s.doors[d] with travelTimer := (s.doors[d]).travelTimer - 1 }
          else if s.load = .running ∧ (s.doors[d]).mode = .opened then
            { s.doors[d] with dwellTimer := (s.doors[d]).dwellTimer - 1 }
          else s.doors[d]) ∧
      (∃ t, exec .pointTick s = .next t ∧ t = { s with points := t.points } ∧
        ∀ n : Fin 64, t.points[n] =
          if (s.points[n]).pin ≠ (s.points[n]).filtered ∧ (s.points[n]).hold < (s.pointTable[n]).filterTime then
            { s.points[n] with hold := (s.points[n]).hold + 1 }
          else s.points[n]) ∧
      ∀ n : Fin 12, exec (.warmUpEnd n) s =
        .next
          (if s.load = .running ∧ (s.channels[n]).mode = .warming ∧ (s.channels[n]).warmUp = 0 then
            { s with channels := s.channels.set n { s.channels[n] with mode := .run } }
          else s)

/-! ## Fans -/

/-- A ramp tick of the drives that do not run at their target (R49, R56, R57): the start, confirm-loss and coast timers
fall by one, a STOPPING drive is lowered or coasts, and nothing but the drives and the pins that follow them changes.
A timer brought to 0 waits there for its own command, the drive staying in its state: that the tick only counts is the
model's choice (assumption 22). -/
def Obligations.RampTickMovesEveryDrive : Prop :=
  ∀ s : State, s.keys = [] →
    ∃ u : State, exec .rampTick s = .next u.followed ∧ u = { s with fans := u.fans } ∧
      ∀ f : Fin 6,
        let x := s.fans[f]
        (s.load ≠ .running → u.fans[f] = x) ∧
          (s.load = .running →
            (x.mode = .starting → u.fans[f] = { x with startTimer := x.startTimer - 1 }) ∧
              (x.mode = .running →
                u.fans[f] = { x with ramp := (u.fans[f]).ramp, lossTimer := x.lossTimer.map (· - 1) } ∧
                  (x.target.speed = 0 ∨ x.target.direction ≠ x.direction → (u.fans[f]).ramp = x.ramp)) ∧
              (x.mode = .stopping →
                u.fans[f] =
                  if x.ramp ≤ x.target.rate then x.off .coasting ((s.fanTable[f]).coastTime * 100)
                  else { x with ramp := x.ramp - x.target.rate, lossTimer := x.lossTimer.map (· - 1) }) ∧
              (x.mode = .coasting → u.fans[f] = { x with coastTimer := x.coastTimer - 1 }) ∧
              (x.mode = .disabled ∨ x.mode = .stopped ∨ x.mode = .fault ∨ x.mode = .isolated → u.fans[f] = x))

/-- The ramp of a RUNNING drive (R53): at every tick it moves toward target speed × 100 by the target's rate, stops at
the target value without passing it, and stays within 0 to 100000. -/
def Obligations.RampMovesTowardTheTargetWithoutPassingIt : Prop :=
  ∀ (s t : State) (f : Fin 6) (x : Fan) (goal r : Nat),
    s.keys = [] → s.load = .running → x = s.fans[f] → x.mode = .running → x.target.direction = x.direction →
      0 < x.target.speed → x.target.speed ≤ 1000 → x.ramp ≤ 100000 → goal = x.target.speed * 100 → r = x.target.rate →
        exec .rampTick s = .next t →
          (x.ramp + r < goal → (t.fans[f]).ramp = x.ramp + r) ∧
            (x.ramp < goal → goal ≤ x.ramp + r → (t.fans[f]).ramp = goal) ∧
            (x.ramp = goal → (t.fans[f]).ramp = x.ramp) ∧
            (goal < x.ramp → x.ramp ≤ goal + r → (t.fans[f]).ramp = goal) ∧
            (goal + r < x.ramp → (t.fans[f]).ramp = x.ramp - r) ∧
            (x.ramp ≤ goal → x.ramp ≤ (t.fans[f]).ramp ∧ (t.fans[f]).ramp ≤ goal) ∧
            (goal ≤ x.ramp → goal ≤ (t.fans[f]).ramp ∧ (t.fans[f]).ramp ≤ x.ramp) ∧
            (t.fans[f]).ramp ≤ 100000

/-- The winner among a fan's present demands (R67): the highest precedence, and among equals the line slot, then the
response slot of the lowest activation sequence, then the pressurisation slot. -/
def Obligations.WinnerHasTheHighestPrecedenceAndTieOrder : Prop :=
  ∀ x : Fan,
    (winnerOf x.demands = none ↔
      x.lineSlot = none ∧ x.pressurisationSlot = none ∧ ∀ k : Fin 4, x.responseSlots[k] = none) ∧
      ∀ (w : Source) (d : Demand), winnerOf x.demands = some (w, d) →
        (∀ l : Demand, x.lineSlot = some l → l.precedence < d.precedence ∨ (w = .line ∧ d = l)) ∧
          (∀ (k : Fin 4) (b : ResponseDemand), x.responseSlots[k] = some b →
            b.demand.precedence < d.precedence ∨
              (b.demand.precedence = d.precedence ∧
                (w = .line ∨
                  ∃ (j : Fin 4) (a : ResponseDemand),
                    w = .response j ∧ x.responseSlots[j] = some a ∧ d = a.demand ∧ a.sequence ≤ b.sequence))) ∧
          (∀ p : Demand, x.pressurisationSlot = some p →
            p.precedence < d.precedence ∨
              (p.precedence = d.precedence ∧ (w = .line ∨ (∃ j, w = .response j) ∨ (w = .pressurisation ∧ d = p)))) ∧
          ((w = .line ∧ x.lineSlot = some d) ∨ (w = .pressurisation ∧ x.pressurisationSlot = some d) ∨
            ∃ (j : Fin 4) (a : ResponseDemand), w = .response j ∧ x.responseSlots[j] = some a ∧ d = a.demand)

/-- A resolution forms the target from the winning demand and hands it to the drive, which acts by its state (R50, R51,
R52, R54, R56 to R60, R68): only a STOPPED drive starts, and only there does the direction output move. -/
def Obligations.ResolutionReachesTheDriveByItsState : Prop :=
  ∀ (f : Fin 6) (s : State) (e : FanEntry) (x y : Fan) (g : Target) (confirmed same : Bool),
    e = s.fanTable[f] → x = s.fans[f] →
      g =
        (match winnerOf x.demands with
        | none => { direction := .fwd, speed := 0, rate := e.defaultRate, source := .none }
        | some (w, d) =>
          { direction := d.direction, speed := if d.speed = 0 then 0 else max d.speed e.minimumSpeed, rate := d.rate,
            source := w }) →
      y = { x with target := g } →
      confirmed = (!s.assigned (.fanConfirm f) || s.signalActive (.fanConfirm f)) →
      same = (decide (0 < g.speed) && decide (g.direction = x.direction)) →
        s.resolveFan f =
          { s with
            fans :=
              s.fans.set f
                (match x.mode with
                | .stopped =>
                  if g.speed = 0 then y
                  else
                    { y with
                      direction := g.direction
                      mode := if confirmed then .running else .starting
                      ramp := 0
                      startTimer := if confirmed then 0 else e.startTimeout * 100
                      lossTimer := none }
                | .starting => if same then y else y.off .coasting (e.coastTime * 100)
                | .running => if same then y else { y with mode := .stopping }
                | .stopping => if same then { y with mode := .running } else y
                | .coasting | .fault | .isolated | .disabled => y) }

/-- FAN SET (R71): its clamped demand replaces the line slot of the present fan it names, the fan is resolved once, and
the order is answered DONE or CLAMPED; an absent fan or a number above 5 is answered UNKNOWN_TARGET and nothing moves.

FAN RELEASE makes the line slot of the present fan it names absent, with one resolution (R72); FAN RESET takes a
present fan in FAULT to COASTING with the full coast time and is refused in every other state (R58). -/
def Obligations.FanSetReleaseAndReset : Prop :=
  (∀ (req : Request) (fan direction speed rate precedence : Word) (s : State), s.atRest → s.load = .running →
      ((∀ f : Fin 6, fan.toNat = f.val → (s.fanTable[f]).present = false) →
        exec (.fanSet req fan direction speed rate precedence) s = .next (s.answerOrder req 1 .unknownTarget)) ∧
        ∀ f : Fin 6, fan.toNat = f.val → (s.fanTable[f]).present = true →
          exec (.fanSet req fan direction speed rate precedence) s =
            .next
              (((({ s with
                fans :=
                  s.fans.set f
                    { s.fans[f] with
                      lineSlot :=
                        some
                          { precedence := (min 15 (max 1 precedence.toInt)).toNat
                            direction := if direction = 0 then .fwd else .rev
                            speed := (min 1000 (max 0 speed.toInt)).toNat
                            rate := (min 500 (max 1 rate.toInt)).toNat } } } : State).resolveFan f).followed).answerOrder
                req 1
                (if (direction = 0 ∨ direction = 1) ∧ 0 ≤ speed.toInt ∧ speed.toInt ≤ 1000 ∧ 1 ≤ rate.toInt ∧
                    rate.toInt ≤ 500 ∧ 1 ≤ precedence.toInt ∧ precedence.toInt ≤ 15 then
                  .done
                else .clamped))) ∧
  ∀ (req : Request) (fan : Word) (s : State), s.atRest → s.load = .running →
    ((∀ f : Fin 6, fan.toNat = f.val → (s.fanTable[f]).present = false) →
      exec (.fanRelease req fan) s = .next (s.answerOrder req 2 .unknownTarget) ∧
        exec (.fanReset req fan) s = .next (s.answerOrder req 3 .unknownTarget)) ∧
      ∀ f : Fin 6, fan.toNat = f.val → (s.fanTable[f]).present = true →
        exec (.fanRelease req fan) s =
            .next
              (((({ s with fans := s.fans.set f { s.fans[f] with lineSlot := none } } : State).resolveFan
                f).followed).answerOrder req 2 .done) ∧
          ((s.fans[f]).mode = .fault →
            exec (.fanReset req fan) s =
              .next
                ((({ s with
                  fans :=
                    s.fans.set f
                      ((s.fans[f]).off .coasting ((s.fanTable[f]).coastTime * 100)) } : State).followed).answerOrder
                  req 3 .done)) ∧
          ((s.fans[f]).mode ≠ .fault → exec (.fanReset req fan) s = .next (s.answerOrder req 3 .refusedState))

/-- The expiries of a fan's timers (R52, R54, R55, R57, R58, R61): an unconfirmed start and a confirm loss end in FAULT
with its key and event; the end of coasting is STOPPED, and a standing target above 0 starts the fan at once in its
direction.

A door whose travel time runs out in OPENING or CLOSING jams, with its key and event (R91, R93); a dwell that ends at
a door not held closes it, or shuts it at once where its contacts show closed already (R92, R93).  The dwell of a held
door changes nothing.
That an expiry stands at a timer of 0 and one not due changes nothing, and when the key is taken, are the model's choices
(assumptions 22, 21, 12). -/
def Obligations.FanAndDoorTimerExpiries : Prop :=
  (∀ (f : Fin 6) (s : State) (x : Fan) (e : FanEntry) (faulted : State) (confirmed : Bool), s.atRest → x = s.fans[f] →
      e = s.fanTable[f] → confirmed = (!s.assigned (.fanConfirm f) || s.signalActive (.fanConfirm f)) →
      faulted =
          ({ s with
            fans := s.fans.set f (x.off .fault 0)
            keys := [{ kind := .fanFault, index := f.val }] } : State).latch .fanFault →
        exec (.startTimerExpiry f) s =
            .next (if x.mode = .starting ∧ x.startTimer = 0 then faulted.settle else s) ∧
          exec (.confirmLossTimerExpiry f) s =
            .next
              (if (x.mode = .running ∨ x.mode = .stopping) ∧ x.lossTimer = some 0 then faulted.settle else s) ∧
          exec (.coastTimerExpiry f) s =
            .next
              (if x.mode = .coasting ∧ x.coastTimer = 0 then
                ({ s with
                  fans :=
                    s.fans.set f
                      (if x.target.speed = 0 then { x with mode := .stopped }
                      else
                        { x with
                          direction := x.target.direction
                          mode := if confirmed then .running else .starting
                          ramp := 0
                          startTimer := if confirmed then 0 else e.startTimeout * 100
                          lossTimer := none }) } : State).followed
              else s)) ∧
  ∀ (d : Fin 6) (s : State) (x : Door), s.atRest → x = s.doors[d] →
    ((x.mode = .opening ∨ x.mode = .closing) → x.travelTimer = 0 →
        exec (.travelTimerExpiry d) s =
          .next
            (({ s with
              doors := s.doors.set d { x with mode := .jammed, travelTimer := 0, dwellTimer := 0 }
              keys := [{ kind := .doorJammed, index := d.val }] } : State).latch
                .doorJammed).settle) ∧
      (((x.mode ≠ .opening ∧ x.mode ≠ .closing) ∨ x.travelTimer ≠ 0) → exec (.travelTimerExpiry d) s = .next s) ∧
      (x.mode = .opened → x.dwellTimer = 0 → ¬x.isHeld → s.shows d ≠ .closed →
        exec (.dwellExpiry d) s =
          .next
            ({ s with
              doors :=
                s.doors.set d
                  { x with
                    mode := .closing
                    travelTimer := (s.doorTable[d]).travelLimit * 100
                    dwellTimer := 0 } } : State).followed) ∧
      (x.mode = .opened → x.dwellTimer = 0 → ¬x.isHeld → s.shows d = .closed →
        exec (.dwellExpiry d) s =
          .next
            ({ s with
              doors := s.doors.set d { x with mode := .closed, travelTimer := 0, dwellTimer := 0 }
              keys := [{ kind := .doorShut, index := d.val }] } : State).settle) ∧
      ((x.mode ≠ .opened ∨ x.dwellTimer ≠ 0 ∨ x.isHeld) → exec (.dwellExpiry d) s = .next s)

/-! ## Doors -/

/-- DOOR OPEN (R98): an open request at each present door of the set, in door order (R87, R90 to R94); refused at a door
in CONTACT_FAULT or OUT_OF_SERVICE, and answered UNKNOWN_TARGET where the set names no present door.

DOOR HOLD writes the line hold slot of each present door of the set, an open request; DOOR FREE makes it absent, and
the last hold withdrawn restarts the dwell of an OPEN door (R88, R89, R92, R98).  Both are answered DONE.

DOOR CLOSE (R90 to R94, R98): an OPEN or JAMMED door not held is driven shut, or is shut at once where its contacts
show closed; a CLOSED door is left as it is; every other door refuses the order.
The keys are taken when every door has been asked (the model's choice, assumption 12). -/
def Obligations.DoorOpenHoldFreeAndClose : Prop :=
  ((∀ (req : Request) (doors : Word) (s : State), s.atRest → s.load = .running →
      (s.doorsOf doors = [] → exec (.doorOpen req doors) s = .next (s.answerOrder req 4 .unknownTarget)) ∧
        (s.doorsOf doors ≠ [] →
          exec (.doorOpen req doors) s =
            .next
              ((({ s with
                doors :=
                  tabulate fun d =>
                    if d ∈ s.doorsOf doors then (Door.asked s.doorTable[d] (s.shows d) s.doors[d]).1 else s.doors[d]
                keys :=
                  ((s.doorsOf doors).filter fun d => (Door.asked s.doorTable[d] (s.shows d) s.doors[d]).2).map fun d =>
                    { kind := .doorOpened, index := d.val } } : State).settle).answerOrder req 4
                (if ∀ d ∈ s.doorsOf doors, (s.doors[d]).mode ≠ .contactFault ∧ (s.doors[d]).mode ≠ .outOfService then .done
                else .refusedState)))) ∧
      (∀ (req : Request) (doors : Word) (s : State), s.atRest → s.load = .running →
      (s.doorsOf doors = [] →
        exec (.doorHold req doors) s = .next (s.answerOrder req 5 .unknownTarget) ∧
          exec (.doorFree req doors) s = .next (s.answerOrder req 6 .unknownTarget)) ∧
        (s.doorsOf doors ≠ [] →
          exec (.doorHold req doors) s =
              .next
                ((({ s with
                  doors :=
                    tabulate fun d =>
                      if d ∈ s.doorsOf doors then
                        (Door.asked s.doorTable[d] (s.shows d) { s.doors[d] with lineHold := true }).1
                      else s.doors[d]
                  keys :=
                    ((s.doorsOf doors).filter fun d => (Door.asked s.doorTable[d] (s.shows d) s.doors[d]).2).map fun d =>
                      { kind := .doorOpened, index := d.val } } : State).settle).answerOrder
                  req 5 .done) ∧
            exec (.doorFree req doors) s =
              .next
                (({ s with
                  doors :=
                    tabulate fun d =>
                      if d ∈ s.doorsOf doors ∧ (s.doors[d]).lineHold = true then
                        { s.doors[d] with
                          lineHold := false
                          dwellTimer :=
                            if (s.doors[d]).mode = .opened ∧ ∀ k : Fin 4, (s.doors[d]).responseHolds[k] = false then
                              (s.doorTable[d]).dwell * 100
                            else (s.doors[d]).dwellTimer }
                      else s.doors[d] } : State).answerOrder req 6 .done)))) ∧
  ∀ (req : Request) (doors : Word) (s : State), s.atRest → s.load = .running →
    (s.doorsOf doors = [] → exec (.doorClose req doors) s = .next (s.answerOrder req 7 .unknownTarget)) ∧
      ∀ closes : Fin 6 → Bool,
        (∀ d : Fin 6, closes d = true ↔
          d ∈ s.doorsOf doors ∧ ((s.doors[d]).mode = .opened ∨ (s.doors[d]).mode = .jammed) ∧ ¬(s.doors[d]).isHeld) →
          s.doorsOf doors ≠ [] →
            exec (.doorClose req doors) s =
              .next
                ((({ s with
                  doors :=
                    tabulate fun d =>
                      if closes d = true then
                        if s.shows d = .closed then { s.doors[d] with mode := .closed, travelTimer := 0, dwellTimer := 0 }
                        else
                          { s.doors[d] with
                            mode := .closing
                            travelTimer := (s.doorTable[d]).travelLimit * 100
                            dwellTimer := 0 }
                      else s.doors[d]
                  keys :=
                    ((List.finRange 6).filter fun d => closes d && decide (s.shows d = .closed)).map fun d =>
                      { kind := .doorShut, index := d.val } } : State).settle).answerOrder req 7
                  (if ∀ d ∈ s.doorsOf doors, closes d = true ∨ (s.doors[d]).mode = .closed then .done
                  else .refusedState))

/-- DOOR SERVICE OFF takes every named present door out of service, in MAINTENANCE only; DOOR SERVICE ON derives the
state of each named door that is out of service from its contacts, with the keys and events of the states entered, and
leaves the others (R95, R97, R98).
The keys are taken when every door has been derived (the model's choice, assumption 12). -/
def Obligations.DoorServiceOffAndOn : Prop :=
  ∀ (req : Request) (doors : Word) (s : State), s.atRest → s.load = .running →
    (s.doorsOf doors = [] →
      exec (.doorServiceOff req doors) s = .next (s.answerOrder req 8 .unknownTarget) ∧
        exec (.doorServiceOn req doors) s = .next (s.answerOrder req 9 .unknownTarget)) ∧
      (s.doorsOf doors ≠ [] → s.engine.mode ≠ .maintenance →
        exec (.doorServiceOff req doors) s = .next (s.answerOrder req 8 .refusedMode)) ∧
      (s.doorsOf doors ≠ [] → s.engine.mode = .maintenance →
        exec (.doorServiceOff req doors) s =
          .next
            ((({ s with
              doors :=
                tabulate fun d =>
                  if d ∈ s.doorsOf doors then
                    { s.doors[d] with mode := .outOfService, travelTimer := 0, dwellTimer := 0 }
                  else s.doors[d] } : State).followed).answerOrder req 8 .done)) ∧
      ∀ back : List (Fin 6),
        back = (s.doorsOf doors).filter (fun d => decide ((s.doors[d]).mode = .outOfService)) →
          s.doorsOf doors ≠ [] →
            exec (.doorServiceOn req doors) s =
              .next
                (((back.filterMap fun d =>
                    (Door.derived s.doorTable[d] (s.assigned (.doorClosed d) && s.assigned (.doorOpen d)) (s.shows d)
                      s.doors[d]).2.2).foldl
                    State.latch
                    { s with
                      doors :=
                        tabulate fun d =>
                          if d ∈ back then
                            (Door.derived s.doorTable[d] (s.assigned (.doorClosed d) && s.assigned (.doorOpen d))
                              (s.shows d) s.doors[d]).1
                          else s.doors[d]
                      keys :=
                        back.flatMap fun d =>
                          (Door.derived s.doorTable[d] (s.assigned (.doorClosed d) && s.assigned (.doorOpen d))
                            (s.shows d) s.doors[d]).2.1.map fun kind =>
                              { kind := kind, index := d.val } }).settle.answerOrder req 9 .done)

/-! ## The line -/

/-- A frame that fails a check (under 10 or over 130 bytes, a length field above 120 or at odds with the frame, a
wrong check), and a frame cut off past 130 bytes, latch FRAME_ERROR and do nothing else; a frame that passes them all is
good (R105).  The check starts at FFFFh and takes each byte most significant bit first by the polynomial 1021h (R106).

A good frame that is only relayed (R103, R107 to R110): a kind the node does not act on; a mark, a report or a notice
during start-up load; a report or a notice from the node's own address; or a request not for the node.  Its port is UP with
the link timer at 250 ms, a source of the node's own address latches ADDRESS_CONFLICT, and a frame not addressed to the
node is placed toward the other port, dropped there where that port is DOWN, unless it is a mark, and lost with
PASS_OVERFLOW where four frames wait.
The order of hearing, conflict and relaying is the model's choice (assumption 20). -/
def Obligations.FramesAreCheckedHeardAndRelayed : Prop :=
  (∀ (p : Port) (f : List Byte) (s : State),
    (f.length < 10 ∨ 130 < f.length ∨ 120 < (f.getD 6 0xFF).toNat ∨ f.length ≠ 10 + (f.getD 6 0xFF).toNat ∨
        wordOf (f.getD (f.length - 2) 0xFF) (f.getD (f.length - 1) 0xFF) ≠ checkOf (f.take (f.length - 2)) →
      exec (.frameArrival p f) s = .next (s.latch .frameError)) ∧
      exec (.frameCutOff p) s = .next (s.latch .frameError)) ∧
    (∀ f : List Byte,
      frameGood f = true ↔
        10 ≤ f.length ∧ f.length ≤ 130 ∧ (f.getD 6 0xFF).toNat ≤ 120 ∧ f.length = 10 + (f.getD 6 0xFF).toNat ∧
          f.getD (f.length - 2) 0xFF ++ f.getD (f.length - 1) 0xFF = checkOf (f.take (f.length - 2))) ∧
    (checkOf [] = 0xFFFF ∧
      ∀ (front : List Byte) (b : Byte),
        checkOf (front ++ [b]) =
          (fun r : Word => if r.getLsbD 15 = true then (r <<< 1) ^^^ 0x1021 else r <<< 1)^[8]
            (checkOf front ^^^ (b ++ (0 : Byte)))) ∧
    (∀ (p : Port) (f : List Byte) (s heard checked : State) (q : PortState), s.atRest → frameGood f = true →
    ((f.head? ≠ some 1 ∧ f.head? ≠ some 2 ∧ f.head? ≠ some 3 ∧ f.head? ≠ some 5 ∧ f.head? ≠ some 7) ∨
        ((f.head? = some 1 ∨ f.head? = some 2 ∨ f.head? = some 7) ∧ s.load ≠ .running) ∨
        ((f.head? = some 2 ∨ f.head? = some 7) ∧ s.address = some (f.getD 2 0xFF)) ∨
        ((f.head? = some 3 ∨ f.head? = some 5) ∧ ¬s.isFor (f.getD 1 0xFF))) →
      heard = s.setPort p { s.port p with up := true, linkTimer := 250 } →
      checked = (if s.address = some (f.getD 2 0xFF) then heard.latch .addressConflict else heard) →
      q = checked.port (otherPort p) →
        exec (.frameArrival p f) s = .next (s.carried p f) ∧
          (f.head? ≠ some 1 → s.address = some (f.getD 1 0xFF) ∨ q.up = false →
            exec (.frameArrival p f) s = .next checked) ∧
          (f.head? = some 1 ∨ (s.address ≠ some (f.getD 1 0xFF) ∧ q.up = true) →
            (4 ≤ q.pass.length → exec (.frameArrival p f) s = .next (checked.latch .passOverflow)) ∧
              (q.pass.length < 4 → q.sending.isSome = true →
                exec (.frameArrival p f) s =
                  .next (checked.setPort (otherPort p) { q with pass := q.pass ++ [f] })) ∧
              (q.pass = [] → q.insertQueue = [] → q.sending = none →
                exec (.frameArrival p f) s = .next (checked.setPort (otherPort p) { q with sending := some f }))))

/-- What latching an event kind does (R194, R109, R112, R198): nothing where it is latched; else its bit is set, and
where the notice mask names it and the node has an address, a NOTICE of its code is queued to every UP port.

How a frame the node originates enters an insert queue (R111, R113): a DOWN port drops it, a report replaces the
report queued in its place, a ninth frame is lost, and any other stands last, sent at once by an idle transmitter.  A report
or a notice goes to every port, a copy each, and a reply to one port, and a loss latches INSERT_LOSS.
That a loss is latched after both copies is the model's choice (assumption 26). -/
def Obligations.EventsNotifyThroughTheInsertQueues : Prop :=
  (∀ (k : EventKind) (s : State),
    (s.events.getLsbD k.code = true → s.latch k = s) ∧
      ∀ u : State, u = { s with events := s.events ||| (1#24 <<< k.code) } → s.events.getLsbD k.code = false →
        (s.nodeTable.noticeMask.getLsbD k.code = false ∨ s.address = none → s.latch k = u) ∧
          ∀ (a : Byte) (body : List Byte), s.nodeTable.noticeMask.getLsbD k.code = true → s.address = some a →
            body =
                [7, 255, a, 0, s.cycle.number.extractLsb' 8 8, s.cycle.number.extractLsb' 0 8, 1, 0,
                  BitVec.ofNat 8 k.code] →
              s.latch k =
                u.queueToAll (body ++ [(checkOf body).extractLsb' 8 8, (checkOf body).extractLsb' 0 8])) ∧
    ((∀ (p : PortState) (f : Frame) (before after : List Frame) (g : Frame),
    (p.up = false → p.placeInsert f = (p, .dropped)) ∧
      (p.up = true → f.head? = some 2 → p.insertQueue = before ++ g :: after → g.head? = some 2 →
        (∀ h ∈ before, h.head? ≠ some 2) →
          p.placeInsert f = ({ p with insertQueue := before ++ f :: after }, .placed)) ∧
      (p.up = true → (f.head? = some 2 → ∀ h ∈ p.insertQueue, h.head? ≠ some 2) →
        (8 ≤ p.insertQueue.length → p.placeInsert f = (p, .lost)) ∧
          (p.insertQueue.length < 8 → p.sending.isSome = true →
            p.placeInsert f = ({ p with insertQueue := p.insertQueue ++ [f] }, .placed)) ∧
          (p.insertQueue = [] → p.pass = [] → p.sending = none →
            p.placeInsert f = ({ p with sending := some f, starvation := 0 }, .placed)))) ∧
    ∀ (f : Frame) (s u : State) (lost : Bool),
      u = { s with portA := (s.portA.placeInsert f).1, portB := (s.portB.placeInsert f).1 } →
        (lost = true ↔ (s.portA.placeInsert f).2 = .lost ∨ (s.portB.placeInsert f).2 = .lost) →
          s.queueToAll f = (if lost = true then u.latch .insertLoss else u) ∧
            ∀ (p : Port) (v : State), v = s.setPort p ((s.port p).placeInsert f).1 →
              s.queueTo p f = if ((s.port p).placeInsert f).2 = .lost then v.latch .insertLoss else v)

/-- A CYCLE MARK and the timers of the cycle (R107 to R110, R114, R115, R116): a mark of whatever source goes toward the
other port even where it is DOWN; during start-up load, or of the current number in MARKED, it is not taken; any other
sets the number, latches CYCLE_BREAK where it does not follow on after a first mark, restarts the mark timer and runs a
cycle event.  Each timer, run down to 0, expires and counts the number on itself; a mark that has reloaded the mark timer
leaves no expiry.
The order of relaying and acting, when keys are taken, and that an expiry stands at a timer of 0 and one not due changes
nothing are the model's choices (assumptions 20, 12, 22, 21). -/
def Obligations.MarksAndTimersRunTheCycle : Prop :=
  (∀ (p : Port) (f : List Byte) (s passed : State) (number : Word), s.atRest → frameGood f = true →
    f.head? = some 1 → number = f.getD 4 0xFF ++ f.getD 5 0xFF → passed = s.carried p f →
      (s.load ≠ .running → exec (.frameArrival p f) s = .next passed) ∧
      (s.load = .running → s.cycle.marked = true → number = s.cycle.number →
        exec (.frameArrival p f) s = .next passed) ∧
        (s.load = .running → s.cycle.marked = false ∨ number ≠ s.cycle.number →
          ∃ noted : State,
            noted =
                (if s.cycle.firstMark = true ∧ number ≠ s.cycle.number + 1 then
                  ({ passed with cycle := { s.cycle with number := number } } : State).latch .cycleBreak
                else { passed with cycle := { s.cycle with number := number } }) ∧
              exec (.frameArrival p f) s =
                .next
                  ((({ noted with
                    cycle :=
                      { s.cycle with
                        number := number, firstMark := true, marked := true
                        markTimer := s.nodeTable.markTimeout * 100, localTimer := none } } : State).cycleEvent).settle))) ∧
    ∀ s : State, s.atRest →
      (exec .markTimerExpiry s =
        .next
          (if s.cycle.marked = true ∧ s.cycle.markTimer = 0 then
            let unmarked := ({ s with cycle := { s.cycle with marked := false, markTimer := 0 } } : State).latch .unmarked
            let counted :=
              ({ unmarked with
                cycle :=
                  { s.cycle with marked := false, markTimer := 0, number := s.cycle.number + 1 } } : State).cycleEvent
            ({ counted with cycle := { counted.cycle with localTimer := some 100 } } : State).settle
          else s)) ∧
        exec .localCycleTimerExpiry s =
          .next
            (if s.cycle.marked = false ∧ s.cycle.localTimer = some 0 then
              let counted := ({ s with cycle := { s.cycle with number := s.cycle.number + 1 } } : State).cycleEvent
              ({ counted with cycle := { counted.cycle with localTimer := some 100 } } : State).settle
            else s)

/-- A cycle event (R117, R130, R196): every neighbour record in use and not SILENT counts, one that reaches its silence
limit becomes SILENT with its event and its key, which carries its address; the keys are taken in record order, and each
report interval of events the report sequence rises and a report is sent.
The keys are taken when every record has counted (the model's choice, assumption 12). -/
def Obligations.CycleEventsCountSilenceAndReports : Prop :=
  ∀ (s counted noted : State) (due : Bool) (silent : List (Fin 16)), s.keys = [] →
    due = decide (s.nodeTable.reportInterval ≤ s.cycle.interval + 1) →
      counted =
        { s with
          cycle :=
            if due then { s.cycle with interval := 0, sequence := s.cycle.sequence + 1 }
            else { s.cycle with interval := s.cycle.interval + 1 }
          neighbourTable :=
            tabulate fun i =>
              if (s.neighbourTable[i]).address = 0 ∨ (s.neighbourTable[i]).state = .silent then s.neighbourTable[i]
              else if (s.neighbourTable[i]).silenceCount + 1 < (s.neighbourTable[i]).silenceLimit then
                { s.neighbourTable[i] with silenceCount := (s.neighbourTable[i]).silenceCount + 1 }
              else
                { s.neighbourTable[i] with
                  state := .silent
                  silenceCount := (s.neighbourTable[i]).silenceCount + 1 } } →
      silent =
        (List.finRange 16).filter
          (fun i => decide ((s.neighbourTable[i]).state ≠ .silent ∧ (counted.neighbourTable[i]).state = .silent)) →
      noted =
        State.takes (if silent = [] then counted else counted.latch .neighbourSilent)
          (silent.map fun i =>
            { kind := .neighbourSilent, index := i.val, address := some (s.neighbourTable[i]).address }) →
        s.cycleEvent = if due then noted.sendReport else noted

/-- A report or a notice is handed over once it is relayed, but during start-up load, or from the node's own address, it is
relayed alone (R108, R109).

A report handed over (R108, R109, R122 to R127, R131): the neighbour records of its source are PRESENT with count 0; a report of full length whose origin cycle lies within the stale limit moves the latch of each
enabled report entry that applies; and NEIGHBOUR_BACK and then the watch keys in entry order are taken, each with the
source for its address.

A notice handed over (R125, R126, R128): each enabled notice entry that applies and whose condition its code meets makes
a WATCH_HIT key, in entry order; no latch, record or cycle number moves.  The order of hearing, relaying and watching is
the model's choice (assumption 20), as are when the keys are taken (assumption 12) and that a source of 0 or 251 to 255
latches as it stands (assumption 40). -/
def Obligations.ReportsAndNoticesAreWatched : Prop :=
  (∀ (p : Port) (f payload : List Byte) (source : Byte) (s passed : State), s.atRest → frameGood f = true →
    source = f.getD 2 0xFF → payload = (f.drop 8).take (f.length - 10) → passed = s.carried p f →
      (f.head? = some 2 ∨ f.head? = some 7 → s.load ≠ .running ∨ s.address = some source →
        exec (.frameArrival p f) s = .next passed) ∧
        (s.load = .running → s.address ≠ some source →
          (f.head? = some 2 →
            exec (.frameArrival p f) s =
              .next (passed.handReport source (f.getD 4 0xFF ++ f.getD 5 0xFF) payload).settle) ∧
            (f.head? = some 7 → exec (.frameArrival p f) s = .next (passed.handNotice source payload).settle))) ∧
    (∀ (source : Byte) (origin : Word) (payload : List Byte) (s : State) (d : Nat)
      (applies condition hit cleared : Fin 32 → Bool) (keys : List Key), s.keys = [] → d = (s.cycle.number - origin).toNat →
      (∀ i : Fin 32, applies i = true ↔
        (d ≤ s.nodeTable.staleLimit ∨ 65536 - d ≤ s.nodeTable.staleLimit) ∧ 104 ≤ payload.length ∧
          (s.watchTable[i]).enabled = true ∧ (s.watchTable[i]).kind = .report ∧
          ((s.watchTable[i]).source = 255 ∨ (s.watchTable[i]).source = source)) →
      (∀ (i : Fin 32) (v : Int), v = testValue payload (s.watchTable[i]).test (s.watchTable[i]).testIndex →
        (condition i = true ↔
          match (s.watchTable[i]).comparison with
          | .atOrAbove => (s.watchTable[i]).operand ≤ v
          | .equal => v = (s.watchTable[i]).operand
          | .below => v < (s.watchTable[i]).operand)) →
      (∀ i : Fin 32, hit i = (applies i && condition i && decide ((s.watchTable[i]).latch = none))) →
      (∀ i : Fin 32, cleared i = (applies i && !condition i && decide ((s.watchTable[i]).latch = some source))) →
      keys =
          (((List.finRange 16).filter fun i =>
                decide ((s.neighbourTable[i]).address = source ∧ source ≠ 0 ∧ (s.neighbourTable[i]).state = .silent)).map
              fun i => { kind := .neighbourBack, index := i.val, address := some source }) ++
            (((List.finRange 32).filter fun i => hit i || cleared i).map fun i =>
              { kind := if hit i then .watchHit else .watchClear, index := i.val, address := some source }) →
        s.handReport source origin payload =
          keys.foldl State.takeKey
            { s with
              neighbourTable :=
                tabulate fun i =>
                  if (s.neighbourTable[i]).address = source ∧ source ≠ 0 then
                    { s.neighbourTable[i] with state := .present, silenceCount := 0 }
                  else s.neighbourTable[i]
              watchTable :=
                tabulate fun i =>
                  if hit i then { s.watchTable[i] with latch := some source }
                  else if cleared i then { s.watchTable[i] with latch := none }
                  else s.watchTable[i] }) ∧
    ∀ (source code : Byte) (rest : List Byte) (s : State) (met : Fin 32 → Bool), s.keys = [] →
      (∀ i : Fin 32, met i = true ↔
        (s.watchTable[i]).enabled = true ∧ (s.watchTable[i]).kind = .notice ∧
          ((s.watchTable[i]).source = 255 ∨ (s.watchTable[i]).source = source) ∧
          match (s.watchTable[i]).comparison with
          | .atOrAbove => (s.watchTable[i]).operand ≤ code.toNat
          | .equal => code.toNat = (s.watchTable[i]).operand
          | .below => code.toNat < (s.watchTable[i]).operand) →
        s.handNotice source [] = s ∧
          s.handNotice source (code :: rest) =
            ((List.finRange 32).filter met).foldl
              (fun u i => u.takeKey { kind := .watchHit, index := i.val, address := some source }) s

/-- The test value a report of full length yields (R124): the highest level among its channel items of a class, 0 where
it has none; a fan's run direction in STARTING, RUNNING and STOPPING; the number of its doors that are not DISABLED and
not shut; its node mode; and whether a response is among its active ones.  Stated of level, direction and mode bytes that
the layout of a report admits; what others yield is left open (assumptions 7, 8, 9). -/
def Obligations.ReportsYieldTestValues : Prop :=
  ∀ (payload : List Byte), 104 ≤ payload.length →
    (∀ (c v : Int) (levels : List Nat),
      levels =
          (((List.range 12).filter fun n => decide (((payload.getD (4 + 5 * n) 0xFF).toNat : Int) = c)).map fun n =>
            (payload.getD (5 + 5 * n) 0xFF).toNat) →
        (∀ l ∈ levels, l ≤ 3) → v = testValue payload .classLevel c →
          (levels = [] → v = 0) ∧ (∀ l ∈ levels, (l : Int) ≤ v) ∧ (levels ≠ [] → ∃ l ∈ levels, v = (l : Int))) ∧
      (∀ (f : Fin 6) (state direction : Nat), state = (payload.getD (64 + 4 * f.val) 0xFF).toNat →
        direction = (payload.getD (65 + 4 * f.val) 0xFF).toNat → direction ≤ 1 →
          testValue payload .fanState f.val = if 2 ≤ state ∧ state ≤ 4 then (direction : Int) + 1 else 0) ∧
      (∀ index : Int,
        testValue payload .openDoors index =
          ((List.finRange 6).map fun d =>
            if payload.getD (88 + 2 * d.val) 0xFF = 0 ∨ payload.getD (89 + 2 * d.val) 0xFF ≠ 0 then (0 : Int)
            else 1).sum) ∧
      (∀ (index : Int) (mode : Word), mode = (0 : BitVec 14) ++ (payload.getD 0 0xFF).extractLsb' 0 2 → mode ≠ 3 →
        testValue payload .mode index = (mode.toNat : Int)) ∧
      ∀ n : Fin 128,
        (testValue payload .activeResponse n.val = 1 ∨ testValue payload .activeResponse n.val = 0) ∧
          (testValue payload .activeResponse n.val = 1 ↔
            ∃ k : Fin 4, payload.getD (100 + k.val) 0xFF = BitVec.ofNat 8 n.val)

/-- The 104 bytes of a NICHE REPORT, item by item (R39, R63, R101, R158, R196, R198); and the frame that carries them
(R109, R112, R198): a node with an address queues it to every UP port, under kind 2, to 255, from its own address, tagged
with the report sequence, with the current cycle number, flags 0 and its check; a node without one sends none. -/
def Obligations.NicheReportLayout : Prop :=
  ∀ (s : State) (b : List Byte), b = s.reportPayload →
    ((s.address = none → s.sendReport = s) ∧
      ∀ (a : Byte) (body : List Byte), s.address = some a →
        body =
            [2, 255, a, s.cycle.sequence, s.cycle.number.extractLsb' 8 8, s.cycle.number.extractLsb' 0 8, 104, 0] ++ b →
          s.sendReport =
            s.queueToAll (body ++ [(checkOf body).extractLsb' 8 8, (checkOf body).extractLsb' 0 8])) ∧
    b.length = 104 ∧
      b[0]? =
        some
          (BitVec.ofNat 8
            ((match s.engine.mode with | .normal => 0 | .incident => 1 | .maintenance => 2) +
              (if s.cycle.marked then 0 else 4) + if s.load = .running then 0 else 8)) ∧
      b[1]? = some (s.events.extractLsb' 16 8) ∧ b[2]? = some (s.events.extractLsb' 8 8) ∧
      b[3]? = some (s.events.extractLsb' 0 8) ∧
      (∀ n : Fin 12, ∀ m : Word, m = BitVec.ofInt 16 ((s.channels[n]).result.elim 0 WindowResult.mean) →
        b[4 + 5 * n.val]? = some (BitVec.ofNat 8 (s.channelTable[n]).cls.code) ∧
          b[5 + 5 * n.val]? = some (BitVec.ofNat 8 (s.channels[n]).level) ∧
          b[6 + 5 * n.val]? = some (BitVec.ofNat 8 (qualityCode (s.channels[n]).result)) ∧
          b[7 + 5 * n.val]? = some (m.extractLsb' 8 8) ∧ b[8 + 5 * n.val]? = some (m.extractLsb' 0 8)) ∧
      (∀ f : Fin 6, ∀ r : Word,
        r =
            (match (s.fans[f]).mode with
            | .starting | .running | .stopping => BitVec.ofNat 16 ((s.fans[f]).ramp / 100)
            | _ => 0) →
          b[64 + 4 * f.val]? = some (BitVec.ofNat 8 (s.fans[f]).mode.code) ∧
            b[65 + 4 * f.val]? = some (match (s.fans[f]).direction with | .fwd => 0 | .rev => 1) ∧
            b[66 + 4 * f.val]? = some (r.extractLsb' 8 8) ∧ b[67 + 4 * f.val]? = some (r.extractLsb' 0 8)) ∧
      (∀ d : Fin 6,
        b[88 + 2 * d.val]? = some (BitVec.ofNat 8 (s.doors[d]).mode.code) ∧
          b[89 + 2 * d.val]? = some (if s.signalActive (.doorClosed d) then 1 else 0)) ∧
      ∀ k : Fin 4,
        b[100 + k.val]? = some ((s.engine.active[k]).elim 0xFF fun r => BitVec.ofNat 8 r.number.val)

/-- A link timer run down to 0 takes an UP port DOWN, with both its queues emptied, its starvation count 0 and its event
latched; a frame being sent is sent to its end (R103, R104).  At a DOWN port, and where a good frame
has reloaded the timer, nothing happens.

The end of a transmission and the arbiter's choice (R113): a passing frame goes before one of the node's own until it
has waited behind four; nothing queued leaves the transmitter idle.
That an expiry stands at a timer of 0 and that an end not due changes nothing is the model's choice (assumptions 21, 22). -/
def Obligations.LinkTimersAndTransmitters : Prop :=
  (∀ (p : Port) (s : State),
    ((s.port p).up = false ∨ (s.port p).linkTimer ≠ 0 → exec (.linkTimerExpiry p) s = .next s) ∧
      ((s.port p).up = true → (s.port p).linkTimer = 0 →
        exec (.linkTimerExpiry p) s =
          .next
            ((s.setPort p
              { up := false, linkTimer := 0, pass := [], insertQueue := [], sending := (s.port p).sending,
                starvation := 0 }).latch
              (match p with | .a => .linkADown | .b => .linkBDown)))) ∧
    (∀ (p : Port) (s : State) (x : PortState), x = s.port p →
    (x.sending = none → exec (.transmitEnd p) s = .next s) ∧
      (x.sending.isSome = true →
        (x.pass = [] → x.insertQueue = [] → exec (.transmitEnd p) s = .next (s.setPort p { x with sending := none })) ∧
          (∀ (f : Frame) (fs : List Frame), x.pass = f :: fs → x.insertQueue = [] →
            exec (.transmitEnd p) s = .next (s.setPort p { x with sending := some f, pass := fs })) ∧
          (∀ (i : Frame) (is : List Frame), x.insertQueue = i :: is → (x.pass = [] ∨ x.starvation = 4) →
            exec (.transmitEnd p) s =
              .next (s.setPort p { x with sending := some i, insertQueue := is, starvation := 0 })) ∧
          ∀ (f i : Frame) (fs is : List Frame), x.pass = f :: fs → x.insertQueue = i :: is → x.starvation ≠ 4 →
            exec (.transmitEnd p) s =
              .next (s.setPort p { x with sending := some f, pass := fs, starvation := x.starvation + 1 })))

/-- Orders and table accesses of unknown kind (R188, R190), and the two replies as frames (R112, R187, R198, R199): an
order is answered with its kind and result, an access with operation, status, A, B and word 3 and then the data; only a
request to the node's own address is answered, out of the port it came in by.
Words that the request did not carry are left open, and those it carried are echoed (assumptions 2, 3).  That word 3 of an
UNKNOWN_TABLE or BUSY reply is 0 is the model's reading (assumption 29).

During start-up load every order and every table access, one of unknown kind or with a head cut short too, is answered
BUSY and not executed (R187, R197). -/
def Obligations.RequestsAreAnsweredUnknownOrBusy : Prop :=
  ((∀ (req : Request) (kind : Word) (r : OrderResult) (s : State),
      (req.own = false ∨ s.address = none → s.answerOrder req kind r = s) ∧
        ∀ (a : Byte) (body : List Byte), req.own = true → s.address = some a →
          body =
              [4, req.source, a, req.tag, s.cycle.number.extractLsb' 8 8, s.cycle.number.extractLsb' 0 8, 4, 0,
                kind.extractLsb' 8 8, kind.extractLsb' 0 8, 0, BitVec.ofNat 8 r.code] →
            s.answerOrder req kind r =
              s.queueTo req.port (body ++ [(checkOf body).extractLsb' 8 8, (checkOf body).extractLsb' 0 8])) ∧
      (∀ (req : Request) (op a b : Word) (x : Answer) (s : State), op.toNat < 256 →
        (req.own = false ∨ s.address = none → s.answerAccess req op a b x = s) ∧
          ∀ (n : Byte) (body : List Byte), req.own = true → s.address = some n →
            body =
                [6, req.source, n, req.tag, s.cycle.number.extractLsb' 8 8, s.cycle.number.extractLsb' 0 8,
                  BitVec.ofNat 8 (8 + x.data.length), 0, op.extractLsb' 0 8, BitVec.ofNat 8 x.status.code,
                  a.extractLsb' 8 8, a.extractLsb' 0 8, b.extractLsb' 8 8, b.extractLsb' 0 8,
                  x.number.extractLsb' 8 8, x.number.extractLsb' 0 8] ++ x.data →
              s.answerAccess req op a b x =
                s.queueTo req.port (body ++ [(checkOf body).extractLsb' 8 8, (checkOf body).extractLsb' 0 8])) ∧
      ∀ (req : Request) (s : State), s.atRest → s.load = .running →
        (∀ kind : Word, exec (.unknownOrder req (some kind)) s = .next (s.answerOrder req kind .unknownTarget)) ∧
          (∃ kind : Word, exec (.unknownOrder req none) s = .next (s.answerOrder req kind .unknownTarget)) ∧
          (∀ (op a b : Word) (rest : List Word),
            exec (.unknownOperation req (op :: a :: b :: rest)) s =
              .next (s.answerAccess req op a b { status := .unknownTable, number := 0, data := [] })) ∧
          ∀ head : List Word, head.length < 3 →
            ∃ op a b : Word, head <+: [op, a, b] ∧
              exec (.unknownOperation req head) s =
                .next (s.answerAccess req op a b { status := .unknownTable, number := 0, data := [] })) ∧
  ∀ s : State, s.load ≠ .running →
    (∀ (c : Instr) (req : Request) (kind : Word), Sys2Proof.Machine.orderOf c = some (req, kind) →
      exec c s = .next (s.answerOrder req kind .busy)) ∧
      (∀ (c : Instr) (req : Request) (op a b : Word), Sys2Proof.Machine.accessOf c = some (req, op, a, b) →
        exec c s = .next (s.answerAccess req op a b { status := .busy, number := 0, data := [] })) ∧
      ∀ req : Request,
        (∃ kind : Word, exec (.unknownOrder req none) s = .next (s.answerOrder req kind .busy)) ∧
          ∀ head : List Word, head.length < 3 →
            ∃ op a b : Word, head <+: [op, a, b] ∧
              exec (.unknownOperation req head) s =
                .next (s.answerAccess req op a b { status := .busy, number := 0, data := [] })

/-- A good ORDER or TABLE ACCESS frame to the node's own address, to a group that the Node Table makes the node a member of,
or to 255 runs the command its payload spells, on the state whose port has heard it and which has relayed it; one to the
node's own address is not relayed (R107, R108, R109, R185, R187, R188, R190, R193, R199).  The request counts as the
node's own, and so can be answered, only where its destination is the node's address: one to a group or to 255 is run and
leaves no reply, at an unaddressed node too, and one to anyone else is relayed alone.
That the port is heard and the frame relayed first is the model's choice (assumption 20). -/
def Obligations.RequestFramesRunTheirCommands : Prop :=
  (∀ (p : Port) (f payload : List Byte) (s : State) (req : Request), s.atRest → frameGood f = true →
    payload = (f.drop 8).take (f.length - 10) →
    req =
      { port := p, source := f.getD 2 0xFF, tag := f.getD 3 0xFF, own := decide (s.address = some (f.getD 1 0xFF)) } →
      (s.isFor (f.getD 1 0xFF) →
        (f.head? = some 3 →
          exec (.frameArrival p f) s = exec (orderCommand req (wordsOf payload)) (s.carried p f)) ∧
          (f.head? = some 5 →
            exec (.frameArrival p f) s =
              exec (accessCommand req (wordsOf (payload.take 8)) (payload.drop 8)) (s.carried p f))) ∧
        (¬s.isFor (f.getD 1 0xFF) → f.head? = some 3 ∨ f.head? = some 5 →
          exec (.frameArrival p f) s = .next (s.carried p f))) ∧
    ∀ (req : Request) (kind op a b : Word) (r : OrderResult) (x : Answer) (s : State), req.own = false →
      s.answerOrder req kind r = s ∧ s.answerAccess req op a b x = s

/-! ## The response engine -/

/-- The fetch condition (R143, R172): with no fetch in flight, the head of the queue becomes the fetch where the Active
Table has a free slot or holds a lower precedence, and its slot is asked for: read at once where the store can read it,
else left waiting for the erase or the program, or behind the request the service has.

A dispatch request, wherever it comes from, by the first case that applies (R140 to R142): absent from the index; standing
in the queue, the fetch or the Active Table; queued behind every entry of equal or higher precedence; or, the queue full,
displacing a lower last entry or refused, with QUEUE_OVERFLOW.  RESPONSE RUN makes the request and answers with its outcome
(R152).
That a read holds the page as it stood when it began is the model's choice (assumption 24). -/
def Obligations.ResponseRunQueuesAndFetches : Prop :=
  (∀ (s : State) (h : Queued) (rest : List Queued) (fetching : EngineState),
    (s.engine.fetch.isSome = true ∨ s.engine.queue = [] → s.examineFetch = s) ∧
      (s.engine.fetch = none → s.engine.queue = h :: rest →
        fetching =
            { s.engine with
              queue := rest
              fetch := some { number := h.number, precedence := h.precedence, cancelled := false, disturbed := false } } →
          ((∀ k : Fin 4, ∃ r, s.engine.active[k] = some r ∧ h.precedence ≤ r.precedence) → s.examineFetch = s) ∧
            ((∃ k : Fin 4, ∀ r, s.engine.active[k] = some r → r.precedence < h.precedence) →
              s.examineFetch =
                { s with
                  engine := fetching
                  store :=
                    if s.store.service = .idle then
                      { s.store with
                        service :=
                          if s.store.mode = .ready ∨ s.store.mode = .eraseSet ∨ s.store.mode = .programSet then
                            .reading h.number false (s.store.page ⟨h.number.val / 4, by omega⟩)
                          else .waiting h.number false }
                    else
                      { s.store with
                        behind := s.store.behind ++ [{ number := h.number, dropped := false }] } }))) ∧
    (∀ (n : Fin 128) (s : State),
      (s.engine.index[n] = none → s.dispatch n = (s.latch .responseAbsent, .absent)) ∧
        ∀ info : IndexInfo, s.engine.index[n] = some info →
          (n ∈ s.engine.numbers →
            s.dispatch n =
              ({ s with
                engine :=
                  { s.engine with
                    fetch :=
                      s.engine.fetch.map fun f => if f.number = n then { f with cancelled := false } else f } }, .done)) ∧
            (n ∉ s.engine.numbers →
              ∀ placed : List Queued → State,
                (∀ q, placed q =
                  { s with
                    engine :=
                      { s.engine with
                        queue :=
                          q.takeWhile (fun a => decide (info.precedence ≤ a.precedence)) ++
                            { number := n, precedence := info.precedence } ::
                              q.dropWhile (fun a => decide (info.precedence ≤ a.precedence)) } }) →
                  (s.engine.queue.length < 4 →
                    s.dispatch n = ((placed s.engine.queue).examineFetch, .done)) ∧
                    ∀ last : Queued, 4 ≤ s.engine.queue.length → s.engine.queue.getLast? = some last →
                      (last.precedence < info.precedence →
                        s.dispatch n =
                          (((placed s.engine.queue.dropLast).latch .queueOverflow).examineFetch, .done)) ∧
                        (info.precedence ≤ last.precedence →
                          s.dispatch n = (s.latch .queueOverflow, .queueFull)))) ∧
    ∀ (req : Request) (number : Word) (s : State), s.atRest → s.load = .running →
      (127 < number.toNat → exec (.responseRun req number) s = .next (s.answerOrder req 12 .unknownTarget)) ∧
        ∀ n : Fin 128, number.toNat = n.val →
          exec (.responseRun req number) s =
            .next
              ((s.dispatch n).1.answerOrder req 12
                (match (s.dispatch n).2 with | .absent => .absent | .done => .done | .queueFull => .queueFull))

/-- A cancel request, wherever it comes from, at the place where the number stands (R150, R151): out of the queue; out of the
Active Table with its demands withdrawn, which may leave the engine idle; or marked in the fetch.  RESPONSE CANCEL makes the
request and is answered DONE wherever the number stands (R152). -/
def Obligations.ResponseCancelEndsItWhereItStands : Prop :=
  (∀ (n : Fin 128) (s : State), s.engine.orderly →
    (n ∉ s.engine.numbers → s.cancel n = s) ∧
      (n ∈ s.engine.queue.map Queued.number →
        s.cancel n =
          ({ s with
            engine :=
              { s.engine with queue := s.engine.queue.filter fun q => decide (q.number ≠ n) } } : State).examineFetch) ∧
      (∀ f : Fetch, s.engine.fetch = some f → f.number = n →
        s.cancel n = { s with engine := { s.engine with fetch := some { f with cancelled := true } } }) ∧
      ∀ (k : Fin 4) (r : ActiveResponse) (freed : State), s.engine.active[k] = some r → r.number = n →
        freed = { s.withdrawSlot k with engine := { s.engine with active := s.engine.active.set k none } } →
          s.cancel n =
            if (∀ j : Fin 4, j ≠ k → s.engine.active[j] = none) ∧ s.engine.queue = [] ∧ s.engine.fetch = none then
              freed.latch .engineIdle
            else freed.examineFetch) ∧
    ∀ (req : Request) (number : Word) (s : State), s.atRest → s.load = .running →
      (127 < number.toNat → exec (.responseCancel req number) s = .next (s.answerOrder req 13 .unknownTarget)) ∧
        ∀ n : Fin 128, number.toNat = n.val →
          exec (.responseCancel req number) s = .next ((s.cancel n).followed.answerOrder req 13 .done)

/-- INCIDENT ON and INCIDENT CLEAR (R154 to R156): the order is answered DONE whatever the mode; ON enters INCIDENT from
the other modes and CLEAR leaves it for MAINTENANCE or NORMAL as the key stands.

A change of node mode, step by step (R76, R95, R97, R156): the mode is set; every gallery fan's pressurisation slot is
recomputed, in fan order; on entering INCIDENT each door out of service is derived from its contacts, its events
latched and its keys taken in door order; MODE_CHANGE is latched; and MODE_ENTERED with the new mode is taken.
That the doors are derived in door order, and that their keys are taken when every door has been derived, are the model's
choices (assumptions 49, 12). -/
def Obligations.IncidentOrdersChangeTheMode : Prop :=
  (∀ (req : Request) (s : State), s.atRest → s.load = .running →
    exec (.incidentOn req) s =
        .next
          (((if s.engine.mode = .incident then s else s.changeMode .incident).settle).answerOrder req 10 .done) ∧
      exec (.incidentClear req) s =
        .next
          (((if s.engine.mode = .incident then
              s.changeMode (if s.signalActive .maintKey = true then .maintenance else .normal)
            else s).settle).answerOrder req 11 .done)) ∧
    ∀ (s gallery served : State) (m : NodeMode) (back : List (Fin 6))
      (out : Fin 6 → Door × List KeyKind × Option EventKind), s.keys = [] →
      gallery =
          ((List.finRange 6).filter fun f => (s.fanTable[f]).gallery).foldl (fun u f => u.recomputePressurisation f)
            { s with engine := { s.engine with mode := m } } →
      back = (List.finRange 6).filter (fun d => decide (m = .incident ∧ (s.doors[d]).mode = .outOfService)) →
      (∀ d : Fin 6,
        out d =
          Door.derived s.doorTable[d] (s.assigned (.doorClosed d) && s.assigned (.doorOpen d)) (s.shows d) s.doors[d]) →
      served =
          State.takes
            ((back.filterMap fun d => (out d).2.2).foldl State.latch
              { gallery with doors := tabulate fun d => if d ∈ back then (out d).1 else s.doors[d] })
            (back.flatMap fun d => (out d).2.1.map fun kind => { kind := kind, index := d.val }) →
        s.changeMode m =
          (served.latch .modeChange).takeKey
            { kind := .modeEntered
              index := match m with | .normal => 0 | .incident => 1 | .maintenance => 2 }

/-- The end of a slot read under a fetch that comes to nothing (R144, R172): an invalid page, a slot that does not hold the
response, a disturbed fetch, or a response that no slot of the Active Table may take, latch RESPONSE_ABSENT; a cancelled
fetch does nothing; a dropped read hands its result to nobody.  The fetch unit is then free and examined again.  With no
read under way nothing happens (the model's choice, assumption 21).

The end of a slot read that activates its response (R69, R87, R88, R144 to R147): it takes the lowest free slot of the
Active Table, or the slot of the lowest precedence, the latest of equals, where its own is higher; it is entered with the
next activation sequence and its hold time; response slot k of each present fan it names holds the demand of the last
action naming it and of no other fan; the doors it holds are held.  This outcome is stated for a response that does not
enter INCIDENT, where no trigger entry names DOOR_OPENED and the activation sequence counter has room.

The same activation step by step, for every response (R145 to R147): a preempted response latches RESPONSE_PREEMPTED
first; the counter is made ready, active responses and the fans' slots renumbered from 1 where it is full; the fans are
written and resolved in fan order, the doors held, released or opened in door order and their keys taken; a NOTICE frame
is queued for each NOTICE action; and a response that ENTERs changes the mode to INCIDENT.
That the fetch unit is free from the start of the completion, that the preemption is latched first, the order of the
doors, and when their keys are taken are the model's choices (assumptions 31, 41, 42, 12). -/
def Obligations.FetchCompletionActivatesOrDiscards : Prop :=
  (∀ s : State, s.atRest → (∀ n dropped page, s.store.service ≠ .reading n dropped page) →
    exec .fetchCompletion s = .next s) ∧
  (∀ (s : State) (n : Fin 128) (dropped : Bool) (page : List Byte) (idle : State), s.atRest →
    s.store.service = .reading n dropped page → idle = { s.endRead with engine := { s.engine with fetch := none } } →
      ((dropped = true ∨ s.engine.fetch = none) → exec .fetchCompletion s = .next s.endRead) ∧
        ∀ (f : Fetch) (record : Option ResponseRecord), dropped = false → s.engine.fetch = some f →
          record =
              (if pageValid page = true then
                slotRecord ((page.drop (128 * (f.number.val % 4))).take 128) f.number
              else none) →
            ((f.disturbed = true ∨ record = none) →
              exec .fetchCompletion s = .next ((idle.latch .responseAbsent).examineFetch)) ∧
              ∀ r : ResponseRecord, f.disturbed = false → record = some r →
                (f.cancelled = true → exec .fetchCompletion s = .next idle.examineFetch) ∧
                  (f.cancelled = false →
                    (∀ k : Fin 4, ∃ a, s.engine.active[k] = some a ∧ r.precedence ≤ a.precedence) →
                      exec .fetchCompletion s = .next ((idle.latch .responseAbsent).examineFetch))) ∧
    (∀ (s : State) (page : List Byte) (f : Fetch) (r : ResponseRecord) (k : Fin 4), s.atRest →
    s.store.service = .reading f.number false page → s.engine.fetch = some f → f.disturbed = false →
    f.cancelled = false → pageValid page = true →
    slotRecord ((page.drop (128 * (f.number.val % 4))).take 128) f.number = some r → r.enter = false →
    s.noTriggerOn [.doorOpened] → s.demandsActive → s.engine.sequence < 4294967295 →
    ((s.engine.active[k] = none ∧ ∀ j : Fin 4, j < k → (s.engine.active[j]).isSome = true) ∨
        ∃ v : ActiveResponse,
          s.engine.active[k] = some v ∧ v.precedence < r.precedence ∧
            ∀ (j : Fin 4), ∃ a : ActiveResponse,
              s.engine.active[j] = some a ∧
                (j = k ∨ v.precedence < a.precedence ∨ (v.precedence = a.precedence ∧ a.sequence < v.sequence))) →
      ∃ t : State,
        exec .fetchCompletion s = .next t ∧ t.engine.sequence = s.engine.sequence + 1 ∧
          t.engine.active =
            s.engine.active.set k
              (some
                { number := f.number, precedence := r.precedence, enter := false, successor := r.successor
                  hold := if r.holdTime = 0 then none else some (r.holdTime * 1000)
                  sequence := s.engine.sequence + 1 }) ∧
          (∀ g : Fin 6,
            (t.fans[g]).lineSlot = (s.fans[g]).lineSlot ∧
              (∀ j : Fin 4, j ≠ k → (t.fans[g]).responseSlots[j] = (s.fans[g]).responseSlots[j]) ∧
              (t.fans[g]).responseSlots[k] =
                if (s.fanTable[g]).present = true then
                  ((r.actions.filterMap fun a =>
                    match a with
                    | .fanRun h dir speed rate =>
                      if h = g then
                        some { precedence := r.precedence, direction := dir, speed := speed, rate := rate : Demand }
                      else none
                    | .fanHoldStop h =>
                      if h = g then
                        some
                          { precedence := r.precedence, direction := .fwd, speed := 0
                            rate := (s.fanTable[g]).defaultRate : Demand }
                      else none
                    | _ => none).getLast?).map fun d => { demand := d, sequence := s.engine.sequence + 1 }
                else none) ∧
          ∀ d : Fin 6,
            (∀ j : Fin 4, j ≠ k → (t.doors[d]).responseHolds[j] = (s.doors[d]).responseHolds[j]) ∧
              ((t.doors[d]).responseHolds[k] = true ↔
                (s.doorTable[d]).present = true ∧ ∃ set : BitVec 6, .doorHold set ∈ r.actions ∧ set.getLsbD d.val = true)) ∧
    (∀ (s pre ready fanned doored noticed : State) (page : List Byte) (f : Fetch) (r : ResponseRecord) (k : Fin 4)
      (sequence : Nat) (demand : Fin 6 → Option Demand) (out : Fin 6 → Door × Bool), s.atRest →
      s.store.service = .reading f.number false page → s.engine.fetch = some f → f.disturbed = false →
      f.cancelled = false → pageValid page = true →
      slotRecord ((page.drop (128 * (f.number.val % 4))).take 128) f.number = some r →
      ((s.engine.active[k] = none ∧ (∀ j : Fin 4, j < k → (s.engine.active[j]).isSome = true) ∧
          pre = { s.endRead with engine := { s.engine with fetch := none } }) ∨
        ∃ v : ActiveResponse,
          s.engine.active[k] = some v ∧ v.precedence < r.precedence ∧
            (∀ (j : Fin 4), ∃ a : ActiveResponse,
              s.engine.active[j] = some a ∧
                (j = k ∨ v.precedence < a.precedence ∨ (v.precedence = a.precedence ∧ a.sequence < v.sequence))) ∧
            pre =
              ({ s.endRead with
                engine :=
                  { s.engine with fetch := none, active := s.engine.active.set k none } } : State).latch
                .responsePreempted) →
      ready = pre.readySequence → sequence = ready.engine.sequence + 1 →
      (∀ g : Fin 6,
        demand g =
          if (s.fanTable[g]).present = true then
            ((r.actions.filterMap fun a =>
              match a with
              | .fanRun h dir speed rate =>
                if h = g then
                  some { precedence := r.precedence, direction := dir, speed := speed, rate := rate : Demand }
                else none
              | .fanHoldStop h =>
                if h = g then
                  some
                    { precedence := r.precedence, direction := .fwd, speed := 0
                      rate := (s.fanTable[g]).defaultRate : Demand }
                else none
              | _ => none).getLast?)
          else none) →
      fanned =
          (List.finRange 6).foldl
            (fun u g =>
              if demand g = none ∧ (u.fans[g]).responseSlots[k] = none then u
              else
                ({ u with
                  fans :=
                    u.fans.set g
                      { u.fans[g] with
                        responseSlots :=
                          (u.fans[g]).responseSlots.set k
                            ((demand g).map fun d => { demand := d, sequence := sequence }) } } : State).resolveFan g)
            { ready with
              engine :=
                { ready.engine with
                  sequence := sequence
                  active :=
                    ready.engine.active.set k
                      (some
                        { number := f.number, precedence := r.precedence, enter := r.enter, successor := r.successor
                          hold := if r.holdTime = 0 then none else some (r.holdTime * 1000), sequence := sequence }) } } →
      (∀ d : Fin 6,
        out d =
          if (s.doorTable[d]).present = true ∧ ∃ set : BitVec 6, .doorHold set ∈ r.actions ∧ set.getLsbD d.val = true then
            Door.asked s.doorTable[d] (s.shows d)
              { s.doors[d] with responseHolds := (s.doors[d]).responseHolds.set k true }
          else if (s.doorTable[d]).present = true ∧
              ∃ set : BitVec 6, .doorOpen set ∈ r.actions ∧ set.getLsbD d.val = true then
            Door.asked s.doorTable[d] (s.shows d) (Door.released s.doorTable[d] k s.doors[d])
          else (Door.released s.doorTable[d] k s.doors[d], false)) →
      doored =
          State.takes { fanned with doors := tabulate fun d => (out d).1 }
            (((List.finRange 6).filter fun d => (out d).2).map fun d => { kind := .doorOpened, index := d.val }) →
      noticed =
          (r.actions.filterMap fun a => match a with | .notice code => some code | _ => none).foldl
            (fun u code => u.notify code) doored →
        exec .fetchCompletion s =
          .next
            ((if r.enter = true ∧ noticed.engine.mode ≠ .incident then noticed.changeMode .incident
              else noticed).examineFetch.settle)) ∧
    ((∀ (s : State) (code a : Byte) (body : List Byte),
      (s.address = none → s.notify code = s) ∧
        (s.address = some a →
          body = [7, 255, a, 0, s.cycle.number.extractLsb' 8 8, s.cycle.number.extractLsb' 0 8, 1, 0, code] →
            s.notify code =
              s.queueToAll (body ++ [(checkOf body).extractLsb' 8 8, (checkOf body).extractLsb' 0 8]))) ∧
    ∀ (s : State) (rank : Nat → Nat),
      (∀ q : Nat,
        rank q =
          1 + ((List.finRange 4).filter fun j => (s.engine.active[j]).any fun a => decide (a.sequence < q)).length) →
        (s.engine.sequence < 4294967295 → s.readySequence = s) ∧
          (4294967295 ≤ s.engine.sequence →
            s.readySequence =
              { s with
                engine :=
                  { s.engine with
                    sequence := ((List.finRange 4).filter fun j => (s.engine.active[j]).isSome).length
                    active :=
                      tabulate fun j => (s.engine.active[j]).map fun a => { a with sequence := rank a.sequence } }
                fans :=
                  tabulate fun g =>
                    { s.fans[g] with
                      responseSlots :=
                        tabulate fun j =>
                          match s.engine.active[j] with
                          | none => (s.fans[g]).responseSlots[j]
                          | some a =>
                            ((s.fans[g]).responseSlots[j]).map fun d => { d with sequence := rank a.sequence } } }))

/-- The expiry of a hold timer (R148, R149, R151): the response ends, its demands withdrawn from every fan and door and its
slot free, and its successor is dispatched by the first case that applies (R140 to R142): absent from the index, with
RESPONSE_ABSENT; standing in the queue, the fetch or the Active Table once the slot is free; queued behind every entry of
equal or higher precedence; or, the queue full, displacing a lower last entry or refused, with QUEUE_OVERFLOW.  ENGINE_IDLE
is latched where nothing is active, queued or in fetch after that, and only there; else the fetch condition is examined.
Nothing else changes but that driven pins follow their outputs.  A slot whose hold timer has not run down to 0 is left
alone.

What withdrawing an Active Table slot's demands does (R70, R88, R92): response slot k of every fan that had one is
absent and that fan is resolved once; response hold slot k of every door is absent, and a door left unheld in OPEN
restarts its dwell; nothing else changes.
That an expiry stands at a timer of 0, and one not due changes nothing, are the model's choices (assumptions 22, 21). -/
def Obligations.HoldTimerExpiryWithdrawsTheResponse : Prop :=
  (∀ (k : Fin 4) (s : State), s.atRest →
    ((∀ r, s.engine.active[k] = some r → r.hold ≠ some 0) → exec (.holdTimerExpiry k) s = .next s) ∧
      ∀ (r : ActiveResponse) (freed : State) (ended : State → State),
        s.engine.active[k] = some r → r.hold = some 0 →
        freed = { s.withdrawSlot k with engine := { s.engine with active := s.engine.active.set k none } } →
        (∀ u, ended u =
          if (∀ j : Fin 4, u.engine.active[j] = none) ∧ u.engine.queue = [] ∧ u.engine.fetch = none then
            u.latch .engineIdle
          else u.examineFetch) →
          (r.successor = none → exec (.holdTimerExpiry k) s = .next (ended freed).followed) ∧
            ∀ n : Fin 128, r.successor = some n →
              (freed.engine.index[n] = none →
                exec (.holdTimerExpiry k) s = .next (ended (freed.latch .responseAbsent)).followed) ∧
                ∀ info : IndexInfo, freed.engine.index[n] = some info →
                  (n ∈ freed.engine.numbers →
                    exec (.holdTimerExpiry k) s =
                      .next
                        (ended
                          { freed with
                            engine :=
                              { freed.engine with
                                fetch :=
                                  freed.engine.fetch.map fun f =>
                                    if f.number = n then { f with cancelled := false } else f } }).followed) ∧
                    (n ∉ freed.engine.numbers →
                      ∀ placed : List Queued → State,
                        (∀ q, placed q =
                          { freed with
                            engine :=
                              { freed.engine with
                                queue :=
                                  q.takeWhile (fun a => decide (info.precedence ≤ a.precedence)) ++
                                    { number := n, precedence := info.precedence } ::
                                      q.dropWhile (fun a => decide (info.precedence ≤ a.precedence)) } }) →
                          (freed.engine.queue.length < 4 →
                            exec (.holdTimerExpiry k) s =
                              .next (placed freed.engine.queue).examineFetch.followed) ∧
                            ∀ last : Queued, 4 ≤ freed.engine.queue.length → freed.engine.queue.getLast? = some last →
                              (last.precedence < info.precedence →
                                exec (.holdTimerExpiry k) s =
                                  .next
                                    ((placed freed.engine.queue.dropLast).latch
                                      .queueOverflow).examineFetch.followed) ∧
                                (info.precedence ≤ last.precedence →
                                  exec (.holdTimerExpiry k) s =
                                    .next (ended (freed.latch .queueOverflow)).followed))) ∧
    (∀ (k : Fin 4) (s : State),
    s.withdrawSlot k =
      { s with
        fans :=
          tabulate fun f =>
            if (s.fans[f]).responseSlots[k] = none then s.fans[f]
            else
              (({ s with
                fans :=
                  s.fans.set f
                    { s.fans[f] with responseSlots := (s.fans[f]).responseSlots.set k none } } : State).resolveFan f).fans[f]
        doors :=
          tabulate fun d =>
            if (s.doors[d]).responseHolds[k] = false then s.doors[d]
            else
              { s.doors[d] with
                responseHolds := (s.doors[d]).responseHolds.set k false
                dwellTimer :=
                  if (s.doors[d]).mode = .opened ∧ (s.doors[d]).lineHold = false ∧
                      ∀ j : Fin 4, j ≠ k → (s.doors[d]).responseHolds[j] = false then
                    (s.doorTable[d]).dwell * 100
                  else (s.doors[d]).dwellTimer } })

/-- A trigger key makes the requests of the entries that match it, entries 0 to 63 in order, all under the mode standing
when it is taken (R134, R137): enabled, of its kind, by index, class or any, with the level operand met, and admitted by
the mode filter.

The end of an event (R134, R182): every key it has emitted is taken whole, in the order of their emission, none is left
waiting, and then the driven pins follow their outputs.
That the keys are taken at the end of the event's work, and the pins follow once, are the model's (assumptions 12, 54). -/
def Obligations.TriggerKeyRunsItsMatchingEntriesInOrder : Prop :=
  (∀ s : State, s.settle = (State.takes { s with keys := [] } s.keys).followed) ∧
  ∀ (s : State) (k : Key) (matching : Fin 64 → Bool),
    (∀ i : Fin 64, matching i = true ↔
      (s.triggerTable[i]).enabled = true ∧ (s.triggerTable[i]).kind = k.kind ∧
        ((s.triggerTable[i]).selector = .index → (s.triggerTable[i]).selectorValue = (k.index : Int)) ∧
        ((s.triggerTable[i]).selector = .cls →
          ∃ c : SensorClass, k.cls = some c ∧ (s.triggerTable[i]).selectorValue = (c.code : Int)) ∧
        (k.kind = .levelUp → (s.triggerTable[i]).levelOperand ≤ k.level) ∧
        (k.kind = .levelDown → k.level ≤ (s.triggerTable[i]).levelOperand) ∧
        (s.triggerTable[i]).modeFilter.getLsbD
          (match s.engine.mode with | .normal => 0 | .incident => 1 | .maintenance => 2) = true) →
      s.takeKey k =
        ((List.finRange 64).filter matching).foldl
          (fun u i =>
            if (s.triggerTable[i]).action = .dispatch then (u.dispatch (s.triggerTable[i]).response).1
            else u.cancel (s.triggerTable[i]).response)
          s

/-! ## The retained store -/

/-- STORE STATUS answers in every store state with the state, the flags, the two pages (−1 for none), the pulses and the
supply (R165); STORE CLEAR STATUS clears the five error flags, and is BUSY in an operation (R165).

ERASE SETUP and PROGRAM SETUP outside the setup states (R166): BUSY in an operation, OUT_OF_FIELD for a page past 47,
BUSY while the supply error stands, and otherwise the setup of the page.

In a setup state, each of the store commands but STORE STATUS and STORE CONFIRM breaks the sequence (R167): the setup
is gone, the store is READY with the sequence error set, and the command is answered SEQUENCE and not executed.
Word 3 of a STORE STATUS reply is left open, and 0 in word 3 of every other reply here is the model's reading (assumptions
5, 29). -/
def Obligations.StoreStatusClearAndSetup : Prop :=
  (∀ (c : Instr) (req : Request) (op a b : Word) (s : State), s.load = .running →
      (s.store.mode = .eraseSet ∨ s.store.mode = .programSet) → Sys2Proof.Machine.accessOf c = some (req, op, a, b) →
      8 ≤ op.toNat → op.toNat ≤ 13 → (∀ head, c ≠ .unknownOperation req head) →
        exec c s =
          .next
            (({ s with
              store := { s.store with mode := .ready, setupPage := none, sequenceError := true } } : State).answerAccess
              req op a b { status := .sequence, number := 0, data := [] })) ∧
  (∀ (req : Request) (a b : Word) (s : State), s.load = .running →
    (∃ count : Word,
      exec (.storeStatus req a b) s =
        .next
          (s.answerAccess req 7 a b
            { status := .ok
              number := count
              data :=
                bytesOf
                  [match s.store.mode with
                    | .ready => 0 | .eraseSet => 1 | .programSet => 2 | .erasing => 3 | .eraseSuspended => 4
                    | .programming => 5,
                    (0 : BitVec 9) ++ BitVec.ofBool s.store.protectError ++ BitVec.ofBool s.store.sequenceError ++
                      BitVec.ofBool s.store.supplyError ++ BitVec.ofBool s.store.programError ++
                      BitVec.ofBool s.store.eraseError ++ BitVec.ofBool (decide (s.store.mode = .eraseSuspended)) ++
                      BitVec.ofBool
                        (decide (s.store.mode = .erasing) || decide (s.store.mode = .eraseSuspended) ||
                          decide (s.store.mode = .programming)),
                    s.store.setupPage.elim 0xFFFF fun p => BitVec.ofNat 16 p.val,
                    s.store.operationPage.elim 0xFFFF fun p => BitVec.ofNat 16 p.val,
                    BitVec.ofNat 16 s.store.pulses, if s.supplyOk then 1 else 0] })) ∧
      (s.store.mode = .erasing ∨ s.store.mode = .eraseSuspended ∨ s.store.mode = .programming →
        exec (.storeClearStatus req a b) s =
          .next (s.answerAccess req 8 a b { status := .busy, number := 0, data := [] })) ∧
      (s.store.mode = .ready →
        exec (.storeClearStatus req a b) s =
          .next
            (({ s with
              store :=
                { s.store with
                  eraseError := false, programError := false, supplyError := false, sequenceError := false
                  protectError := false } } : State).answerAccess req 8 a b { status := .ok, number := 0, data := [] }))) ∧
    (∀ (req : Request) (page b : Word) (s : State) (c : Instr) (op : Word) (mode : StoreMode), s.load = .running →
    ((c = .eraseSetup req page b ∧ op = 12 ∧ mode = .eraseSet) ∨
      (c = .programSetup req page b ∧ op = 13 ∧ mode = .programSet)) →
      (s.store.mode = .erasing ∨ s.store.mode = .eraseSuspended ∨ s.store.mode = .programming →
        exec c s = .next (s.answerAccess req op page b { status := .busy, number := 0, data := [] })) ∧
        (s.store.mode = .ready →
          (48 ≤ page.toNat →
            exec c s = .next (s.answerAccess req op page b { status := .outOfField, number := 0, data := [] })) ∧
            ∀ p : Fin 48, page.toNat = p.val →
              (s.store.supplyError = true →
                exec c s = .next (s.answerAccess req op page b { status := .busy, number := 0, data := [] })) ∧
                (s.store.supplyError = false →
                  exec c s =
                    .next
                      (({ s with store := { s.store with mode := mode, setupPage := some p } } : State).answerAccess req
                        op page b { status := .ok, number := 0, data := [] }))))

/-- STORE READ and STAGING READ (R164, R165): up to 96 bytes from an offset of a page or of the staging buffer, cut short
with OUT_OF_FIELD at byte 511; a page, offset or length out of range is refused, and a page is not read in an operation.

STAGING WRITE (R164): its bytes go into the staging buffer from the offset on, every other byte of the buffer reads as
before, and nothing else changes; a write without bytes or past byte 511 is refused whole.
Word 3 of a BAD_ENTRY reply is left open, and 0 in word 3 of the reply to a STAGING WRITE or of a refusal is the model's
reading (assumptions 6, 29). -/
def Obligations.StoreBytesAreReadAndWritten : Prop :=
  (∀ (req : Request) (x offset length : Word) (s : State) (o n : Nat), s.load = .running → o = offset.toNat →
    n = length.toNat →
      (s.store.mode = .erasing ∨ s.store.mode = .eraseSuspended ∨ s.store.mode = .programming →
          exec (.storeRead req x offset length) s =
            .next (s.answerAccess req 9 x offset { status := .busy, number := 0, data := [] })) ∧
        (s.store.mode = .ready →
          ((n = 0 ∨ 96 < n) →
            ∃ index : Word,
              exec (.storeRead req x offset length) s =
                .next (s.answerAccess req 9 x offset { status := .badEntry, number := index, data := [] })) ∧
            (0 < n → n ≤ 96 → 48 ≤ x.toNat ∨ 512 ≤ o →
              exec (.storeRead req x offset length) s =
                .next (s.answerAccess req 9 x offset { status := .outOfField, number := 0, data := [] })) ∧
            ∀ p : Fin 48, 0 < n → n ≤ 96 → x.toNat = p.val → o < 512 →
              exec (.storeRead req x offset length) s =
                .next
                  (s.answerAccess req 9 x offset
                    { status := if o + n ≤ 512 then .ok else .outOfField
                      number := BitVec.ofNat 16 (min n (512 - o))
                      data := ((s.store.page p).drop o).take n })) ∧
        (s.store.mode ≠ .eraseSet → s.store.mode ≠ .programSet →
          ((n = 0 ∨ 96 < n) →
            ∃ index : Word,
              exec (.stagingRead req x offset length) s =
                .next (s.answerAccess req 11 x offset { status := .badEntry, number := index, data := [] })) ∧
            (0 < n → n ≤ 96 → 512 ≤ o →
              exec (.stagingRead req x offset length) s =
                .next (s.answerAccess req 11 x offset { status := .outOfField, number := 0, data := [] })) ∧
            (0 < n → n ≤ 96 → o < 512 →
              exec (.stagingRead req x offset length) s =
                .next
                  (s.answerAccess req 11 x offset
                    { status := if o + n ≤ 512 then .ok else .outOfField
                      number := BitVec.ofNat 16 (min n (512 - o))
                      data := ((Mem.readBytes s.store.staging 0 512).drop o).take n })))) ∧
    (∀ (req : Request) (x offset : Word) (data : List Byte) (s : State), s.load = .running →
    s.store.mode ≠ .eraseSet → s.store.mode ≠ .programSet →
      (data = [] →
        ∃ index : Word,
          exec (.stagingWrite req x offset data) s =
            .next (s.answerAccess req 10 x offset { status := .badEntry, number := index, data := [] })) ∧
        (data ≠ [] → 512 < offset.toNat + data.length →
          exec (.stagingWrite req x offset data) s =
            .next (s.answerAccess req 10 x offset { status := .outOfField, number := 0, data := [] })) ∧
        (data ≠ [] → offset.toNat + data.length ≤ 512 →
          ∃ staging : Mem,
            exec (.stagingWrite req x offset data) s =
                .next
                  (({ s with store := { s.store with staging := staging } } : State).answerAccess req 10 x offset
                    { status := .ok, number := 0, data := [] }) ∧
              ∀ i : Nat,
                Mem.read staging i =
                  if offset.toNat ≤ i ∧ i < offset.toNat + data.length then data.getD (i - offset.toNat) 0
                  else Mem.read s.store.staging i))

/-- STORE CONFIRM (R139, R167 to R171): BUSY in an operation; SEQUENCE without a setup, or for a page other than the
setup's, which is then gone; PROTECTED for a page of 0 to 7 without the commissioning key; else the operation begins, or
is aborted where the supply is low.  A response page's index entries are absent from then on, its queue entries are
removed and its fetch is disturbed.
The order within an abort at the CONFIRM, program data of FFh after it, and 0 in word 3 of the replies are the model's
(assumptions 17, 48, 29). -/
def Obligations.ConfirmBeginsTheOperation : Prop :=
  ∀ (req : Request) (page b : Word) (s : State), s.load = .running →
    (s.store.mode = .erasing ∨ s.store.mode = .eraseSuspended ∨ s.store.mode = .programming →
      exec (.storeConfirm req page b) s =
        .next (s.answerAccess req 14 page b { status := .busy, number := 0, data := [] })) ∧
      (s.store.mode = .ready →
        exec (.storeConfirm req page b) s =
          .next
            (({ s with store := { s.store with sequenceError := true } } : State).answerAccess req 14 page b
              { status := .sequence, number := 0, data := [] })) ∧
      (s.store.mode = .eraseSet ∨ s.store.mode = .programSet →
        ((∀ p : Fin 48, s.store.setupPage = some p → page.toNat ≠ p.val) →
          exec (.storeConfirm req page b) s =
            .next
              (({ s with
                store := { s.store with mode := .ready, setupPage := none, sequenceError := true } } : State).answerAccess
                req 14 page b { status := .sequence, number := 0, data := [] })) ∧
          ∀ p : Fin 48, s.store.setupPage = some p → page.toNat = p.val →
            (p.val < 8 → s.signalActive .commissionKey = false →
              exec (.storeConfirm req page b) s =
                .next
                  (({ s with
                    store :=
                      { s.store with mode := .ready, setupPage := none, protectError := true } } : State).answerAccess
                    req 14 page b { status := .guarded, number := 0, data := [] })) ∧
              (8 ≤ p.val ∨ s.signalActive .commissionKey = true →
                ∀ (begun told : State) (kept : List Queued),
                  begun =
                      (if s.supplyOk = true then
                        { s with
                          store :=
                            { s.store with
                              mode := if s.store.mode = .eraseSet then .erasing else .programming
                              setupPage := none
                              operationPage := some p
                              pulses := if s.store.mode = .eraseSet then 0 else s.store.pulses
                              programData :=
                                if s.store.mode = .eraseSet then s.store.programData else s.store.staging } }
                      else
                        ({ s with
                          store :=
                            { s.store with
                              mode := .ready, setupPage := none, operationPage := none, pulses := 0
                              programData := [], supplyError := true } } : State).latch .storeError) →
                    kept = s.engine.queue.filter (fun q => decide (q.number.val / 4 ≠ p.val)) →
                    told =
                        { begun with
                          engine :=
                            { s.engine with
                              index := tabulate fun n => if n.val / 4 = p.val then none else s.engine.index[n]
                              queue := kept
                              fetch :=
                                s.engine.fetch.map fun f =>
                                  if f.number.val / 4 = p.val then { f with disturbed := true } else f } } →
                      (32 ≤ p.val →
                        exec (.storeConfirm req page b) s =
                          .next (begun.answerAccess req 14 page b { status := .ok, number := 0, data := [] })) ∧
                        (p.val < 32 →
                          exec (.storeConfirm req page b) s =
                            .next
                              (((if kept = s.engine.queue then told
                                else told.latch .responseAbsent).examineFetch).answerAccess req 14 page b
                                { status := .ok, number := 0, data := [] }))))

/-- The end of an erase pulse and of a program (R169, R170, R172, R174): a pulse sets bits of the operation page and no
other; a blank page ends the erase, the eighth pulse that leaves it otherwise ends it with the erase error; a program
gives each byte the AND of its old value and the program data, and ends with the program error where that is not what was
asked.  A programmed response page's index entries are made from it.  Nothing happens outside those states, nor while a slot read
that began before the operation is under way.
What an end not due does, a pulse's end while a read waits, that bytes change at the ends alone, and program data of FFh
after an operation are the model's choices (assumptions 21, 25, 24, 48).

When a page is valid, and what a response slot holds (R138, R162, R200): its marker and number, the precedence and the hold
time clamped, the incident effect, the successor, and as many actions as the count up to 12, in order, those skipped that
name no fan, a notice code below 128 or no known kind. -/
def Obligations.ErasePulsesAndProgramEnd : Prop :=
  (∀ (body : List Byte) (m n c d : Byte), body.length = 508 →
      (pageValid (body ++ [m, n, c, d]) = true ↔ m = 0x5A ∧ n = 0xC3 ∧ c ++ d = checkOf body)) ∧
    (∀ (n : Fin 128) (m1 m0 number precedence enter successor h1 h0 count : Byte)
      (actions : List (Byte × Byte × Word × Word)) (rest slot : List Byte)
      (taken : Byte → Byte → Word → Word → Option Action),
      (∀ kind target a b, taken kind target a b =
        match kind.toNat with
        | 1 =>
          if h : target.toNat < 6 then
            some (.fanRun ⟨target.toNat, h⟩ .fwd (max 0 (min 1000 a.toInt)).toNat (max 1 (min 500 b.toInt)).toNat)
          else none
        | 2 =>
          if h : target.toNat < 6 then
            some (.fanRun ⟨target.toNat, h⟩ .rev (max 0 (min 1000 a.toInt)).toNat (max 1 (min 500 b.toInt)).toNat)
          else none
        | 3 => if h : target.toNat < 6 then some (.fanHoldStop ⟨target.toNat, h⟩) else none
        | 4 => some (.doorOpen (target.extractLsb' 0 6))
        | 5 => some (.doorHold (target.extractLsb' 0 6))
        | 6 => if 128 ≤ target.toNat then some (.notice target) else none
        | _ => none) →
      actions.length = min 12 count.toNat →
      slot =
          [m1, m0, number, precedence, enter, successor, h1, h0, count] ++
            (actions.flatMap fun x =>
              [x.1, x.2.1, x.2.2.1.extractLsb' 8 8, x.2.2.1.extractLsb' 0 8, x.2.2.2.extractLsb' 8 8,
                x.2.2.2.extractLsb' 0 8]) ++
            rest →
        (m1 ≠ 0x3C ∨ m0 ≠ 0x96 ∨ number.toNat ≠ n.val → slotRecord slot n = none) ∧
          (m1 = 0x3C → m0 = 0x96 → number.toNat = n.val →
            slotRecord slot n =
              some
                { precedence := max 1 (min 15 precedence.toNat)
                  enter := decide (enter = 1)
                  successor := if h : successor.toNat < 128 then some ⟨successor.toNat, h⟩ else none
                  holdTime := min 3600 (h1 ++ h0).toNat
                  actions := actions.filterMap fun x => taken x.1 x.2.1 x.2.2.1 x.2.2.2 })) ∧
    (∀ (cells : List Byte) (s : State), s.store.mode ≠ .erasing ∨ s.store.service ≠ .idle →
      exec (.erasePulseEnd cells) s = .next s) ∧
    (∀ s : State, (s.store.mode ≠ .programming ∨ ∃ n dropped page, s.store.service = .reading n dropped page) →
      exec .programCompletion s = .next s) ∧
    (∀ (cells : List Byte) (s pulsed : State) (p : Fin 48), s.store.mode = .erasing → s.store.operationPage = some p →
      s.store.service = .idle →
      pulsed =
          { s with
            store :=
              s.store.setPage p
                ((List.range 512).map fun i => (s.store.page p).getD i 0xFF ||| cells.getD i 0xFF) } →
        pulsed.store.page p = ((List.range 512).map fun i => (s.store.page p).getD i 0xFF ||| cells.getD i 0xFF) ∧
          (∀ q : Fin 48, q ≠ p → pulsed.store.page q = s.store.page q) ∧
        (pulsed.store.page p = List.replicate 512 0xFF →
          exec (.erasePulseEnd cells) s =
            .next
              (({ pulsed with
                store :=
                  { pulsed.store with mode := .ready, operationPage := none, pulses := 0, programData := [] } } : State).latch
                .storeDone)) ∧
          (pulsed.store.page p ≠ List.replicate 512 0xFF →
            (s.store.pulses < 7 →
              exec (.erasePulseEnd cells) s =
                .next { pulsed with store := { pulsed.store with pulses := s.store.pulses + 1 } }) ∧
              (7 ≤ s.store.pulses →
                exec (.erasePulseEnd cells) s =
                  .next
                    (({ pulsed with
                      store :=
                        { pulsed.store with
                          mode := .ready, operationPage := none, pulses := 0, programData := []
                          eraseError := true } } : State).latch .storeError)))) ∧
    ∀ (s written : State) (p : Fin 48) (asked given : List Byte), s.store.mode = .programming →
      s.store.operationPage = some p → (∀ n dropped page, s.store.service ≠ .reading n dropped page) →
        asked = Mem.readBytes s.store.programData 0 512 →
      given = List.zipWith (fun old new => old &&& new) (s.store.page p) asked →
      written =
          { s with
            store :=
              { s.store.setPage p given with
                mode := .ready, operationPage := none, pulses := 0, programData := []
                programError := s.store.programError || decide (given ≠ asked) } } →
        written.store.page p = given ∧ (∀ q : Fin 48, q ≠ p → written.store.page q = s.store.page q) ∧
        ∃ ended : State,
          ended = written.latch (if given = asked then .storeDone else .storeError) ∧
            exec .programCompletion s =
              .next
                (State.serveWaiting
                  (if p.val < 32 then
                    { ended with
                      engine :=
                        { s.engine with
                          index :=
                            tabulate fun n =>
                              if n.val / 4 = p.val then
                                if pageValid given = true then
                                  (slotRecord ((given.drop (128 * (n.val % 4))).take 128) n).map fun r =>
                                    { precedence := r.precedence, enter := r.enter }
                                else none
                              else s.engine.index[n] } }
                  else ended))

/-- The store supply and the suspension of an erase (R169, R171, R172, R173): a supply that goes low in an operation aborts
it with the supply error, leaves no byte of another page changed, and serves the request that waited; ERASE_SUSPEND breaks
the pulse off uncounted, with bytes of the page only gaining bits, and begins the read that waited; outside ERASING with a
read waiting it does nothing (the model's choice, assumption 21).

The end of a slot read (R171 to R173): an erase it suspended resumes in ERASING, or is READY where it was aborted
meanwhile; the request behind it is served next, by the store state it then finds, read at once or left waiting.  A
request that waits begins its read when the store can read again.
What the page in the operation holds is left open (assumption 1).  That a read holds the page as it stood when it began, and
program data of FFh after an abort, are the model's choices (assumptions 24, 48). -/
def Obligations.SupplyAbortsAndReadsSuspend : Prop :=
  ((∀ (level : Bool) (s : State),
      (level = s.supplyOk → exec (.smonChange level) s = .next s) ∧
        (level ≠ s.supplyOk → (level = true ∨ s.store.operationPage = none ∨ s.store.mode.busy = false) →
          exec (.smonChange level) s = .next { s with supplyOk := level }) ∧
        ∀ p : Fin 48, level = false → s.supplyOk = true → s.store.operationPage = some p → s.store.mode.busy = true →
          ∃ (cells : Mem) (drawn : Nat),
            (∀ q : Fin 48, q ≠ p → Mem.readBytes cells (512 * q.val) 512 = s.store.page q) ∧
              exec (.smonChange level) s =
                .next
                  ((({ s with
                    supplyOk := false
                    freeCount := drawn
                    store :=
                      { s.store with
                        mode := if s.store.mode = .eraseSuspended then .eraseSuspended else .ready
                        setupPage := none, operationPage := none, pulses := 0, programData := [], supplyError := true
                        cells := cells } } : State).latch .storeError).serveWaiting)) ∧
      (∀ s : State, s.store.mode ≠ .erasing ∨ (∀ n dropped, s.store.service ≠ .waiting n dropped) →
        exec .eraseSuspend s = .next s) ∧
      ∀ (s : State) (n : Fin 128) (dropped : Bool) (p : Fin 48), s.store.mode = .erasing →
        s.store.service = .waiting n dropped → s.store.operationPage = some p →
          ∃ (cells : Mem) (drawn : Nat) (broken : List Byte),
            exec .eraseSuspend s =
                .next
                  { s with
                    freeCount := drawn
                    store :=
                      { s.store with
                        mode := .eraseSuspended
                        cells := cells
                        service := .reading n dropped (Mem.readBytes cells (512 * (n.val / 4)) 512) } } ∧
              (∀ q : Fin 48, q ≠ p → Mem.readBytes cells (512 * q.val) 512 = s.store.page q) ∧
              Mem.readBytes cells (512 * p.val) 512 = broken ∧
              ∀ i : Nat, (s.store.page p).getD i 0xFF &&& broken.getD i 0xFF = (s.store.page p).getD i 0xFF) ∧
    ∀ (s : State) (served : StoreState → Fin 128 → Bool → StoreState) (resumed : StoreState),
      (∀ (x : StoreState) (n : Fin 128) (dropped : Bool),
        served x n dropped =
          { x with
            service :=
              if x.mode = .ready ∨ x.mode = .eraseSet ∨ x.mode = .programSet then
                .reading n dropped (Mem.readBytes x.cells (512 * (n.val / 4)) 512)
              else .waiting n dropped }) →
      resumed =
          { s.store with
            mode :=
              if s.store.mode = .eraseSuspended then if s.store.operationPage = none then .ready else .erasing
              else s.store.mode } →
        (s.store.behind = [] → s.endRead = { s with store := { resumed with service := .idle } }) ∧
          (∀ (r : SlotRequest) (rest : List SlotRequest), s.store.behind = r :: rest →
            s.endRead = { s with store := served { resumed with behind := rest } r.number r.dropped }) ∧
          (∀ (n : Fin 128) (dropped : Bool), s.store.service = .waiting n dropped →
            s.serveWaiting = { s with store := served s.store n dropped }) ∧
          ((∀ n dropped, s.store.service ≠ .waiting n dropped) → s.serveWaiting = s)

/-! ## Field points, tables and events -/

/-- Pin changes and acceptances (R181, R182): a driven pin and a pin that keeps its level change nothing; a released pin
that changes counts from 0, and at filter time 0 a level opposite the filtered one is accepted at once; an acceptance is
due where the count has reached the filter time.  An accepted level is the filtered level, and reaches the unit whose
input signal the point holds once the units have started.
That a driven pin keeps its level, that an acceptance not due changes nothing, and when keys are taken are the model's
choices (assumptions 13, 21, 12).

What an accepted level does to the fan or the engine it reaches (R46, R52, R55, R59, R84, R155): the confirm input
confirms a start and runs the confirm-loss timer; the isolator isolates any present drive and its release lets it coast;
a press is an open request; the maintenance key moves the node between NORMAL and MAINTENANCE; the commissioning key
moves nothing.

How signals and pins meet (R178, R182): a signal no point holds is inactive; one a point holds is active where the filtered
level is the one its polarity names; GENERAL_OUT drives the latch, an output signal what its unit drives, and every other
pin is released. -/
def Obligations.PinLevelsAreFilteredAndReachTheirUnits : Prop :=
  (∀ (s : State) (level : Polarity → Bool → Bool),
    (∀ p b, level p b = match p with | .activeHigh => b | .activeLow => !b) →
      (∀ sig : Signal,
        ((∀ n : Fin 64, (s.pointTable[n]).signal ≠ some sig) → s.assigned sig = false ∧ s.signalActive sig = false) ∧
          ∀ n : Fin 64, (s.pointTable[n]).signal = some sig →
            (∀ m : Fin 64, m ≠ n → (s.pointTable[m]).signal ≠ some sig) →
              s.assigned sig = true ∧
                s.signalActive sig = level (s.pointTable[n]).polarity (s.points[n]).filtered) ∧
        ∀ n : Fin 64,
          s.driveLevel n =
            (if (s.pointTable[n]).function = .generalOut then some (s.points[n]).latch
            else
              match (s.pointTable[n]).signal with
              | some (.fanRun f) =>
                some
                  (decide ((s.fans[f]).mode = .starting ∨ (s.fans[f]).mode = .running ∨ (s.fans[f]).mode = .stopping))
              | some (.fanReverse f) => some (decide ((s.fans[f]).direction = .rev))
              | some (.doorDriveOpen d) => some (decide ((s.doors[d]).mode = .opening))
              | some (.doorDriveClose d) => some (decide ((s.doors[d]).mode = .closing))
              | _ => none).map (level (s.pointTable[n]).polarity)) ∧
  (∀ (n : Fin 64) (high : Bool) (s : State) (x : Point) (e : PointEntry) (reached : State → State), s.atRest →
    x = s.points[n] → e = s.pointTable[n] →
    (∀ u, reached u =
      (match e.signal with
      | none => u
      | some sig =>
        if sig.isOutput = true ∨ s.load ≠ .running then u
        else
          (u.unitTakes sig
            (match e.polarity with | .activeHigh => (u.points[n]).filtered | .activeLow => !(u.points[n]).filtered)).settle)) →
      (((s.driveLevel n).isSome = true ∨ x.pin = high) → exec (.pinChange n high) s = .next s) ∧
        (s.driveLevel n = none → x.pin ≠ high →
          (high = x.filtered ∨ 0 < e.filterTime →
            exec (.pinChange n high) s =
              .next { s with points := s.points.set n { x with pin := high, hold := 0 } }) ∧
            (high ≠ x.filtered → e.filterTime = 0 →
              exec (.pinChange n high) s =
                .next
                  (reached
                    { s with points := s.points.set n { x with pin := high, filtered := high, hold := 0 } }))) ∧
        ((x.pin = x.filtered ∨ x.hold < e.filterTime) → exec (.filterAccept n) s = .next s) ∧
        (x.pin ≠ x.filtered → e.filterTime ≤ x.hold →
          exec (.filterAccept n) s =
            .next (reached { s with points := s.points.set n { x with filtered := x.pin, hold := 0 } }))) ∧
    (∀ (s : State) (f d : Fin 6) (x : Fan), x = s.fans[f] →
    s.unitTakes (.fanConfirm f) true =
        { s with
          fans :=
            s.fans.set f
              (if x.mode = .starting then { x with mode := .running, startTimer := 0, lossTimer := none }
              else if x.mode = .running ∨ x.mode = .stopping then { x with lossTimer := none }
              else x) } ∧
      s.unitTakes (.fanConfirm f) false =
        { s with
          fans :=
            s.fans.set f
              (if x.mode = .running ∨ x.mode = .stopping then
                { x with lossTimer := some ((s.fanTable[f]).lossTolerance * 10) }
              else x) } ∧
      s.unitTakes (.fanIsolator f) true =
        (if x.mode = .disabled ∨ x.mode = .isolated then s
        else
          ({ s with
            fans := s.fans.set f (x.off .isolated 0)
            keys := s.keys ++ [{ kind := .fanIsolated, index := f.val }] } : State).latch
            .fanIsolated) ∧
      s.unitTakes (.fanIsolator f) false =
        (if x.mode = .isolated then
          { s with fans := s.fans.set f (x.off .coasting ((s.fanTable[f]).coastTime * 100)) }
        else s) ∧
      s.unitTakes (.doorButton d) true =
        { s with
          doors := s.doors.set d (Door.asked s.doorTable[d] (s.shows d) s.doors[d]).1
          keys :=
            s.keys ++
              if (Door.asked s.doorTable[d] (s.shows d) s.doors[d]).2 = true then
                [{ kind := .doorOpened, index := d.val }]
              else [] } ∧
      s.unitTakes (.doorButton d) false = s ∧
      (∀ active : Bool, s.unitTakes .commissionKey active = s) ∧
      s.unitTakes .maintKey true = (if s.engine.mode = .normal then s.changeMode .maintenance else s) ∧
      s.unitTakes .maintKey false = if s.engine.mode = .maintenance then s.changeMode .normal else s)

/-- What a changed contact does (R74 to R76, R84, R90 to R97): the door takes it by the rule of its state, and a closed
contact is handed on to the gallery fan the door names, whose pressurisation slot becomes its standby speed in INCIDENT
and the boosts of its doors not shut, at most 1000 per mille, with one resolution where that is a change.
That a door in CONTACT_FAULT takes a conflict without a key and an event is the model's choice (assumption 51). -/
def Obligations.ContactsMoveTheDoorAndItsGalleryFan : Prop :=
  (∀ (s taken : State) (d : Fin 6) (closedContact : Bool) (sig : Signal) (out : Door × List KeyKind × Option EventKind),
    sig = (if closedContact then .doorClosed d else .doorOpen d) →
    out =
        Door.contacted s.doorTable[d] (s.assigned (.doorClosed d) && s.assigned (.doorOpen d)) (s.shows d) closedContact
          (s.signalActive sig) s.doors[d] →
    taken =
        (let u : State :=
          { s with
            doors := s.doors.set d out.1
            keys := s.keys ++ out.2.1.map fun kind => { kind := kind, index := d.val } }
        match out.2.2 with | none => u | some k => u.latch k) →
      s.unitTakes sig (s.signalActive sig) =
        match closedContact, (s.doorTable[d]).galleryFan with
        | true, some f => taken.recomputePressurisation f
        | _, _ => taken) ∧
    ∀ (s : State) (f : Fin 6) (e : FanEntry) (speed : Nat) (slot : Option Demand), e = s.fanTable[f] →
      speed =
        min 1000
          ((if s.engine.mode = .incident then e.standbySpeed else 0) +
            ((List.finRange 6).map fun d =>
              if (s.doorTable[d]).galleryFan = some f ∧ s.signalActive (.doorClosed d) = false then (s.doorTable[d]).boost
              else 0).sum) →
      slot =
        (if e.gallery = true ∧ 0 < speed then
          some
            { precedence := s.nodeTable.pressurisationPrecedence, direction := e.pressurisationDirection
              speed := speed, rate := e.defaultRate }
        else none) →
        s.pressurisationDemand f = slot ∧ s.recomputePressurisation f =
          if slot = (s.fans[f]).pressurisationSlot then s
          else ({ s with fans := s.fans.set f { s.fans[f] with pressurisationSlot := slot } } : State).resolveFan f

/-- READ ENTRIES (R190, R191): an unknown table is refused; otherwise the entries from the first on, as many as the count
asks, the field limit leaves and 56 words hold, are carried with their number, OUT_OF_FIELD where the run reaches past the
field limit or starts at or beyond it (where another bound is smaller too, the model's choice, assumption 15).
That word 3 of the UNKNOWN_TABLE reply is 0 is the model's reading (assumption 29). -/
def Obligations.ReadEntriesReturnsWholeEntries : Prop :=
  ∀ (req : Request) (table first count : Word) (s : State), s.load = .running →
    ((∀ t : TableId, t.code ≠ table.toNat) →
      exec (.readEntries req table first count) s =
        .next (s.answerAccess req 1 table first { status := .unknownTable, number := 0, data := [] })) ∧
      ∀ (t : TableId) (n : Nat), t.code = table.toNat →
        n = min count.toNat (min (t.limit - first.toNat) (56 / t.length)) →
          ∃ words : List Word,
            words = (List.range n).flatMap (fun i => s.entryWords t (first.toNat + i)) ∧ words.length = n * t.length ∧
              words.length ≤ 56 ∧
              exec (.readEntries req table first count) s =
                .next
                  (s.answerAccess req 1 table first
                    { status :=
                        if first.toNat + count.toNat ≤ t.limit ∧ first.toNat < t.limit then .ok else .outOfField
                      number := BitVec.ofNat 16 n
                      data := bytesOf words })

/-- The field words of each entry of the nine tables (R2, R4, R42, R81, R120, R129, R135, R178, R193) and of the six views:
Channel Status (R22, R38), Fan Status (R62, R78), Door Status (R101), Line Status (R118), the Response Index (R157) and
Engine Status (R158), with remaining times rounded up and an absent input, slot or response in its stated code.
That a hold timer at 0 ms whose expiry is not taken yet shows 1 is the model's choice (assumption 35). -/
def Obligations.EntriesAreShownInFieldWords : Prop :=
  ∀ (s : State) (shown : List Int → List Word) (input : Signal → Int) (flag : Bool → Int),
    (∀ vs, shown vs = vs.map (BitVec.ofInt 16)) → (∀ b, flag b = if b = true then 1 else 0) →
    (∀ sig, input sig = if s.assigned sig = true then flag (s.signalActive sig) else 2) →
      (∀ e : NodeEntry, e = s.nodeTable →
        s.entryWords .node 0 =
          shown
            [e.reportInterval, e.markTimeout, e.staleLimit, e.groups.toNat, e.pressurisationPrecedence,
              (e.noticeMask.extractLsb' 0 16).toNat, (e.noticeMask.extractLsb' 16 8).toNat]) ∧
        (∀ (n : Fin 12) (e : ChannelEntry), e = s.channelTable[n] →
          s.entryWords .channel n =
            shown
              [e.cls.code, flag e.enabled, e.divider, e.lowLimit, e.highLimit, e.fillPolicy.code, e.fallback,
                e.smoothing, e.window, e.warmUp, e.evaluateOn.code, e.t1, e.t2, e.t3, e.hysteresis, e.persistence,
                e.failLimit, e.failLevel]) ∧
        (∀ (n : Fin 12) (e : CalibrationEntry), e = s.calibrationTable[n] →
          s.entryWords .calibration n =
            shown (e.count :: (List.finRange 8).flatMap fun i => [((e.points[i]).raw : Int), (e.points[i]).value])) ∧
        (∀ (f : Fin 6) (e : FanEntry), e = s.fanTable[f] →
          s.entryWords .fan f =
            shown
              [flag e.present, e.defaultRate, e.coastTime, e.startTimeout, e.lossTolerance, e.minimumSpeed,
                flag e.gallery, e.pressurisationDirection.code, e.standbySpeed]) ∧
        (∀ (d : Fin 6) (e : DoorEntry), e = s.doorTable[d] →
          s.entryWords .door d =
            shown [flag e.present, e.travelLimit, e.dwell, e.galleryFan.elim 6 fun f => (f.val : Int), e.boost]) ∧
        (∀ (i : Fin 32) (e : WatchEntry), e = s.watchTable[i] →
          s.entryWords .watch i =
            shown
              [flag e.enabled, e.source.toNat, e.kind.code, e.test.code, e.testIndex, e.comparison.code, e.operand,
                flag e.latch.isSome, e.latch.elim 0 fun a => (a.toNat : Int)]) ∧
        (∀ (i : Fin 16) (e : NeighbourRecord), e = s.neighbourTable[i] →
          s.entryWords .neighbour i = shown [e.address.toNat, e.silenceLimit, e.state.code, e.silenceCount]) ∧
        (∀ (i : Fin 64) (e : TriggerEntry), e = s.triggerTable[i] →
          s.entryWords .trigger i =
            shown
              [flag e.enabled, e.kind.code, e.selector.code, e.selectorValue, e.levelOperand, e.modeFilter.toNat,
                e.action.code, e.response.val]) ∧
        (∀ (i : Fin 64) (e : PointEntry), e = s.pointTable[i] →
          s.entryWords .point i = shown [e.function.code, e.functionIndex, e.polarity.code, e.filterTime]) ∧
        (∀ n : Fin 128,
          s.entryWords .responseIndex n =
            match s.engine.index[n] with
            | some i => shown [1, i.precedence, flag i.enter]
            | none => [0, 0, 0]) ∧
        (∀ (n : Fin 12) (c : Channel), c = s.channels[n] →
          s.entryWords .channelStatus n =
            shown
              ([match c.mode with | .off => 0 | .warming => 1 | .run => 2 | .failed => 3,
                c.last.elim 0 fun x => (x.raw : Int), c.last.elim 0 fun x => if x.valid = true then 1 else 2,
                c.last.elim 0 LastSample.value, c.last.elim 0 LastSample.output,
                if c.mode = .warming then ((c.warmUp + 99) / 100 : Nat) else 0, c.window.count] ++
                (match c.result with
                | none => [0, 0, 0, 0, 0, 0]
                | some r =>
                  [match r.quality with | .good => 1 | .doubtful => 2 | .failed => 3 | .warming => 4, r.mean, r.maximum,
                    r.minimum, r.valid, r.exceedance]) ++
                [(c.level : Int), c.rise, c.fall, c.failedWindows])) ∧
        (∀ (f : Fin 6) (x : Fan) (slot : Option Demand → List Int) (runs : Bool), x = s.fans[f] →
          runs = decide (x.mode = .starting ∨ x.mode = .running ∨ x.mode = .stopping) →
          (∀ d, slot d = d.elim [0, 0, 0, 0] fun d => [(d.precedence : Int), d.direction.code, d.speed, d.rate]) →
            s.entryWords .fanStatus f =
              shown
                ([(x.mode.code : Int), if x.direction = .rev then 1 else 0, flag runs,
                  if runs = true then (x.ramp / 100 : Nat) else 0, (x.ramp / 10 : Nat),
                  (((match x.mode with
                    | .starting => x.startTimer
                    | .coasting => x.coastTimer
                    | .running | .stopping => x.lossTimer.getD 0
                    | _ => 0) + 9) / 10 : Nat),
                  input (.fanConfirm f), input (.fanIsolator f), if x.target.direction = .rev then 1 else 0,
                  x.target.speed, x.target.rate,
                  match x.target.source with | .none => 0 | .line => 1 | .response k => 2 + k.val | .pressurisation => 6] ++
                  slot x.lineSlot ++
                  ((List.finRange 4).flatMap fun k => slot ((x.responseSlots[k]).map ResponseDemand.demand)) ++
                  slot x.pressurisationSlot)) ∧
        (∀ (d : Fin 6) (x : Door), x = s.doors[d] →
          s.entryWords .doorStatus d =
            shown
              [(x.mode.code : Int), flag (decide (x.mode = .opening)), flag (decide (x.mode = .closing)),
                input (.doorClosed d), input (.doorOpen d), input (.doorButton d),
                (((match x.mode with
                  | .opening | .closing => x.travelTimer
                  | .opened => x.dwellTimer
                  | _ => 0) + 9) / 10 : Nat),
                flag x.responseHolds[0] + 2 * flag x.responseHolds[1] + 4 * flag x.responseHolds[2] +
                  8 * flag x.responseHolds[3] + 16 * flag x.lineHold,
                if s.signalActive (.doorClosed d) = true then 0 else 1]) ∧
        s.entryWords .engineStatus 0 =
          shown
            ([match s.engine.mode with | .normal => 0 | .incident => 1 | .maintenance => 2, input .maintKey,
              (s.engine.queue.length : Int)] ++
              ((List.finRange 4).flatMap fun i =>
                (s.engine.queue[i.val]?).elim [-1, 0] fun q => [(q.number.val : Int), q.precedence]) ++
              (s.engine.fetch.elim [-1, 0, 0] fun f =>
                [(f.number.val : Int), f.precedence, flag f.cancelled + 2 * flag f.disturbed]) ++
              (List.finRange 4).flatMap fun k =>
                (s.engine.active[k]).elim [-1, 0, 0, -1, 0, 0, 0] fun a =>
                  [(a.number.val : Int), a.precedence, flag a.enter, a.successor.elim (-1) fun n => (n.val : Int),
                    a.hold.elim (-1) fun ms => ((max 1 ((ms + 999) / 1000) : Nat) : Int),
                    (a.sequence / 65536 : Nat), (a.sequence % 65536 : Nat)]) ∧
        ∀ (a b : PortState) (c : CycleState) (queued : PortState → Int), a = s.portA → b = s.portB → c = s.cycle →
          (∀ p, queued p = if ∃ f ∈ p.insertQueue, isReport f = true then 1 else 0) →
            s.entryWords .lineStatus 0 =
              shown
                [flag a.up, flag b.up, flag c.marked, c.number.toNat, if c.marked = true then (c.markTimer : Int) else 0,
                  flag c.firstMark, c.interval, c.sequence.toNat, a.pass.length, b.pass.length, a.insertQueue.length,
                  b.insertQueue.length, queued a, queued b, a.starvation, b.starvation]

/-- Table entries read back as they are written (R2 to R4, R42, R43, R81, R82, R120, R121, R129, R135, R136, R178, R179,
R193).  An entry within its ranges is what the field words it is shown as parse to, whatever the table.  The words an
entry parsed from a request is shown as are the request's, after the clamps, but for the latch fields of the Watch Table
and the state fields of the Neighbour Table, which read 0, and the Node Table's bits outside those named, which are 0.
That no watch entry with a source below 0 parses is the model's reading (assumption 52).

The values of entry k of a request are its words as signed integers, and the clamps put each numeric field into its range,
below it at the lowest value and above it at the highest, and leave every other field as it is (R3, R4, R43, R82, R121,
R129, R136, R179, R193). -/
def Obligations.WrittenEntriesReadBack : Prop :=
  (∀ (t : TableId) (ws : List Word) (k i : Nat) (range : TableId → Nat → Option (Int × Int)),
    (∀ u j, range u j =
      match u, j with
      | .node, 0 => some (1, 10)
      | .node, 1 => some (3, 20)
      | .node, 2 => some (0, 5)
      | .node, 4 => some (1, 15)
      | .channel, 2 => some (1, 100)
      | .channel, 3 | .channel, 4 => some (0, 4095)
      | .channel, 7 => some (0, 7)
      | .channel, 8 => some (1, 255)
      | .channel, 9 => some (0, 600)
      | .channel, 14 => some (0, 32767)
      | .channel, 15 | .channel, 16 => some (1, 15)
      | .channel, 17 => some (0, 3)
      | .calibration, 0 => some (2, 8)
      | .calibration, n => if n % 2 = 1 then some (0, 4095) else none
      | .fan, 1 => some (1, 500)
      | .fan, 2 => some (5, 600)
      | .fan, 3 => some (1, 30)
      | .fan, 4 => some (1, 100)
      | .fan, 5 => some (0, 500)
      | .fan, 8 => some (0, 1000)
      | .door, 1 => some (2, 30)
      | .door, 2 => some (5, 600)
      | .door, 4 => some (0, 1000)
      | .neighbour, 1 => some (2, 50)
      | .trigger, 4 => some (0, 3)
      | .point, 3 => some (0, 255)
      | _, _ => none) →
      (offeredValues t ws k)[i]? = (if i < t.length then (ws[t.length * k + i]?).map BitVec.toInt else none) ∧
        (clampedValues t ws k)[i]? =
          (offeredValues t ws k)[i]?.map fun v =>
            match range t i with
            | some (low, high) => if v < low then low else if high < v then high else v
            | none => v) ∧
  (∀ e : TableEntry, e.offerable →
    e.words.length = e.table.length ∧ clampedValues e.table e.words 0 = offeredValues e.table e.words 0 ∧
      e.table.parse (clampedValues e.table e.words 0) = some e) ∧
    ∀ (t : TableId) (ws : List Word) (e : TableEntry), ws.length = t.length →
      t.parse (clampedValues t ws 0) = some e →
        e.table = t ∧ e.offerable ∧ e.words.length = t.length ∧
          ∀ (i : Nat) (w : Word), (clampedValues t ws 0)[i]? = some w.toInt →
            e.words[i]? =
              some
                (if (t = .watch ∧ 7 ≤ i) ∨ (t = .neighbour ∧ 2 ≤ i) then 0
                else if t = .node ∧ i = 3 then w &&& 0xF
                else if t = .node ∧ i = 6 then w &&& 0xFF
                else w)

/-- WRITE ENTRIES is checked whole in its stated order (R192) and a refusal writes nothing: unknown table, read-only table,
too few or too many words, past the field limit, the first faulty entry, use.  An entry is faulty where it does not parse
after the clamps, or where a signal or a neighbour's address it holds would stand in another entry of the table too, once
the whole request were written (R129, R179); a request with an entry in use is refused by the check of its table (R10 to
R12, R44, R83, R179).  A request that passes is taken, every entry of it, and is answered CLAMPED where a clamp altered a
word.
That a point with a faulty polarity holds its signal in the check of duplicates, that a write's reply carries 0 in word 3,
that a dropped bit of the Node Table leaves the reply OK, that a watch source below 0 is a fault, that the units act in
entry order, and that the keys are taken after the whole write, are the model's choices, and an index above 65535 is left
open (assumptions 27, 29, 30, 52, 50, 12, 16). -/
def Obligations.WriteEntriesChecksTheWholeRequest : Prop :=
  ∀ (req : Request) (table first count : Word) (data : List Byte) (s : State), s.atRest → s.load = .running →
    ∀ (refuse : AccessStatus → Word → State),
      (∀ status number, refuse status number =
        s.answerAccess req 2 table first { status := status, number := number, data := [] }) →
        ((∀ t : TableId, t.code ≠ table.toNat) →
          exec (.writeEntries req table first count data) s = .next (refuse .unknownTable 0)) ∧
          ∀ t : TableId, t.code = table.toNat →
            (16 ≤ t.code → exec (.writeEntries req table first count data) s = .next (refuse .readOnly 0)) ∧
              (t.code < 16 →
                ((wordsOf data).length ≠ count.toNat * t.length →
                  ∃ index : Word,
                    exec (.writeEntries req table first count data) s = .next (refuse .badEntry index) ∧
                      (first.toNat + min count.toNat ((wordsOf data).length / t.length) < 65536 →
                        index =
                          BitVec.ofNat 16 (first.toNat + min count.toNat ((wordsOf data).length / t.length)))) ∧
                  ((wordsOf data).length = count.toNat * t.length →
                    (t.limit < first.toNat + count.toNat →
                      exec (.writeEntries req table first count data) s = .next (refuse .outOfField 0)) ∧
                      (first.toNat + count.toNat ≤ t.limit →
                        (∀ k < count.toNat, s.offersFault t first.toNat count.toNat (wordsOf data) k →
                          (∀ j < k, ¬s.offersFault t first.toNat count.toNat (wordsOf data) j) →
                            exec (.writeEntries req table first count data) s =
                              .next (refuse .badEntry (BitVec.ofNat 16 (first.toNat + k)))) ∧
                          ∀ es : List TableEntry, es.length = count.toNat →
                            (∀ k < count.toNat,
                              ¬s.offersFault t first.toNat count.toNat (wordsOf data) k ∧
                                t.parse (clampedValues t (wordsOf data) k) = es[k]?) →
                              ((∃ (k : Nat) (h : k < es.length), s.refusesInUse (first.toNat + k) es[k]) →
                                exec (.writeEntries req table first count data) s = .next (refuse .inUse 0)) ∧
                                ((∀ (k : Nat) (h : k < es.length), ¬s.refusesInUse (first.toNat + k) es[k]) →
                                  exec (.writeEntries req table first count data) s =
                                    .next
                                      ((State.takeBatch s (runFrom first.toNat es)).settle.answerAccess req 2 table
                                        first
                                        { status :=
                                            if ∀ k < count.toNat,
                                                clampedValues t (wordsOf data) k = offeredValues t (wordsOf data) k then
                                              .ok
                                            else .clamped
                                          number := 0
                                          data := [] })))))

/-- What a taken write of the Channel, Fan and Door Tables does besides storing its entries (R192), unit by unit in entry
order.  A channel enabled begins under its entry; one disabled returns to OFF, and from a level above 0 offers LEVEL_DOWN
to 0 and latches LEVEL_CHANGE (R6, R8).  A fan made present coasts, or is isolated with its key and event; one made absent is
DISABLED with its line and response slots absent; a changed fan's pressurisation slot is written and it is resolved once
(R45, R60, R73, R76).  A door made present is unheld and derived from its contacts without keys; one made absent is
DISABLED and unheld; a changed gallery fan or boost recomputes the old and the new fan (R76, R99).
That the units act in entry order is the model's choice (assumption 50). -/
def Obligations.TakenWritesMoveChannelsFansAndDoors : Prop :=
  ∀ (s : State) (first : Nat),
    (∀ (es : List ChannelEntry) (table : Vector ChannelEntry 12), first + es.length ≤ 12 →
      table = overlaid s.channelTable first es →
        s.takeBatch (runFrom first (es.map .channel)) =
          (List.finRange 12).foldl
            (fun u n =>
              if (s.channelTable[n]).enabled = false ∧ (table[n]).enabled = true then
                { u with
                  channels :=
                    u.channels.set n
                      { Channel.off with
                        mode := if (table[n]).warmUp = 0 then .run else .warming
                        countdown := (table[n]).divider
                        warmUp := (table[n]).warmUp * 100 } }
              else if (s.channelTable[n]).enabled = true ∧ (table[n]).enabled = false then
                if (s.channels[n]).level = 0 then { u with channels := u.channels.set n Channel.off }
                else
                  ({ u with
                    channels := u.channels.set n Channel.off
                    keys :=
                      u.keys ++
                        [{ kind := .levelDown, index := n.val, cls := some (table[n]).cls, level := 0
                           oldLevel := (s.channels[n]).level }] } : State).latch .levelChange
              else u)
            { s with channelTable := table }) ∧
      (∀ (es : List FanEntry) (table : Vector FanEntry 6) (moved : Fin 6 → State → State), first + es.length ≤ 6 →
        table = overlaid s.fanTable first es →
        (∀ f u, moved f u =
          if (s.fanTable[f]).present = false ∧ (table[f]).present = true then
            if u.signalActive (.fanIsolator f) = true then
              ({ u with
                fans := u.fans.set f ((u.fans[f]).off .isolated 0)
                keys := u.keys ++ [{ kind := .fanIsolated, index := f.val }] } : State).latch .fanIsolated
            else { u with fans := u.fans.set f ((u.fans[f]).off .coasting ((table[f]).coastTime * 100)) }
          else if (s.fanTable[f]).present = true ∧ (table[f]).present = false then
            { u with
              fans :=
                u.fans.set f
                  { (u.fans[f]).off .disabled 0 with
                    lineSlot := none, responseSlots := Vector.replicate 4 none } }
          else u) →
          s.takeBatch (runFrom first (es.map .fan)) =
            (List.finRange 6).foldl
              (fun u f =>
                if table[f] = s.fanTable[f] then u
                else
                  ({ moved f u with
                    fans :=
                      (moved f u).fans.set f
                        { (moved f u).fans[f] with
                          pressurisationSlot := u.pressurisationDemand f } } : State).resolveFan f)
              { s with fanTable := table }) ∧
      ∀ (es : List DoorEntry) (table : Vector DoorEntry 6) (moved : Fin 6 → Door → Door), first + es.length ≤ 6 →
        table = overlaid s.doorTable first es →
        (∀ d x, moved d x =
          if (s.doorTable[d]).present = false ∧ (table[d]).present = true then
            Door.settled table[d] (s.assigned (.doorClosed d) && s.assigned (.doorOpen d)) (s.shows d)
              { x with responseHolds := Vector.replicate 4 false, lineHold := false }
          else if (s.doorTable[d]).present = true ∧ (table[d]).present = false then
            { mode := .disabled, travelTimer := 0, dwellTimer := 0, responseHolds := Vector.replicate 4 false
              lineHold := false }
          else x) →
          s.takeBatch (runFrom first (es.map .door)) =
            (List.finRange 6).foldl
              (fun u d =>
                if (table[d]).galleryFan = (s.doorTable[d]).galleryFan ∧ (table[d]).boost = (s.doorTable[d]).boost then u
                else
                  (((s.doorTable[d]).galleryFan.toList ++ (table[d]).galleryFan.toList).foldl
                    (fun v f => v.recomputePressurisation f) u))
              { s with doorTable := table, doors := tabulate fun d => moved d s.doors[d] }

/-- What a taken write of the other tables does (R192).  Calibration and Trigger Table entries are stored and nothing else
moves.  The Node Table's entry is stored, and a changed pressurisation precedence recomputes every gallery fan, in fan
order (R76, R193).  A Watch Table entry that repeats its seven writable fields keeps its latch; another is stored CLEAR, and
one that was LATCHED offers WATCH_CLEAR with its latching source (R121).  A Neighbour Table record that repeats its address
and silence limit is unchanged; another is stored UNKNOWN with count 0, without a key or an event (R129).
That the WATCH_CLEAR keys come in entry order is the model's choice (assumption 50). -/
def Obligations.TakenWritesOfTheOtherTables : Prop :=
  ∀ (s : State) (first : Nat),
    (∀ es : List CalibrationEntry, first + es.length ≤ 12 →
      s.takeBatch (runFrom first (es.map .calibration)) =
        { s with calibrationTable := overlaid s.calibrationTable first es }) ∧
      (∀ es : List TriggerEntry, first + es.length ≤ 64 →
        s.takeBatch (runFrom first (es.map .trigger)) = { s with triggerTable := overlaid s.triggerTable first es }) ∧
      (∀ e : NodeEntry,
        s.takeBatch (runFrom 0 [.node e]) =
          if e.pressurisationPrecedence = s.nodeTable.pressurisationPrecedence then { s with nodeTable := e }
          else
            ((List.finRange 6).filter fun f => (s.fanTable[f]).gallery).foldl (fun u f => u.recomputePressurisation f)
              { s with nodeTable := e }) ∧
      (∀ (es : List WatchEntry) (table : Vector WatchEntry 32) (same : Fin 32 → Bool), first + es.length ≤ 32 →
        (∀ e ∈ es, e.latch = none) → table = overlaid s.watchTable first es →
        (∀ i : Fin 32, same i = true ↔
          (table[i]).enabled = (s.watchTable[i]).enabled ∧ (table[i]).source = (s.watchTable[i]).source ∧
            (table[i]).kind = (s.watchTable[i]).kind ∧ (table[i]).test = (s.watchTable[i]).test ∧
            (table[i]).testIndex = (s.watchTable[i]).testIndex ∧
            (table[i]).comparison = (s.watchTable[i]).comparison ∧ (table[i]).operand = (s.watchTable[i]).operand) →
          s.takeBatch (runFrom first (es.map .watch)) =
            { s with
              watchTable := tabulate fun i => if same i = true then s.watchTable[i] else table[i]
              keys :=
                s.keys ++
                  (List.finRange 32).filterMap fun i =>
                    if same i = true then none
                    else
                      (s.watchTable[i]).latch.map fun a =>
                        { kind := .watchClear, index := i.val, address := some a } }) ∧
      ∀ (es : List NeighbourRecord) (table : Vector NeighbourRecord 16), first + es.length ≤ 16 →
        (∀ e ∈ es, e.state = .unknown ∧ e.silenceCount = 0) → table = overlaid s.neighbourTable first es →
          s.takeBatch (runFrom first (es.map .neighbour)) =
            { s with
              neighbourTable :=
                tabulate fun i =>
                  if (table[i]).address = (s.neighbourTable[i]).address ∧
                      (table[i]).silenceLimit = (s.neighbourTable[i]).silenceLimit then
                    s.neighbourTable[i]
                  else
                    { address := (table[i]).address, silenceLimit := (table[i]).silenceLimit, state := .unknown
                      silenceCount := 0 } }

/-- A taken Point Table write (R180, R181): its entries are stored, a lowered filter time accepts at once a level that has
stood for it, and then each input signal the request changed reaches its unit once with the net result, in point order,
its keys taken before the next.  A signal no point holds any more reads inactive: the door of a lost contact goes to
CONTACT_FAULT and a lost closed contact reaches the gallery fan (R84, R96), a lost isolator or maintenance key that was
active is a change to inactive (R46, R155).  A signal no point held before is a change where it is active, and for a
contact of a door in CONTACT_FAULT whatever its level (R84, R96); a closed contact gained reaches the gallery fan in any
case (R76, R84).  A signal held before and after is a change where its
level differs.  A button gained or moved while active does not press (R84).
That a loss at a point comes before its gain, that a moved button does not press, that a door in CONTACT_FAULT takes a
loss or a conflict without a key, that a lowered filter time accepts before the new drive, and when the keys are taken are
the model's choices (assumptions 44, 45, 51, 53, 12). -/
def Obligations.PointTableWritesHandOverSignals : Prop :=
  ∀ (s accepted : State) (first : Nat) (es : List PointEntry) (table : Vector PointEntry 64)
    (lost gained : Signal → Bool → State → State) (taken : State → State)
    (before now : Fin 64 → Option Signal), s.load = .running → s.keys = [] → s.claimsDistinct →
    accepted.claimsDistinct → es ≠ [] → first + es.length ≤ 64 →
    table = overlaid s.pointTable first es →
    accepted =
        { s with
          pointTable := table
          points :=
            tabulate fun n =>
              if (table[n]).filterTime < (s.pointTable[n]).filterTime ∧ (s.points[n]).pin ≠ (s.points[n]).filtered ∧
                  (table[n]).filterTime ≤ (s.points[n]).hold then
                { s.points[n] with filtered := (s.points[n]).pin, hold := 0 }
              else s.points[n] } →
    (∀ u, taken u = State.takes { u with keys := [] } u.keys) →
    (∀ n, before n = (s.pointTable[n]).signal.filter fun sig => !sig.isOutput) →
    (∀ n, now n = (table[n]).signal.filter fun sig => !sig.isOutput) →
    (∀ sig active u, lost sig active u =
      match sig with
      | .doorClosed d | .doorOpen d =>
        let faulted : State :=
          if (u.doors[d]).mode = .disabled ∨ (u.doors[d]).mode = .outOfService ∨ (u.doors[d]).mode = .contactFault then u
          else
            ({ u with
              doors := u.doors.set d { u.doors[d] with mode := .contactFault, travelTimer := 0, dwellTimer := 0 }
              keys := u.keys ++ [{ kind := .doorContactFault, index := d.val }] } : State).latch .doorContactFault
        match sig, (s.doorTable[d]).galleryFan with
        | .doorClosed _, some f => faulted.recomputePressurisation f
        | _, _ => faulted
      | .fanIsolator _ | .maintKey => if active = true then u.unitTakes sig false else u
      | _ => u) →
    (∀ sig active u, gained sig active u =
      match sig with
      | .doorButton _ => u
      | .doorClosed d | .doorOpen d =>
        if active = true ∨ (u.doors[d]).mode = .contactFault then u.unitTakes sig active
        else
          match sig, (s.doorTable[d]).galleryFan with
          | .doorClosed _, some f => u.recomputePressurisation f
          | _, _ => u
      | _ => if active = true then u.unitTakes sig true else u) →
      s.takeBatch (runFrom first (es.map .point)) =
        (List.finRange 64).foldl
          (fun u n =>
            let left :=
              match before n with
              | none => u
              | some sig =>
                if ∃ m : Fin 64, now m = some sig then u else taken (lost sig (s.signalActive sig) u)
            match now n with
            | none => left
            | some sig =>
              if ∃ m : Fin 64, before m = some sig then
                if accepted.signalActive sig = s.signalActive sig ∨ (before n ≠ some sig ∧ ∃ d, sig = .doorButton d) then
                  left
                else taken (left.unitTakes sig (accepted.signalActive sig))
              else taken (gained sig (accepted.signalActive sig) left))
          accepted

/-- Point values and the event latch through table access (R183, R195): a read gives each point its latch, its unit's
output or its filtered level by its function, up to P63; a write is checked whole, too few or too many values first, and
writes the latches of its run (R199);
EVENT CLEAR takes the kinds of its mask off the latch and EVENT SET latches them; both answer with the latch.
That the number of values is checked before them and they before the run, the open word 3 of the mask replies, the status
of a read cut by the reply or of an empty run past P63, 0 in word 3 of the reply to a write, and the open word for an index
above 65535 are the model's (assumptions 18, 5, 46, 47, 29, 16). -/
def Obligations.PointValuesAndEventMasks : Prop :=
  ∀ (req : Request) (a first count : Word) (data : List Byte) (s : State), s.atRest → s.load = .running →
    (∃ values : List Word,
      exec (.pointValueRead req a first count) s =
          .next
            (s.answerAccess req 3 a first
              { status := if first.toNat + count.toNat ≤ 64 then .ok else .outOfField
                number := BitVec.ofNat 16 values.length
                data := bytesOf values }) ∧
        values.length = min count.toNat (min (64 - first.toNat) 56) ∧
        ∀ (i : Nat) (n : Fin 64), i < values.length → n.val = first.toNat + i →
          values[i]? =
            some
              (if (match (s.pointTable[n]).function with
                  | .generalOut => (s.points[n]).latch
                  | _ =>
                    match (s.pointTable[n]).signal with
                    | some (.fanRun f) =>
                      decide
                        ((s.fans[f]).mode = .starting ∨ (s.fans[f]).mode = .running ∨ (s.fans[f]).mode = .stopping)
                    | some (.fanReverse f) => decide ((s.fans[f]).direction = .rev)
                    | some (.doorDriveOpen d) => decide ((s.doors[d]).mode = .opening)
                    | some (.doorDriveClose d) => decide ((s.doors[d]).mode = .closing)
                    | _ =>
                      match (s.pointTable[n]).polarity with
                      | .activeHigh => (s.points[n]).filtered
                      | .activeLow => !(s.points[n]).filtered) = true then
                1
              else 0)) ∧
      ((wordsOf data).length ≠ count.toNat →
        ∃ index : Word,
          exec (.pointValueWrite req a first count data) s =
              .next (s.answerAccess req 4 a first { status := .badEntry, number := index, data := [] }) ∧
            (first.toNat + min count.toNat (wordsOf data).length < 65536 →
              index = BitVec.ofNat 16 (first.toNat + min count.toNat (wordsOf data).length))) ∧
      ((wordsOf data).length = count.toNat →
        (∀ k < count.toNat, (∀ j < k, (wordsOf data)[j]? = some 0 ∨ (wordsOf data)[j]? = some 1) →
          (wordsOf data)[k]? ≠ some 0 → (wordsOf data)[k]? ≠ some 1 → first.toNat + k < 65536 →
            exec (.pointValueWrite req a first count data) s =
              .next
                (s.answerAccess req 4 a first
                  { status := .badEntry, number := BitVec.ofNat 16 (first.toNat + k), data := [] })) ∧
          ((∀ k < count.toNat, (wordsOf data)[k]? = some 0 ∨ (wordsOf data)[k]? = some 1) →
            (64 < first.toNat + count.toNat →
              exec (.pointValueWrite req a first count data) s =
                .next (s.answerAccess req 4 a first { status := .outOfField, number := 0, data := [] })) ∧
              (first.toNat + count.toNat ≤ 64 →
                exec (.pointValueWrite req a first count data) s =
                  .next
                    ((({ s with
                      points :=
                        tabulate fun n =>
                          if first.toNat ≤ n.val ∧ n.val < first.toNat + count.toNat then
                            { s.points[n] with latch := decide ((wordsOf data)[n.val - first.toNat]? = some 1) }
                          else s.points[n] } : State).followed).answerAccess req 4 a first
                      { status := .ok, number := 0, data := [] })))) ∧
      ∀ (low high : Word) (mask : BitVec 24) (cleared set : State), mask = high.extractLsb' 0 8 ++ low →
        cleared = { s with events := s.events &&& ~~~mask } →
        set = (EventKind.all.filter fun k => mask.getLsbD k.code).foldl State.latch s →
          (s.events ||| mask) &&& set.events = s.events ||| mask ∧
            ∃ m n : Word,
              exec (.eventClear req low high) s =
                  .next
                    (cleared.answerAccess req 5 low high
                      { status := .ok
                        number := m
                        data :=
                          [cleared.events.extractLsb' 8 8, cleared.events.extractLsb' 0 8, 0,
                            cleared.events.extractLsb' 16 8] }) ∧
                exec (.eventSet req low high) s =
                  .next
                    (set.answerAccess req 6 low high
                      { status := .ok
                        number := n
                        data :=
                          [set.events.extractLsb' 8 8, set.events.extractLsb' 0 8, 0, set.events.extractLsb' 16 8] })

/-! ## Resets and start-up load -/

/-- POWER_ON_RESET (R24, R40, R64, R79, R102, R119, R159, R176, R185, R186, R197) from any state: every register at its
reset value, the pages kept but for one in an operation, the address and the points read from the pins, and start-up load
begun; an addressed node's load report takes sequence 1 and is queued nowhere, both ports being DOWN.
What a page in an operation holds is left open (assumption 1).  That a node without an address keeps sequence 0, that the
supply level stays as it is, and that the program data read FFh are the model's choices (assumptions 19, 32, 48). -/
def Obligations.PowerOnResetBeginsStartUpLoad : Prop :=
  ∀ (adr : Byte) (pins : BitVec 64) (s : State),
    ∃ (cells : Mem) (drawn : Nat),
      (∀ q : Fin 48, s.store.operationPage ≠ some q → Mem.readBytes cells (512 * q.val) 512 = s.store.page q) ∧
        (s.store.operationPage = none → cells = s.store.cells ∧ drawn = s.freeCount) ∧
        exec (.powerOnReset adr pins) s =
          .next
            { State.reset with
              address := if 1 ≤ adr.toNat ∧ adr.toNat ≤ 250 then some adr else none
              load := .image 0 false
              cycle := { CycleState.reset with sequence := if 1 ≤ adr.toNat ∧ adr.toNat ≤ 250 then 1 else 0 }
              store := { StoreState.reset with cells := cells }
              supplyOk := s.supplyOk
              points :=
                tabulate fun n =>
                  { pin := pins.getLsbD n.val, filtered := pins.getLsbD n.val, hold := 0, latch := false }
              freeCount := drawn
              pending := s.pending }

/-- RESTART (R24, R40, R65, R79, R102, R119, R133, R160, R177, R186, R189, R196): refused in INCIDENT; else every block is
reset but for the points and their table, the directions of the fans, a frame being sent and an operation of the store,
whose flags stay and whose slot reads are dropped; the order is answered DONE and the load report follows.
That a node without an address keeps sequence 0 is the model's choice (assumption 19). -/
def Obligations.RestartResetsEveryBlock : Prop :=
  ∀ (req : Request) (s u : State) (down : PortState → PortState), s.load = .running →
    (∀ x : PortState, down x = { PortState.reset with sending := x.sending }) →
    u =
        ({ State.reset with
          address := s.address
          load := .image 0 true
          pointTable := s.pointTable
          portA := if req.port = .a then { down s.portA with up := true, linkTimer := 250 } else down s.portA
          portB := if req.port = .b then { down s.portB with up := true, linkTimer := 250 } else down s.portB
          fans := s.fans.map fun x => { Fan.reset with direction := x.direction }
          store :=
            { s.store with
              mode := if s.store.mode = .eraseSet ∨ s.store.mode = .programSet then .ready else s.store.mode
              setupPage := none
              staging := []
              service :=
                match s.store.service with
                | .idle => .idle
                | .waiting n _ => .waiting n true
                | .reading n _ page => .reading n true page
              behind := s.store.behind.map fun r => { r with dropped := true } }
          supplyOk := s.supplyOk
          points := s.points
          freeCount := s.freeCount
          pending := s.pending } : State).followed →
      (s.engine.mode = .incident → exec (.restart req) s = .next (s.answerOrder req 14 .refusedMode)) ∧
        (s.engine.mode ≠ .incident →
          (s.address = none → exec (.restart req) s = .next u) ∧
            (s.address.isSome = true →
              exec (.restart req) s =
                .next
                  ({ u.answerOrder req 14 .done with
                    cycle := { (u.answerOrder req 14 .done).cycle with sequence := 1 } } : State).sendReport))

/-- IMAGE_REPLAY (R174, R175): the next image page when the store can read it, in ERASING by breaking off the pulse; each
page moves the load on, and after the last one the Response Index is built from the response pages.  Outside the load, and
while the store cannot read a page, nothing happens.

What a page applies (R162, R175, R200): one that is not valid is skipped with IMAGE_REFUSED; the records of a valid one
are applied in order up to an id of FFh or byte 507, and one that runs past byte 507 latches IMAGE_REFUSED.

What a record applies (R23, R64, R102, R133, R175, R186): after a RESTART a Point Table record is skipped; a record of an
unknown or read-only table, past the field limit, or with a faulty entry latches IMAGE_REFUSED and writes nothing; a record
of count 0 writes nothing; any other stores its entries as a write would, whatever is in use, with no key and no unit moved
but that a channel shows the state its entry gives it and driven pins follow their points.
That nothing happens when no page is due, IMAGE_REFUSED for a skipped record past byte 507, a record of count 0 taken
whatever its first entry, but refused for an unknown or read-only table, and a level accepted by a lowered filter time before
the pin takes its new drive, are the model's choices; what a page being erased reads is left open (assumptions 21, 43, 28,
53, 1). -/
def Obligations.ImageReplayTakesTheNextPage : Prop :=
  (∀ s : State, (∀ p after, s.load ≠ .image p after) → exec .imageReplay s = .next s) ∧
    (∀ s : State, s.store.service ≠ .idle ∨ s.store.mode = .programming ∨ s.store.mode = .eraseSuspended →
      exec .imageReplay s = .next s) ∧
    (∀ (s : State) (p : Fin 16) (after : Bool), s.load = .image p after →
      s.store.service = .idle → s.store.mode ≠ .programming → s.store.mode ≠ .eraseSuspended →
        ∃ read applied t : State,
          exec .imageReplay s = .next t ∧ (s.store.mode ≠ .erasing → read = s) ∧
            (∀ q : Fin 48, s.store.mode = .erasing → s.store.operationPage = some q →
              ∃ (cells : Mem) (drawn : Nat) (broken : List Byte),
                read = { s with freeCount := drawn, store := { s.store with cells := cells } } ∧
                  (∀ r : Fin 48, r ≠ q → Mem.readBytes cells (512 * r.val) 512 = s.store.page r) ∧
                  Mem.readBytes cells (512 * q.val) 512 = broken ∧
                  ∀ i : Nat, (s.store.page q).getD i 0xFF &&& broken.getD i 0xFF = (s.store.page q).getD i 0xFF) ∧
            applied =
              read.applyImagePage after (Mem.readBytes read.store.cells (512 * (32 + p.val)) 512) ∧
            (∀ h : p.val + 1 < 16, t = { applied with load := .image ⟨p.val + 1, h⟩ after }) ∧
            (p.val = 15 →
              t =
                  { applied with
                    load := .built
                    freeCount := t.freeCount
                    store := { applied.store with cells := t.store.cells }
                    engine := { applied.engine with index := t.engine.index } } ∧
                (s.store.mode ≠ .erasing → t.freeCount = s.freeCount ∧ t.store.cells = s.store.cells) ∧
                (∀ q : Fin 48, (s.store.mode = .erasing → s.store.operationPage ≠ some q) →
                  t.store.page q = s.store.page q) ∧
                ∀ (n : Fin 128) (page : List Byte), page = Mem.readBytes s.store.cells (512 * (n.val / 4)) 512 →
                  (s.store.mode = .erasing → ∀ q : Fin 48, s.store.operationPage = some q → q.val ≠ n.val / 4) →
                    t.engine.index[n] =
                      if pageValid page = true then
                        (slotRecord ((page.drop (128 * (n.val % 4))).take 128) n).map fun r =>
                          { precedence := r.precedence, enter := r.enter }
                      else none)) ∧
    (∀ (s : State) (after : Bool) (page : List Byte),
      (pageValid page = false → s.applyImagePage after page = s.latch .imageRefused) ∧
        ∀ (records : List (Byte × Byte × Byte × List Word)) (rest : List Byte) (length : Byte → Nat) (applied : State),
          pageValid page = true → page.length = 512 →
          (∀ id : Byte, length id = ((TableId.all.find? fun t => decide (t.code = id.toNat)).map TableId.length).getD 1) →
          (∀ r ∈ records, r.1 ≠ 0xFF ∧ r.2.2.2.length = r.2.2.1.toNat * length r.1) →
          page.take 508 = (records.flatMap fun r => [r.1, r.2.1, r.2.2.1] ++ bytesOf r.2.2.2) ++ rest →
          applied =
              records.foldl
                (fun u r => u.applyRecord after r.1.toNat r.2.1.toNat r.2.2.1.toNat r.2.2.2) s →
            (rest = [] ∨ rest.head? = some 0xFF → s.applyImagePage after page = applied) ∧
              (rest ≠ [] → rest.head? ≠ some 0xFF →
                rest.length < 3 ∨ rest.length < 3 + 2 * ((rest.getD 2 0).toNat * length (rest.getD 0 0)) →
                  s.applyImagePage after page = applied.latch .imageRefused)) ∧
    ∀ (s : State) (after : Bool) (id first count : Nat) (ws : List Word), s.load ≠ .running →
      (after = true → id = 9 → s.applyRecord after id first count ws = s) ∧
        (after = false ∨ id ≠ 9 →
          ((∀ t : TableId, t.code ≠ id ∨ 16 ≤ t.code) →
            s.applyRecord after id first count ws = s.latch .imageRefused) ∧
            ∀ t : TableId, t.code = id → t.code < 16 → ws.length = count * t.length →
              (count = 0 → s.applyRecord after id first count ws = s) ∧
                (0 < count → t.limit < first + count →
                  s.applyRecord after id first count ws = s.latch .imageRefused) ∧
                (0 < count → first + count ≤ t.limit →
                  ((∃ k < count, s.offersFault t first count ws k) →
                    s.applyRecord after id first count ws = s.latch .imageRefused) ∧
                    ∀ (es : List TableEntry) (w : State), es.length = count →
                      (∀ k < count, ¬s.offersFault t first count ws k ∧ t.parse (clampedValues t ws k) = es[k]?) →
                      w = s.takeBatch (runFrom first es) →
                        (t ≠ .point →
                          s.applyRecord after id first count ws =
                            { s with
                              nodeTable := w.nodeTable, channelTable := w.channelTable
                              calibrationTable := w.calibrationTable, fanTable := w.fanTable
                              doorTable := w.doorTable, watchTable := w.watchTable
                              neighbourTable := w.neighbourTable, triggerTable := w.triggerTable
                              channels :=
                                tabulate fun n =>
                                  if t = .channel ∧ first ≤ n.val ∧ n.val < first + count then
                                    { Channel.off with
                                      mode :=
                                        if (w.channelTable[n]).enabled = false then .off
                                        else if (w.channelTable[n]).warmUp = 0 then .run
                                        else .warming }
                                  else s.channels[n] }) ∧
                          (t = .point →
                            s.applyRecord after id first count ws =
                              ({ s with
                                pointTable := w.pointTable
                                points :=
                                  tabulate fun n =>
                                    if (w.pointTable[n]).filterTime < (s.pointTable[n]).filterTime ∧
                                        (s.points[n]).pin ≠ (s.points[n]).filtered ∧
                                        (w.pointTable[n]).filterTime ≤ (s.points[n]).hold then
                                      { s.points[n] with filtered := (s.points[n]).pin, hold := 0 }
                                    else s.points[n] } : State).followed)))

/-- UNITS_START (R23, R64, R68, R76, R79, R95, R102, R116, R153, R182, R197): due when the index has been built; the mode is
MAINTENANCE or NORMAL as the key stands, the doors are derived from their contacts, the present fans coast or are isolated,
each with its pressurisation demand and the target its slots resolve into, the enabled channels begin, the local cycle
timer runs, the driven pins follow the outputs, and no key is emitted and no event latched.
That nothing happens when no start is due is the model's choice (assumption 21). -/
def Obligations.UnitsStartFromTheFieldAsItStands : Prop :=
  ∀ s : State,
    (s.load ≠ .built → exec .unitsStart s = .next s) ∧
      (s.load = .built →
        ∃ u : State,
          exec .unitsStart s = .next u.followed ∧
            u =
              { s with
                load := .running, channels := u.channels, fans := u.fans, doors := u.doors
                engine := { s.engine with mode := if s.signalActive .maintKey then .maintenance else .normal }
                cycle := { s.cycle with localTimer := some 100 } } ∧
            (∀ n : Fin 12,
              u.channels[n] =
                if (s.channelTable[n]).enabled = true then
                  { Channel.off with
                    mode := if (s.channelTable[n]).warmUp = 0 then .run else .warming
                    countdown := (s.channelTable[n]).divider
                    warmUp := (s.channelTable[n]).warmUp * 100 }
                else Channel.off) ∧
            (∀ (f : Fin 6) (x : Fan),
              x =
                  { (if (s.fanTable[f]).present = false then (s.fans[f]).off .disabled 0
                    else if s.signalActive (.fanIsolator f) = true then (s.fans[f]).off .isolated 0
                    else (s.fans[f]).off .coasting ((s.fanTable[f]).coastTime * 100)) with
                    pressurisationSlot := u.pressurisationDemand f } →
                u.fans[f] =
                  { x with
                    target :=
                      match winnerOf x.demands with
                      | none =>
                        { direction := .fwd, speed := 0, rate := (s.fanTable[f]).defaultRate, source := .none }
                      | some (w, d) =>
                        { direction := d.direction
                          speed := if d.speed = 0 then 0 else max d.speed (s.fanTable[f]).minimumSpeed
                          rate := d.rate
                          source := w } }) ∧
            ∀ d : Fin 6,
              u.doors[d] =
                if (s.doorTable[d]).present = false then
                  { s.doors[d] with mode := .disabled, travelTimer := 0, dwellTimer := 0 }
                else
                  Door.settled s.doorTable[d] (s.assigned (.doorClosed d) && s.assigned (.doorOpen d)) (s.shows d)
                    s.doors[d])
end

