-- ==== Sys2Proof/Laws/State.lean ====
section
/-! SUPPORT. What each single update of the state leaves as it was, and what it makes of the field it writes. -/

namespace Sys2Proof.Machine

@[simp] theorem setPort_address (s : State) (p : Port) (x : PortState) : (s.setPort p x).address = s.address := by cases p <;> rfl
@[simp] theorem setPort_load (s : State) (p : Port) (x : PortState) : (s.setPort p x).load = s.load := by cases p <;> rfl
@[simp] theorem setPort_events (s : State) (p : Port) (x : PortState) : (s.setPort p x).events = s.events := by cases p <;> rfl
@[simp] theorem setPort_nodeTable (s : State) (p : Port) (x : PortState) : (s.setPort p x).nodeTable = s.nodeTable := by cases p <;> rfl
@[simp] theorem setPort_channelTable (s : State) (p : Port) (x : PortState) : (s.setPort p x).channelTable = s.channelTable := by cases p <;> rfl
@[simp] theorem setPort_calibrationTable (s : State) (p : Port) (x : PortState) : (s.setPort p x).calibrationTable = s.calibrationTable := by cases p <;> rfl
@[simp] theorem setPort_fanTable (s : State) (p : Port) (x : PortState) : (s.setPort p x).fanTable = s.fanTable := by cases p <;> rfl
@[simp] theorem setPort_doorTable (s : State) (p : Port) (x : PortState) : (s.setPort p x).doorTable = s.doorTable := by cases p <;> rfl
@[simp] theorem setPort_watchTable (s : State) (p : Port) (x : PortState) : (s.setPort p x).watchTable = s.watchTable := by cases p <;> rfl
@[simp] theorem setPort_neighbourTable (s : State) (p : Port) (x : PortState) : (s.setPort p x).neighbourTable = s.neighbourTable := by cases p <;> rfl
@[simp] theorem setPort_triggerTable (s : State) (p : Port) (x : PortState) : (s.setPort p x).triggerTable = s.triggerTable := by cases p <;> rfl
@[simp] theorem setPort_pointTable (s : State) (p : Port) (x : PortState) : (s.setPort p x).pointTable = s.pointTable := by cases p <;> rfl
@[simp] theorem setPort_cycle (s : State) (p : Port) (x : PortState) : (s.setPort p x).cycle = s.cycle := by cases p <;> rfl
@[simp] theorem setPort_channels (s : State) (p : Port) (x : PortState) : (s.setPort p x).channels = s.channels := by cases p <;> rfl
@[simp] theorem setPort_fans (s : State) (p : Port) (x : PortState) : (s.setPort p x).fans = s.fans := by cases p <;> rfl
@[simp] theorem setPort_doors (s : State) (p : Port) (x : PortState) : (s.setPort p x).doors = s.doors := by cases p <;> rfl
@[simp] theorem setPort_engine (s : State) (p : Port) (x : PortState) : (s.setPort p x).engine = s.engine := by cases p <;> rfl
@[simp] theorem setPort_store (s : State) (p : Port) (x : PortState) : (s.setPort p x).store = s.store := by cases p <;> rfl
@[simp] theorem setPort_supplyOk (s : State) (p : Port) (x : PortState) : (s.setPort p x).supplyOk = s.supplyOk := by cases p <;> rfl
@[simp] theorem setPort_points (s : State) (p : Port) (x : PortState) : (s.setPort p x).points = s.points := by cases p <;> rfl
@[simp] theorem setPort_keys (s : State) (p : Port) (x : PortState) : (s.setPort p x).keys = s.keys := by cases p <;> rfl
@[simp] theorem setPort_freeCount (s : State) (p : Port) (x : PortState) : (s.setPort p x).freeCount = s.freeCount := by cases p <;> rfl
@[simp] theorem setPort_pending (s : State) (p : Port) (x : PortState) : (s.setPort p x).pending = s.pending := by cases p <;> rfl

@[simp] theorem setChannel_address (s : State) (n : Fin 12) (x : Channel) : (s.setChannel n x).address = s.address := rfl
@[simp] theorem setChannel_load (s : State) (n : Fin 12) (x : Channel) : (s.setChannel n x).load = s.load := rfl
@[simp] theorem setChannel_events (s : State) (n : Fin 12) (x : Channel) : (s.setChannel n x).events = s.events := rfl
@[simp] theorem setChannel_nodeTable (s : State) (n : Fin 12) (x : Channel) : (s.setChannel n x).nodeTable = s.nodeTable := rfl
@[simp] theorem setChannel_channelTable (s : State) (n : Fin 12) (x : Channel) : (s.setChannel n x).channelTable = s.channelTable := rfl
@[simp] theorem setChannel_calibrationTable (s : State) (n : Fin 12) (x : Channel) : (s.setChannel n x).calibrationTable = s.calibrationTable := rfl
@[simp] theorem setChannel_fanTable (s : State) (n : Fin 12) (x : Channel) : (s.setChannel n x).fanTable = s.fanTable := rfl
@[simp] theorem setChannel_doorTable (s : State) (n : Fin 12) (x : Channel) : (s.setChannel n x).doorTable = s.doorTable := rfl
@[simp] theorem setChannel_watchTable (s : State) (n : Fin 12) (x : Channel) : (s.setChannel n x).watchTable = s.watchTable := rfl
@[simp] theorem setChannel_neighbourTable (s : State) (n : Fin 12) (x : Channel) : (s.setChannel n x).neighbourTable = s.neighbourTable := rfl
@[simp] theorem setChannel_triggerTable (s : State) (n : Fin 12) (x : Channel) : (s.setChannel n x).triggerTable = s.triggerTable := rfl
@[simp] theorem setChannel_pointTable (s : State) (n : Fin 12) (x : Channel) : (s.setChannel n x).pointTable = s.pointTable := rfl
@[simp] theorem setChannel_portA (s : State) (n : Fin 12) (x : Channel) : (s.setChannel n x).portA = s.portA := rfl
@[simp] theorem setChannel_portB (s : State) (n : Fin 12) (x : Channel) : (s.setChannel n x).portB = s.portB := rfl
@[simp] theorem setChannel_cycle (s : State) (n : Fin 12) (x : Channel) : (s.setChannel n x).cycle = s.cycle := rfl
@[simp] theorem setChannel_fans (s : State) (n : Fin 12) (x : Channel) : (s.setChannel n x).fans = s.fans := rfl
@[simp] theorem setChannel_doors (s : State) (n : Fin 12) (x : Channel) : (s.setChannel n x).doors = s.doors := rfl
@[simp] theorem setChannel_engine (s : State) (n : Fin 12) (x : Channel) : (s.setChannel n x).engine = s.engine := rfl
@[simp] theorem setChannel_store (s : State) (n : Fin 12) (x : Channel) : (s.setChannel n x).store = s.store := rfl
@[simp] theorem setChannel_supplyOk (s : State) (n : Fin 12) (x : Channel) : (s.setChannel n x).supplyOk = s.supplyOk := rfl
@[simp] theorem setChannel_points (s : State) (n : Fin 12) (x : Channel) : (s.setChannel n x).points = s.points := rfl
@[simp] theorem setChannel_keys (s : State) (n : Fin 12) (x : Channel) : (s.setChannel n x).keys = s.keys := rfl
@[simp] theorem setChannel_freeCount (s : State) (n : Fin 12) (x : Channel) : (s.setChannel n x).freeCount = s.freeCount := rfl
@[simp] theorem setChannel_pending (s : State) (n : Fin 12) (x : Channel) : (s.setChannel n x).pending = s.pending := rfl

@[simp] theorem setFan_address (s : State) (f : Fin 6) (x : Fan) : (s.setFan f x).address = s.address := rfl
@[simp] theorem setFan_load (s : State) (f : Fin 6) (x : Fan) : (s.setFan f x).load = s.load := rfl
@[simp] theorem setFan_events (s : State) (f : Fin 6) (x : Fan) : (s.setFan f x).events = s.events := rfl
@[simp] theorem setFan_nodeTable (s : State) (f : Fin 6) (x : Fan) : (s.setFan f x).nodeTable = s.nodeTable := rfl
@[simp] theorem setFan_channelTable (s : State) (f : Fin 6) (x : Fan) : (s.setFan f x).channelTable = s.channelTable := rfl
@[simp] theorem setFan_calibrationTable (s : State) (f : Fin 6) (x : Fan) : (s.setFan f x).calibrationTable = s.calibrationTable := rfl
@[simp] theorem setFan_fanTable (s : State) (f : Fin 6) (x : Fan) : (s.setFan f x).fanTable = s.fanTable := rfl
@[simp] theorem setFan_doorTable (s : State) (f : Fin 6) (x : Fan) : (s.setFan f x).doorTable = s.doorTable := rfl
@[simp] theorem setFan_watchTable (s : State) (f : Fin 6) (x : Fan) : (s.setFan f x).watchTable = s.watchTable := rfl
@[simp] theorem setFan_neighbourTable (s : State) (f : Fin 6) (x : Fan) : (s.setFan f x).neighbourTable = s.neighbourTable := rfl
@[simp] theorem setFan_triggerTable (s : State) (f : Fin 6) (x : Fan) : (s.setFan f x).triggerTable = s.triggerTable := rfl
@[simp] theorem setFan_pointTable (s : State) (f : Fin 6) (x : Fan) : (s.setFan f x).pointTable = s.pointTable := rfl
@[simp] theorem setFan_portA (s : State) (f : Fin 6) (x : Fan) : (s.setFan f x).portA = s.portA := rfl
@[simp] theorem setFan_portB (s : State) (f : Fin 6) (x : Fan) : (s.setFan f x).portB = s.portB := rfl
@[simp] theorem setFan_cycle (s : State) (f : Fin 6) (x : Fan) : (s.setFan f x).cycle = s.cycle := rfl
@[simp] theorem setFan_channels (s : State) (f : Fin 6) (x : Fan) : (s.setFan f x).channels = s.channels := rfl
@[simp] theorem setFan_doors (s : State) (f : Fin 6) (x : Fan) : (s.setFan f x).doors = s.doors := rfl
@[simp] theorem setFan_engine (s : State) (f : Fin 6) (x : Fan) : (s.setFan f x).engine = s.engine := rfl
@[simp] theorem setFan_store (s : State) (f : Fin 6) (x : Fan) : (s.setFan f x).store = s.store := rfl
@[simp] theorem setFan_supplyOk (s : State) (f : Fin 6) (x : Fan) : (s.setFan f x).supplyOk = s.supplyOk := rfl
@[simp] theorem setFan_points (s : State) (f : Fin 6) (x : Fan) : (s.setFan f x).points = s.points := rfl
@[simp] theorem setFan_keys (s : State) (f : Fin 6) (x : Fan) : (s.setFan f x).keys = s.keys := rfl
@[simp] theorem setFan_freeCount (s : State) (f : Fin 6) (x : Fan) : (s.setFan f x).freeCount = s.freeCount := rfl
@[simp] theorem setFan_pending (s : State) (f : Fin 6) (x : Fan) : (s.setFan f x).pending = s.pending := rfl

@[simp] theorem setDoor_address (s : State) (d : Fin 6) (x : Door) : (s.setDoor d x).address = s.address := rfl
@[simp] theorem setDoor_load (s : State) (d : Fin 6) (x : Door) : (s.setDoor d x).load = s.load := rfl
@[simp] theorem setDoor_events (s : State) (d : Fin 6) (x : Door) : (s.setDoor d x).events = s.events := rfl
@[simp] theorem setDoor_nodeTable (s : State) (d : Fin 6) (x : Door) : (s.setDoor d x).nodeTable = s.nodeTable := rfl
@[simp] theorem setDoor_channelTable (s : State) (d : Fin 6) (x : Door) : (s.setDoor d x).channelTable = s.channelTable := rfl
@[simp] theorem setDoor_calibrationTable (s : State) (d : Fin 6) (x : Door) : (s.setDoor d x).calibrationTable = s.calibrationTable := rfl
@[simp] theorem setDoor_fanTable (s : State) (d : Fin 6) (x : Door) : (s.setDoor d x).fanTable = s.fanTable := rfl
@[simp] theorem setDoor_doorTable (s : State) (d : Fin 6) (x : Door) : (s.setDoor d x).doorTable = s.doorTable := rfl
@[simp] theorem setDoor_watchTable (s : State) (d : Fin 6) (x : Door) : (s.setDoor d x).watchTable = s.watchTable := rfl
@[simp] theorem setDoor_neighbourTable (s : State) (d : Fin 6) (x : Door) : (s.setDoor d x).neighbourTable = s.neighbourTable := rfl
@[simp] theorem setDoor_triggerTable (s : State) (d : Fin 6) (x : Door) : (s.setDoor d x).triggerTable = s.triggerTable := rfl
@[simp] theorem setDoor_pointTable (s : State) (d : Fin 6) (x : Door) : (s.setDoor d x).pointTable = s.pointTable := rfl
@[simp] theorem setDoor_portA (s : State) (d : Fin 6) (x : Door) : (s.setDoor d x).portA = s.portA := rfl
@[simp] theorem setDoor_portB (s : State) (d : Fin 6) (x : Door) : (s.setDoor d x).portB = s.portB := rfl
@[simp] theorem setDoor_cycle (s : State) (d : Fin 6) (x : Door) : (s.setDoor d x).cycle = s.cycle := rfl
@[simp] theorem setDoor_channels (s : State) (d : Fin 6) (x : Door) : (s.setDoor d x).channels = s.channels := rfl
@[simp] theorem setDoor_fans (s : State) (d : Fin 6) (x : Door) : (s.setDoor d x).fans = s.fans := rfl
@[simp] theorem setDoor_engine (s : State) (d : Fin 6) (x : Door) : (s.setDoor d x).engine = s.engine := rfl
@[simp] theorem setDoor_store (s : State) (d : Fin 6) (x : Door) : (s.setDoor d x).store = s.store := rfl
@[simp] theorem setDoor_supplyOk (s : State) (d : Fin 6) (x : Door) : (s.setDoor d x).supplyOk = s.supplyOk := rfl
@[simp] theorem setDoor_points (s : State) (d : Fin 6) (x : Door) : (s.setDoor d x).points = s.points := rfl
@[simp] theorem setDoor_keys (s : State) (d : Fin 6) (x : Door) : (s.setDoor d x).keys = s.keys := rfl
@[simp] theorem setDoor_freeCount (s : State) (d : Fin 6) (x : Door) : (s.setDoor d x).freeCount = s.freeCount := rfl
@[simp] theorem setDoor_pending (s : State) (d : Fin 6) (x : Door) : (s.setDoor d x).pending = s.pending := rfl

@[simp] theorem setPoint_address (s : State) (n : Fin 64) (x : Point) : (s.setPoint n x).address = s.address := rfl
@[simp] theorem setPoint_load (s : State) (n : Fin 64) (x : Point) : (s.setPoint n x).load = s.load := rfl
@[simp] theorem setPoint_events (s : State) (n : Fin 64) (x : Point) : (s.setPoint n x).events = s.events := rfl
@[simp] theorem setPoint_nodeTable (s : State) (n : Fin 64) (x : Point) : (s.setPoint n x).nodeTable = s.nodeTable := rfl
@[simp] theorem setPoint_channelTable (s : State) (n : Fin 64) (x : Point) : (s.setPoint n x).channelTable = s.channelTable := rfl
@[simp] theorem setPoint_calibrationTable (s : State) (n : Fin 64) (x : Point) : (s.setPoint n x).calibrationTable = s.calibrationTable := rfl
@[simp] theorem setPoint_fanTable (s : State) (n : Fin 64) (x : Point) : (s.setPoint n x).fanTable = s.fanTable := rfl
@[simp] theorem setPoint_doorTable (s : State) (n : Fin 64) (x : Point) : (s.setPoint n x).doorTable = s.doorTable := rfl
@[simp] theorem setPoint_watchTable (s : State) (n : Fin 64) (x : Point) : (s.setPoint n x).watchTable = s.watchTable := rfl
@[simp] theorem setPoint_neighbourTable (s : State) (n : Fin 64) (x : Point) : (s.setPoint n x).neighbourTable = s.neighbourTable := rfl
@[simp] theorem setPoint_triggerTable (s : State) (n : Fin 64) (x : Point) : (s.setPoint n x).triggerTable = s.triggerTable := rfl
@[simp] theorem setPoint_pointTable (s : State) (n : Fin 64) (x : Point) : (s.setPoint n x).pointTable = s.pointTable := rfl
@[simp] theorem setPoint_portA (s : State) (n : Fin 64) (x : Point) : (s.setPoint n x).portA = s.portA := rfl
@[simp] theorem setPoint_portB (s : State) (n : Fin 64) (x : Point) : (s.setPoint n x).portB = s.portB := rfl
@[simp] theorem setPoint_cycle (s : State) (n : Fin 64) (x : Point) : (s.setPoint n x).cycle = s.cycle := rfl
@[simp] theorem setPoint_channels (s : State) (n : Fin 64) (x : Point) : (s.setPoint n x).channels = s.channels := rfl
@[simp] theorem setPoint_fans (s : State) (n : Fin 64) (x : Point) : (s.setPoint n x).fans = s.fans := rfl
@[simp] theorem setPoint_doors (s : State) (n : Fin 64) (x : Point) : (s.setPoint n x).doors = s.doors := rfl
@[simp] theorem setPoint_engine (s : State) (n : Fin 64) (x : Point) : (s.setPoint n x).engine = s.engine := rfl
@[simp] theorem setPoint_store (s : State) (n : Fin 64) (x : Point) : (s.setPoint n x).store = s.store := rfl
@[simp] theorem setPoint_supplyOk (s : State) (n : Fin 64) (x : Point) : (s.setPoint n x).supplyOk = s.supplyOk := rfl
@[simp] theorem setPoint_keys (s : State) (n : Fin 64) (x : Point) : (s.setPoint n x).keys = s.keys := rfl
@[simp] theorem setPoint_freeCount (s : State) (n : Fin 64) (x : Point) : (s.setPoint n x).freeCount = s.freeCount := rfl
@[simp] theorem setPoint_pending (s : State) (n : Fin 64) (x : Point) : (s.setPoint n x).pending = s.pending := rfl

@[simp] theorem setEngine_address (s : State) (e : EngineState) : (s.setEngine e).address = s.address := rfl
@[simp] theorem setEngine_load (s : State) (e : EngineState) : (s.setEngine e).load = s.load := rfl
@[simp] theorem setEngine_events (s : State) (e : EngineState) : (s.setEngine e).events = s.events := rfl
@[simp] theorem setEngine_nodeTable (s : State) (e : EngineState) : (s.setEngine e).nodeTable = s.nodeTable := rfl
@[simp] theorem setEngine_channelTable (s : State) (e : EngineState) : (s.setEngine e).channelTable = s.channelTable := rfl
@[simp] theorem setEngine_calibrationTable (s : State) (e : EngineState) : (s.setEngine e).calibrationTable = s.calibrationTable := rfl
@[simp] theorem setEngine_fanTable (s : State) (e : EngineState) : (s.setEngine e).fanTable = s.fanTable := rfl
@[simp] theorem setEngine_doorTable (s : State) (e : EngineState) : (s.setEngine e).doorTable = s.doorTable := rfl
@[simp] theorem setEngine_watchTable (s : State) (e : EngineState) : (s.setEngine e).watchTable = s.watchTable := rfl
@[simp] theorem setEngine_neighbourTable (s : State) (e : EngineState) : (s.setEngine e).neighbourTable = s.neighbourTable := rfl
@[simp] theorem setEngine_triggerTable (s : State) (e : EngineState) : (s.setEngine e).triggerTable = s.triggerTable := rfl
@[simp] theorem setEngine_pointTable (s : State) (e : EngineState) : (s.setEngine e).pointTable = s.pointTable := rfl
@[simp] theorem setEngine_portA (s : State) (e : EngineState) : (s.setEngine e).portA = s.portA := rfl
@[simp] theorem setEngine_portB (s : State) (e : EngineState) : (s.setEngine e).portB = s.portB := rfl
@[simp] theorem setEngine_cycle (s : State) (e : EngineState) : (s.setEngine e).cycle = s.cycle := rfl
@[simp] theorem setEngine_channels (s : State) (e : EngineState) : (s.setEngine e).channels = s.channels := rfl
@[simp] theorem setEngine_fans (s : State) (e : EngineState) : (s.setEngine e).fans = s.fans := rfl
@[simp] theorem setEngine_doors (s : State) (e : EngineState) : (s.setEngine e).doors = s.doors := rfl
@[simp] theorem setEngine_store (s : State) (e : EngineState) : (s.setEngine e).store = s.store := rfl
@[simp] theorem setEngine_supplyOk (s : State) (e : EngineState) : (s.setEngine e).supplyOk = s.supplyOk := rfl
@[simp] theorem setEngine_points (s : State) (e : EngineState) : (s.setEngine e).points = s.points := rfl
@[simp] theorem setEngine_keys (s : State) (e : EngineState) : (s.setEngine e).keys = s.keys := rfl
@[simp] theorem setEngine_freeCount (s : State) (e : EngineState) : (s.setEngine e).freeCount = s.freeCount := rfl
@[simp] theorem setEngine_pending (s : State) (e : EngineState) : (s.setEngine e).pending = s.pending := rfl

@[simp] theorem setStore_address (s : State) (x : StoreState) : (s.setStore x).address = s.address := rfl
@[simp] theorem setStore_load (s : State) (x : StoreState) : (s.setStore x).load = s.load := rfl
@[simp] theorem setStore_events (s : State) (x : StoreState) : (s.setStore x).events = s.events := rfl
@[simp] theorem setStore_nodeTable (s : State) (x : StoreState) : (s.setStore x).nodeTable = s.nodeTable := rfl
@[simp] theorem setStore_channelTable (s : State) (x : StoreState) : (s.setStore x).channelTable = s.channelTable := rfl
@[simp] theorem setStore_calibrationTable (s : State) (x : StoreState) : (s.setStore x).calibrationTable = s.calibrationTable := rfl
@[simp] theorem setStore_fanTable (s : State) (x : StoreState) : (s.setStore x).fanTable = s.fanTable := rfl
@[simp] theorem setStore_doorTable (s : State) (x : StoreState) : (s.setStore x).doorTable = s.doorTable := rfl
@[simp] theorem setStore_watchTable (s : State) (x : StoreState) : (s.setStore x).watchTable = s.watchTable := rfl
@[simp] theorem setStore_neighbourTable (s : State) (x : StoreState) : (s.setStore x).neighbourTable = s.neighbourTable := rfl
@[simp] theorem setStore_triggerTable (s : State) (x : StoreState) : (s.setStore x).triggerTable = s.triggerTable := rfl
@[simp] theorem setStore_pointTable (s : State) (x : StoreState) : (s.setStore x).pointTable = s.pointTable := rfl
@[simp] theorem setStore_portA (s : State) (x : StoreState) : (s.setStore x).portA = s.portA := rfl
@[simp] theorem setStore_portB (s : State) (x : StoreState) : (s.setStore x).portB = s.portB := rfl
@[simp] theorem setStore_cycle (s : State) (x : StoreState) : (s.setStore x).cycle = s.cycle := rfl
@[simp] theorem setStore_channels (s : State) (x : StoreState) : (s.setStore x).channels = s.channels := rfl
@[simp] theorem setStore_fans (s : State) (x : StoreState) : (s.setStore x).fans = s.fans := rfl
@[simp] theorem setStore_doors (s : State) (x : StoreState) : (s.setStore x).doors = s.doors := rfl
@[simp] theorem setStore_engine (s : State) (x : StoreState) : (s.setStore x).engine = s.engine := rfl
@[simp] theorem setStore_supplyOk (s : State) (x : StoreState) : (s.setStore x).supplyOk = s.supplyOk := rfl
@[simp] theorem setStore_points (s : State) (x : StoreState) : (s.setStore x).points = s.points := rfl
@[simp] theorem setStore_keys (s : State) (x : StoreState) : (s.setStore x).keys = s.keys := rfl
@[simp] theorem setStore_freeCount (s : State) (x : StoreState) : (s.setStore x).freeCount = s.freeCount := rfl
@[simp] theorem setStore_pending (s : State) (x : StoreState) : (s.setStore x).pending = s.pending := rfl

@[simp] theorem setCycle_address (s : State) (c : CycleState) : (s.setCycle c).address = s.address := rfl
@[simp] theorem setCycle_load (s : State) (c : CycleState) : (s.setCycle c).load = s.load := rfl
@[simp] theorem setCycle_events (s : State) (c : CycleState) : (s.setCycle c).events = s.events := rfl
@[simp] theorem setCycle_nodeTable (s : State) (c : CycleState) : (s.setCycle c).nodeTable = s.nodeTable := rfl
@[simp] theorem setCycle_channelTable (s : State) (c : CycleState) : (s.setCycle c).channelTable = s.channelTable := rfl
@[simp] theorem setCycle_calibrationTable (s : State) (c : CycleState) : (s.setCycle c).calibrationTable = s.calibrationTable := rfl
@[simp] theorem setCycle_fanTable (s : State) (c : CycleState) : (s.setCycle c).fanTable = s.fanTable := rfl
@[simp] theorem setCycle_doorTable (s : State) (c : CycleState) : (s.setCycle c).doorTable = s.doorTable := rfl
@[simp] theorem setCycle_watchTable (s : State) (c : CycleState) : (s.setCycle c).watchTable = s.watchTable := rfl
@[simp] theorem setCycle_neighbourTable (s : State) (c : CycleState) : (s.setCycle c).neighbourTable = s.neighbourTable := rfl
@[simp] theorem setCycle_triggerTable (s : State) (c : CycleState) : (s.setCycle c).triggerTable = s.triggerTable := rfl
@[simp] theorem setCycle_pointTable (s : State) (c : CycleState) : (s.setCycle c).pointTable = s.pointTable := rfl
@[simp] theorem setCycle_portA (s : State) (c : CycleState) : (s.setCycle c).portA = s.portA := rfl
@[simp] theorem setCycle_portB (s : State) (c : CycleState) : (s.setCycle c).portB = s.portB := rfl
@[simp] theorem setCycle_channels (s : State) (c : CycleState) : (s.setCycle c).channels = s.channels := rfl
@[simp] theorem setCycle_fans (s : State) (c : CycleState) : (s.setCycle c).fans = s.fans := rfl
@[simp] theorem setCycle_doors (s : State) (c : CycleState) : (s.setCycle c).doors = s.doors := rfl
@[simp] theorem setCycle_engine (s : State) (c : CycleState) : (s.setCycle c).engine = s.engine := rfl
@[simp] theorem setCycle_store (s : State) (c : CycleState) : (s.setCycle c).store = s.store := rfl
@[simp] theorem setCycle_supplyOk (s : State) (c : CycleState) : (s.setCycle c).supplyOk = s.supplyOk := rfl
@[simp] theorem setCycle_points (s : State) (c : CycleState) : (s.setCycle c).points = s.points := rfl
@[simp] theorem setCycle_keys (s : State) (c : CycleState) : (s.setCycle c).keys = s.keys := rfl
@[simp] theorem setCycle_freeCount (s : State) (c : CycleState) : (s.setCycle c).freeCount = s.freeCount := rfl
@[simp] theorem setCycle_pending (s : State) (c : CycleState) : (s.setCycle c).pending = s.pending := rfl

@[simp] theorem offer_address (s : State) (k : Key) : (s.offer k).address = s.address := rfl
@[simp] theorem offer_load (s : State) (k : Key) : (s.offer k).load = s.load := rfl
@[simp] theorem offer_events (s : State) (k : Key) : (s.offer k).events = s.events := rfl
@[simp] theorem offer_nodeTable (s : State) (k : Key) : (s.offer k).nodeTable = s.nodeTable := rfl
@[simp] theorem offer_channelTable (s : State) (k : Key) : (s.offer k).channelTable = s.channelTable := rfl
@[simp] theorem offer_calibrationTable (s : State) (k : Key) : (s.offer k).calibrationTable = s.calibrationTable := rfl
@[simp] theorem offer_fanTable (s : State) (k : Key) : (s.offer k).fanTable = s.fanTable := rfl
@[simp] theorem offer_doorTable (s : State) (k : Key) : (s.offer k).doorTable = s.doorTable := rfl
@[simp] theorem offer_watchTable (s : State) (k : Key) : (s.offer k).watchTable = s.watchTable := rfl
@[simp] theorem offer_neighbourTable (s : State) (k : Key) : (s.offer k).neighbourTable = s.neighbourTable := rfl
@[simp] theorem offer_triggerTable (s : State) (k : Key) : (s.offer k).triggerTable = s.triggerTable := rfl
@[simp] theorem offer_pointTable (s : State) (k : Key) : (s.offer k).pointTable = s.pointTable := rfl
@[simp] theorem offer_portA (s : State) (k : Key) : (s.offer k).portA = s.portA := rfl
@[simp] theorem offer_portB (s : State) (k : Key) : (s.offer k).portB = s.portB := rfl
@[simp] theorem offer_cycle (s : State) (k : Key) : (s.offer k).cycle = s.cycle := rfl
@[simp] theorem offer_channels (s : State) (k : Key) : (s.offer k).channels = s.channels := rfl
@[simp] theorem offer_fans (s : State) (k : Key) : (s.offer k).fans = s.fans := rfl
@[simp] theorem offer_doors (s : State) (k : Key) : (s.offer k).doors = s.doors := rfl
@[simp] theorem offer_engine (s : State) (k : Key) : (s.offer k).engine = s.engine := rfl
@[simp] theorem offer_store (s : State) (k : Key) : (s.offer k).store = s.store := rfl
@[simp] theorem offer_supplyOk (s : State) (k : Key) : (s.offer k).supplyOk = s.supplyOk := rfl
@[simp] theorem offer_points (s : State) (k : Key) : (s.offer k).points = s.points := rfl
@[simp] theorem offer_freeCount (s : State) (k : Key) : (s.offer k).freeCount = s.freeCount := rfl
@[simp] theorem offer_pending (s : State) (k : Key) : (s.offer k).pending = s.pending := rfl

@[simp] theorem setEvent_address (s : State) (k : EventKind) : (s.setEvent k).address = s.address := rfl
@[simp] theorem setEvent_load (s : State) (k : EventKind) : (s.setEvent k).load = s.load := rfl
@[simp] theorem setEvent_nodeTable (s : State) (k : EventKind) : (s.setEvent k).nodeTable = s.nodeTable := rfl
@[simp] theorem setEvent_channelTable (s : State) (k : EventKind) : (s.setEvent k).channelTable = s.channelTable := rfl
@[simp] theorem setEvent_calibrationTable (s : State) (k : EventKind) : (s.setEvent k).calibrationTable = s.calibrationTable := rfl
@[simp] theorem setEvent_fanTable (s : State) (k : EventKind) : (s.setEvent k).fanTable = s.fanTable := rfl
@[simp] theorem setEvent_doorTable (s : State) (k : EventKind) : (s.setEvent k).doorTable = s.doorTable := rfl
@[simp] theorem setEvent_watchTable (s : State) (k : EventKind) : (s.setEvent k).watchTable = s.watchTable := rfl
@[simp] theorem setEvent_neighbourTable (s : State) (k : EventKind) : (s.setEvent k).neighbourTable = s.neighbourTable := rfl
@[simp] theorem setEvent_triggerTable (s : State) (k : EventKind) : (s.setEvent k).triggerTable = s.triggerTable := rfl
@[simp] theorem setEvent_pointTable (s : State) (k : EventKind) : (s.setEvent k).pointTable = s.pointTable := rfl
@[simp] theorem setEvent_portA (s : State) (k : EventKind) : (s.setEvent k).portA = s.portA := rfl
@[simp] theorem setEvent_portB (s : State) (k : EventKind) : (s.setEvent k).portB = s.portB := rfl
@[simp] theorem setEvent_cycle (s : State) (k : EventKind) : (s.setEvent k).cycle = s.cycle := rfl
@[simp] theorem setEvent_channels (s : State) (k : EventKind) : (s.setEvent k).channels = s.channels := rfl
@[simp] theorem setEvent_fans (s : State) (k : EventKind) : (s.setEvent k).fans = s.fans := rfl
@[simp] theorem setEvent_doors (s : State) (k : EventKind) : (s.setEvent k).doors = s.doors := rfl
@[simp] theorem setEvent_engine (s : State) (k : EventKind) : (s.setEvent k).engine = s.engine := rfl
@[simp] theorem setEvent_store (s : State) (k : EventKind) : (s.setEvent k).store = s.store := rfl
@[simp] theorem setEvent_supplyOk (s : State) (k : EventKind) : (s.setEvent k).supplyOk = s.supplyOk := rfl
@[simp] theorem setEvent_points (s : State) (k : EventKind) : (s.setEvent k).points = s.points := rfl
@[simp] theorem setEvent_keys (s : State) (k : EventKind) : (s.setEvent k).keys = s.keys := rfl
@[simp] theorem setEvent_freeCount (s : State) (k : EventKind) : (s.setEvent k).freeCount = s.freeCount := rfl
@[simp] theorem setEvent_pending (s : State) (k : EventKind) : (s.setEvent k).pending = s.pending := rfl

@[simp] theorem setFan_write (s : State) (f : Fin 6) (x : Fan) : (s.setFan f x).fans = s.fans.set f x := rfl
@[simp] theorem setDoor_write (s : State) (d : Fin 6) (x : Door) : (s.setDoor d x).doors = s.doors.set d x := rfl
@[simp] theorem setPoint_write (s : State) (n : Fin 64) (x : Point) : (s.setPoint n x).points = s.points.set n x := rfl
@[simp] theorem setChannel_write (s : State) (n : Fin 12) (x : Channel) :
    (s.setChannel n x).channels = s.channels.set n x := rfl
@[simp] theorem setEngine_write (s : State) (e : EngineState) : (s.setEngine e).engine = e := rfl
@[simp] theorem setStore_write (s : State) (x : StoreState) : (s.setStore x).store = x := rfl
@[simp] theorem setCycle_write (s : State) (c : CycleState) : (s.setCycle c).cycle = c := rfl
@[simp] theorem offer_write (s : State) (k : Key) : (s.offer k).keys = s.keys ++ [k] := rfl
@[simp] theorem setEvent_write (s : State) (k : EventKind) : (s.setEvent k).events = s.events ||| eventBit k := rfl

@[simp] theorem port_setPort_same (s : State) (p : Port) (x : PortState) : (s.setPort p x).port p = x := by
  cases p <;> rfl
@[simp] theorem port_setPort_other (s : State) (p : Port) (x : PortState) :
    (s.setPort p x).port (otherPort p) = s.port (otherPort p) := by cases p <;> rfl
@[simp] theorem otherPort_otherPort (p : Port) : otherPort (otherPort p) = p := by cases p <;> rfl

@[simp] theorem fan_setFan_same (s : State) (f : Fin 6) (x : Fan) : (s.setFan f x).fan f = x := by
  simp [State.fan, State.setFan]
theorem fan_setFan_ne (s : State) (f g : Fin 6) (x : Fan) (h : f ≠ g) : (s.setFan f x).fan g = s.fan g := by
  have h' : f.val ≠ g.val := fun e => h (Fin.ext e)
  simp [State.fan, State.setFan, Vector.getElem_set_ne _ _ h']
theorem fan_setFan (s : State) (f g : Fin 6) (x : Fan) :
    (s.setFan f x).fan g = if f = g then x else s.fan g := by
  split
  · next h => subst h; simp
  · next h => exact fan_setFan_ne s f g x h
@[simp] theorem setFan_fan (s : State) (f : Fin 6) : s.setFan f (s.fan f) = s := by
  simp [State.setFan, State.fan]

@[simp] theorem door_setDoor_same (s : State) (d : Fin 6) (x : Door) : (s.setDoor d x).door d = x := by
  simp [State.door, State.setDoor]
theorem door_setDoor_ne (s : State) (d e : Fin 6) (x : Door) (h : d ≠ e) : (s.setDoor d x).door e = s.door e := by
  have h' : d.val ≠ e.val := fun i => h (Fin.ext i)
  simp [State.door, State.setDoor, Vector.getElem_set_ne _ _ h']
@[simp] theorem setDoor_door (s : State) (d : Fin 6) : s.setDoor d (s.door d) = s := by
  simp [State.setDoor, State.door]

@[simp] theorem point_setPoint_same (s : State) (n : Fin 64) (x : Point) : (s.setPoint n x).point n = x := by
  simp [State.point, State.setPoint]
theorem point_setPoint_ne (s : State) (n m : Fin 64) (x : Point) (h : n ≠ m) :
    (s.setPoint n x).point m = s.point m := by
  have h' : n.val ≠ m.val := fun i => h (Fin.ext i)
  simp [State.point, State.setPoint, Vector.getElem_set_ne _ _ h']

@[simp] theorem channel_setChannel_same (s : State) (n : Fin 12) (x : Channel) :
    (s.setChannel n x).channel n = x := by
  simp [State.channel, State.setChannel]
theorem channel_setChannel_ne (s : State) (n m : Fin 12) (x : Channel) (h : n ≠ m) :
    (s.setChannel n x).channel m = s.channel m := by
  have h' : n.val ≠ m.val := fun i => h (Fin.ext i)
  simp [State.channel, State.setChannel, Vector.getElem_set_ne _ _ h']

end Sys2Proof.Machine
end

