-- ==== Sys2Proof/Laws/Memory.lean ====
section
/-! SUPPORT. The byte memories: a read after a write, and the canonical form that every operation keeps. -/

namespace Sys2Proof.Machine

/-- Every address of a memory lies above one. -/
def Mem.above (a : Nat) (m : Mem) : Prop := ∀ c ∈ m, a < c.1

theorem Mem.wf_cons (k : Nat) (v : Byte) (m : Mem) :
    Mem.wf ((k, v) :: m) = true ↔ v ≠ 0xFF ∧ Mem.above k m ∧ Mem.wf m = true := by
  induction m generalizing k v with
  | nil => simp [Mem.wf, Mem.above]
  | cons c rest ih =>
    obtain ⟨k', v'⟩ := c
    simp only [Mem.wf, Bool.and_eq_true, decide_eq_true_eq, Mem.above, List.mem_cons, forall_eq_or_imp]
    constructor
    · rintro ⟨⟨hv, hk⟩, hw⟩
      refine ⟨hv, ⟨hk, fun c hc => ?_⟩, hw⟩
      have := ((ih k' v').mp hw).2.1 c hc
      omega
    · rintro ⟨hv, ⟨hk, -⟩, hw⟩
      exact ⟨⟨hv, hk⟩, hw⟩

theorem Mem.above_filter {a : Nat} {m : Mem} (p : Host.Cell → Bool) (h : Mem.above a m) : Mem.above a (m.filter p) :=
  fun c hc => h c (List.mem_filter.mp hc).1

theorem Mem.wf_filter {m : Mem} (p : Host.Cell → Bool) (h : Mem.wf m = true) : Mem.wf (m.filter p) = true := by
  induction m with
  | nil => rfl
  | cons c rest ih =>
    obtain ⟨k, v⟩ := c
    obtain ⟨hv, ha, hw⟩ := (Mem.wf_cons k v rest).mp h
    rw [List.filter_cons]
    split
    · exact (Mem.wf_cons k v _).mpr ⟨hv, Mem.above_filter p ha, ih hw⟩
    · exact ih hw

theorem Mem.mem_insert {m : Mem} {a : Nat} {b : Byte} {c : Host.Cell} (h : c ∈ Mem.insert m a b) :
    c = (a, b) ∨ c ∈ m := by
  induction m with
  | nil => simpa [Mem.insert] using h
  | cons d rest ih =>
    obtain ⟨k, v⟩ := d
    rw [Mem.insert] at h
    split at h
    · simpa using h
    · rcases List.mem_cons.mp h with h | h
      · exact .inr (h ▸ List.mem_cons_self ..)
      · rcases ih h with h | h
        · exact .inl h
        · exact .inr (List.mem_cons_of_mem _ h)

theorem Mem.wf_insert {m : Mem} {a : Nat} {b : Byte} (hb : b ≠ 0xFF) (hn : ∀ c ∈ m, c.1 ≠ a)
    (h : Mem.wf m = true) : Mem.wf (Mem.insert m a b) = true := by
  induction m with
  | nil => simpa [Mem.insert, Mem.wf] using hb
  | cons c rest ih =>
    obtain ⟨k, v⟩ := c
    obtain ⟨hv, ha, hw⟩ := (Mem.wf_cons k v rest).mp h
    rw [Mem.insert]
    have hk : k ≠ a := hn (k, v) (List.mem_cons_self ..)
    split
    · next hlt =>
      refine (Mem.wf_cons a b _).mpr ⟨hb, fun c hc => ?_, h⟩
      rcases List.mem_cons.mp hc with rfl | hc
      · exact hlt
      · exact Nat.lt_trans hlt (ha c hc)
    · next hge =>
      refine (Mem.wf_cons k v _).mpr ⟨hv, fun c hc => ?_, ih (fun c hc => hn c (List.mem_cons_of_mem _ hc)) hw⟩
      rcases Mem.mem_insert hc with rfl | hc
      · exact Nat.lt_of_le_of_ne (Nat.le_of_not_lt hge) hk
      · exact ha c hc

/-- A write keeps the canonical form. -/
theorem Mem.wf_write {m : Mem} (a : Nat) (b : Byte) (h : Mem.wf m = true) : Mem.wf (Mem.write m a b) = true := by
  rw [Mem.write]
  have hf := Mem.wf_filter (fun c => decide (c.1 ≠ a)) h
  split
  · exact hf
  · next hb =>
    refine Mem.wf_insert hb (fun c hc => ?_) hf
    simpa using (List.mem_filter.mp hc).2

/-- A run of writes keeps the canonical form. -/
theorem Mem.wf_writeBytes {m : Mem} (a : Nat) (bs : List Byte) (h : Mem.wf m = true) :
    Mem.wf (Mem.writeBytes m a bs) = true := by
  induction bs generalizing m a with
  | nil => exact h
  | cons b bs ih => exact ih (a + 1) (Mem.wf_write a b h)

theorem Mem.read_filter_ne (m : Mem) (a x : Nat) (h : x ≠ a) :
    Mem.read (m.filter fun c => decide (c.1 ≠ a)) x = Mem.read m x := by
  induction m with
  | nil => rfl
  | cons c rest ih =>
    obtain ⟨k, v⟩ := c
    rw [List.filter_cons]
    by_cases hk : k = a
    · subst hk
      rw [if_neg (by simp), ih, Mem.read, if_neg (Ne.symm h)]
    · rw [if_pos (by simpa using hk), Mem.read, Mem.read, ih]

theorem Mem.read_filter_same (m : Mem) (a : Nat) : Mem.read (m.filter fun c => decide (c.1 ≠ a)) a = 0xFF := by
  induction m with
  | nil => rfl
  | cons c rest ih =>
    obtain ⟨k, v⟩ := c
    rw [List.filter_cons]
    by_cases hk : k = a
    · simpa [hk] using ih
    · simpa [Mem.read, hk] using ih

theorem Mem.read_insert (m : Mem) (a x : Nat) (b : Byte) (hn : ∀ c ∈ m, c.1 ≠ a) :
    Mem.read (Mem.insert m a b) x = if x = a then b else Mem.read m x := by
  induction m with
  | nil => simp [Mem.insert, Mem.read, eq_comm]
  | cons c rest ih =>
    obtain ⟨k, v⟩ := c
    have hk : k ≠ a := hn (k, v) (List.mem_cons_self ..)
    have ih := ih fun c hc => hn c (List.mem_cons_of_mem _ hc)
    rw [Mem.insert]
    split
    · by_cases hx : x = a
      · simp [Mem.read, hx]
      · simp [Mem.read, Ne.symm hx, hx]
    · by_cases hx : x = a
      · subst hx; simp [Mem.read, hk, ih]
      · by_cases hkx : k = x
        · simp [Mem.read, hkx, hx]
        · simp [Mem.read, hkx, ih, hx]

/-- A read after a write: the byte written at its address, and the old byte elsewhere.  It holds of every list. -/
theorem Mem.read_write (m : Mem) (a x : Nat) (b : Byte) :
    Mem.read (Mem.write m a b) x = if x = a then b else Mem.read m x := by
  rw [Mem.write]
  split
  · next hb =>
    split
    · next hx => subst hx; rw [Mem.read_filter_same, hb]
    · next hx => exact Mem.read_filter_ne m a x hx
  · rw [Mem.read_insert]
    · split
      · rfl
      · next hx => exact Mem.read_filter_ne m a x hx
    · intro c hc
      simpa using (List.mem_filter.mp hc).2

/-- A read after a run of writes: the bytes written in the run, and the old bytes elsewhere. -/
theorem Mem.read_writeBytes (m : Mem) (a x : Nat) (bs : List Byte) :
    Mem.read (Mem.writeBytes m a bs) x =
      if a ≤ x ∧ x < a + bs.length then bs.getD (x - a) 0xFF else Mem.read m x := by
  induction bs generalizing m a with
  | nil => rw [Mem.writeBytes, if_neg (by simp)]
  | cons b bs ih =>
    rw [Mem.writeBytes, ih, Mem.read_write]
    by_cases h : x = a
    · subst h; simp
    · by_cases h' : a + 1 ≤ x ∧ x < a + 1 + bs.length
      · have : x - a = (x - (a + 1)) + 1 := by omega
        have h2 : a ≤ x ∧ x < a + (b :: bs).length := by simp only [List.length_cons]; omega
        rw [if_pos h', if_pos h2, this, List.getD_cons_succ]
      · have h2 : ¬ (a ≤ x ∧ x < a + (b :: bs).length) := by simp only [List.length_cons]; omega
        rw [if_neg h', if_neg h2, if_neg h]

@[simp] theorem Mem.length_readBytes (m : Mem) (a n : Nat) : (Mem.readBytes m a n).length = n := by
  simp [Mem.readBytes]

@[simp] theorem StoreState.length_page (x : StoreState) (p : Fin 48) : (x.page p).length = 512 :=
  Mem.length_readBytes ..

/-- A store page given 512 new bytes reads them. -/
theorem StoreState.page_setPage_same (x : StoreState) (p : Fin 48) (bs : List Byte) (h : bs.length = 512) :
    (x.setPage p bs).page p = bs := by
  refine List.ext_getElem (by simp [h]) fun i hi hi' => ?_
  have hi5 : i < 512 := by simpa using hi
  simp only [StoreState.page, StoreState.setPage, Mem.readBytes, List.getElem_map, List.getElem_range,
    Mem.read_writeBytes]
  rw [if_pos (by omega), Nat.add_sub_cancel_left]
  simp [List.getD_eq_getElem?_getD, hi']

/-- A store page given 512 new bytes leaves every other page as it was. -/
theorem StoreState.page_setPage_ne (x : StoreState) (p q : Fin 48) (bs : List Byte) (h : bs.length = 512)
    (hpq : p ≠ q) : (x.setPage p bs).page q = x.page q := by
  have hv : p.val ≠ q.val := fun e => hpq (Fin.ext e)
  refine List.ext_getElem (by simp) fun i hi hi' => ?_
  have hi5 : i < 512 := by simpa using hi
  simp only [StoreState.page, StoreState.setPage, Mem.readBytes, List.getElem_map, List.getElem_range,
    Mem.read_writeBytes, pageBase, h]
  rw [if_neg (by omega)]

theorem StoreState.wf_setPage {x : StoreState} (p : Fin 48) (bs : List Byte) (h : Mem.wf x.cells = true) :
    Mem.wf (x.setPage p bs).cells = true := Mem.wf_writeBytes _ _ h

end Sys2Proof.Machine
end

