-- ==== Sys2Proof/Laws/Line.lean ====
section
/-! SUPPORT. What latching, notices and queuing can change: the event latch and the two ports, and the ports stay
within their bounds. -/

namespace Sys2Proof.Machine

/-! ## Bounds -/

theorem PortState.choose_bounded {p : PortState} (h : p.bounded) : p.choose.bounded := by
  obtain ⟨h1, h2, h3, h4⟩ := h
  unfold PortState.choose
  split
  · exact ⟨h1, h2, h3, h4⟩
  · next hp => exact ⟨by simp only [hp, List.length_cons] at h1; simp only; omega, h2, h3, h4⟩
  · next i is hi hp =>
    simp only [hi, List.length_cons] at h2
    refine ⟨h1, by simp only; omega, ?_, by simp⟩
    simp only [hi, List.filter_cons] at h3
    split at h3
    · simp only [List.length_cons] at h3; simp only; omega
    · exact h3
  · next i is f fs hi hp =>
    split
    · simp only [hi, List.length_cons] at h2
      refine ⟨h1, by simp only; omega, ?_, by simp⟩
      simp only [hi, List.filter_cons] at h3
      split at h3
      · simp only [List.length_cons] at h3; simp only; omega
      · exact h3
    · next hs =>
      simp only [hp, List.length_cons] at h1
      exact ⟨by simp only; omega, h2, h3, by simp only; omega⟩

theorem PortState.kick_bounded {p : PortState} (h : p.bounded) : p.kick.bounded := by
  unfold PortState.kick
  split
  · exact PortState.choose_bounded h
  · exact h

theorem length_replaceReport (f : Frame) (q : List Frame) : (replaceReport f q).length = q.length := by
  induction q with
  | nil => rfl
  | cons g gs ih => rw [replaceReport]; split <;> simp [ih]

theorem reports_replaceReport (f : Frame) (q : List Frame) (hf : isReport f = true) :
    ((replaceReport f q).filter isReport).length = (q.filter isReport).length := by
  induction q with
  | nil => rfl
  | cons g gs ih =>
    rw [replaceReport]
    split
    · next hg => simp [hf, hg]
    · next hg => simp [hg, ih]

theorem PortState.placeInsert_bounded {p : PortState} (f : Frame) (h : p.bounded) : (p.placeInsert f).1.bounded := by
  unfold PortState.placeInsert
  split
  · exact h
  · split
    · next hr =>
      obtain ⟨h1, h2, h3, h4⟩ := h
      simp only [Bool.and_eq_true] at hr
      refine ⟨h1, ?_, ?_, h4⟩
      · simpa only [length_replaceReport] using h2
      · simpa only [reports_replaceReport f _ hr.1] using h3
    · next hr =>
      split
      · exact h
      · next hl =>
        obtain ⟨h1, h2, h3, h4⟩ := h
        refine PortState.kick_bounded ⟨h1, ?_, ?_, h4⟩
        · simp only [List.length_append, List.length_cons, List.length_nil]; omega
        · simp only [List.filter_append, List.length_append]
          by_cases hf : isReport f = true
          · have hn : p.insertQueue.filter isReport = [] := by
              simp only [List.filter_eq_nil_iff]
              intro g hg hgr
              apply hr
              simp only [Bool.and_eq_true, List.any_eq_true]
              exact ⟨hf, g, hg, hgr⟩
            simp [hn, hf]
          · simp [hf, h3]

theorem PortState.placePass_bounded {p : PortState} (f : Frame) (h : p.bounded) : (p.placePass f).1.bounded := by
  unfold PortState.placePass
  split
  · exact h
  · split
    · exact h
    · obtain ⟨h1, h2, h3, h4⟩ := h
      refine PortState.kick_bounded ⟨?_, h2, h3, h4⟩
      simp only [List.length_append, List.length_cons, List.length_nil]; omega

theorem State.queuesBounded_port {s : State} (h : s.queuesBounded) (p : Port) : (s.port p).bounded := by
  cases p
  · exact h.1
  · exact h.2

theorem State.queuesBounded_setPort {s : State} {x : PortState} (h : s.queuesBounded) (p : Port) (hx : x.bounded) :
    (s.setPort p x).queuesBounded := by
  cases p
  · exact ⟨hx, h.2⟩
  · exact ⟨h.1, hx⟩

/-! ## What queuing and latching change -/

/-- A state with its event latch and ports replaced by fixed ones: what is left is what queuing cannot change. -/
def State.sansLine (s : State) : State := { s with events := 0, portA := .reset, portB := .reset }

@[simp] theorem sansLine_setPort (s : State) (p : Port) (x : PortState) : (s.setPort p x).sansLine = s.sansLine := by
  cases p <;> rfl

@[simp] theorem sansLine_setEvent (s : State) (k : EventKind) : (s.setEvent k).sansLine = s.sansLine := rfl

@[simp] theorem sansLine_insertAt (s : State) (p : Port) (f : Frame) : (s.insertAt p f).1.sansLine = s.sansLine := by
  simp [State.insertAt]

@[simp] theorem sansLine_insertBoth (s : State) (f : Frame) : (s.insertBoth f).1.sansLine = s.sansLine := by
  simp [State.insertBoth]

@[simp] theorem sansLine_latchInsertLoss (s : State) : s.latchInsertLoss.sansLine = s.sansLine := by
  unfold State.latchInsertLoss
  split
  · rfl
  · simp only
    split <;> simp

@[simp] theorem sansLine_queueToAll (s : State) (f : Frame) : (s.queueToAll f).sansLine = s.sansLine := by
  unfold State.queueToAll
  simp only
  split <;> simp

@[simp] theorem sansLine_queueTo (s : State) (p : Port) (f : Frame) : (s.queueTo p f).sansLine = s.sansLine := by
  unfold State.queueTo
  simp only
  split <;> simp

@[simp] theorem sansLine_notify (s : State) (c : Byte) : (s.notify c).sansLine = s.sansLine := by
  unfold State.notify
  split <;> simp

/-- Latching a kind changes nothing but the event latch and the ports (R194). -/
@[simp] theorem sansLine_latch (s : State) (k : EventKind) : (s.latch k).sansLine = s.sansLine := by
  unfold State.latch
  split
  · rfl
  · simp only
    split <;> simp

/-- A state that agrees with another but for its event latch and ports. -/
theorem State.eq_of_sansLine {s t : State} (h : t.sansLine = s.sansLine) :
    t = { s with events := t.events, portA := t.portA, portB := t.portB } := by
  cases s; cases t; simp_all [State.sansLine]

theorem latch_eq (s : State) (k : EventKind) :
    s.latch k = { s with events := (s.latch k).events, portA := (s.latch k).portA, portB := (s.latch k).portB } :=
  State.eq_of_sansLine (sansLine_latch s k)

theorem notify_eq (s : State) (c : Byte) :
    s.notify c = { s with events := (s.notify c).events, portA := (s.notify c).portA, portB := (s.notify c).portB } :=
  State.eq_of_sansLine (sansLine_notify s c)

theorem queueTo_eq (s : State) (p : Port) (f : Frame) :
    s.queueTo p f =
      { s with events := (s.queueTo p f).events, portA := (s.queueTo p f).portA, portB := (s.queueTo p f).portB } :=
  State.eq_of_sansLine (sansLine_queueTo s p f)

theorem queueToAll_eq (s : State) (f : Frame) :
    s.queueToAll f =
      { s with events := (s.queueToAll f).events, portA := (s.queueToAll f).portA, portB := (s.queueToAll f).portB } :=
  State.eq_of_sansLine (sansLine_queueToAll s f)

/-! ## Queuing and latching keep the bounds -/

theorem queuesBounded_insertAt {s : State} (p : Port) (f : Frame) (h : s.queuesBounded) :
    (s.insertAt p f).1.queuesBounded :=
  State.queuesBounded_setPort h p (PortState.placeInsert_bounded f (State.queuesBounded_port h p))

theorem queuesBounded_insertBoth {s : State} (f : Frame) (h : s.queuesBounded) : (s.insertBoth f).1.queuesBounded :=
  queuesBounded_insertAt .b f (queuesBounded_insertAt .a f h)

theorem queuesBounded_latchInsertLoss {s : State} (h : s.queuesBounded) : s.latchInsertLoss.queuesBounded := by
  unfold State.latchInsertLoss
  split
  · exact h
  · simp only
    split
    · exact queuesBounded_insertBoth _ h
    · exact h

theorem queuesBounded_queueToAll {s : State} (f : Frame) (h : s.queuesBounded) : (s.queueToAll f).queuesBounded := by
  unfold State.queueToAll
  simp only
  split
  · exact queuesBounded_latchInsertLoss (queuesBounded_insertBoth f h)
  · exact queuesBounded_insertBoth f h

theorem queuesBounded_queueTo {s : State} (p : Port) (f : Frame) (h : s.queuesBounded) :
    (s.queueTo p f).queuesBounded := by
  unfold State.queueTo
  simp only
  split
  · exact queuesBounded_latchInsertLoss (queuesBounded_insertAt p f h)
  · exact queuesBounded_insertAt p f h

theorem queuesBounded_notify {s : State} (c : Byte) (h : s.queuesBounded) : (s.notify c).queuesBounded := by
  unfold State.notify
  split
  · exact queuesBounded_queueToAll _ h
  · exact h

theorem queuesBounded_latch {s : State} (k : EventKind) (h : s.queuesBounded) : (s.latch k).queuesBounded := by
  unfold State.latch
  split
  · exact h
  · simp only
    split
    · exact queuesBounded_notify _ h
    · exact h

/-- A kind that stands latched changes nothing when it is latched again (R194). -/
theorem latch_of_latched {s : State} {k : EventKind} (h : s.latched k = true) : s.latch k = s := by
  simp [State.latch, h]

theorem EventKind.code_lt (k : EventKind) : k.code < 24 := by cases k <;> decide

/-- The latch bit of a kind is the bit its code names, alone. -/
theorem getLsbD_eventBit (k : EventKind) (i : Nat) : (eventBit k).getLsbD i = decide (i = k.code) := by
  have h := k.code_lt
  simp only [eventBit, BitVec.getLsbD_shiftLeft]
  by_cases hi : i = k.code
  · simp [hi, h]
  · simp only [hi, decide_false]
    by_cases h1 : i < k.code
    · simp [h1]
    · simp; omega

/-- A kind reads latched exactly where it was, or where it is the one set. -/
theorem latched_setEvent (s : State) (j k : EventKind) :
    (s.setEvent k).latched j = (s.latched j || decide (j = k)) := by
  simp only [State.latched, setEvent_write, BitVec.getLsbD_or, getLsbD_eventBit]
  congr 1
  cases j <;> cases k <;> rfl

/-- A kind whose notice mask bit is clear is latched without a notice (R194). -/
theorem latch_of_unmasked {s : State} {k : EventKind} (h : s.masked k = false) : s.latch k = s.setEvent k := by
  unfold State.latch
  split
  · next hl =>
    have : s.events ||| eventBit k = s.events := by
      refine BitVec.eq_of_getLsbD_eq fun i hi => ?_
      rw [BitVec.getLsbD_or, getLsbD_eventBit]
      by_cases hk : i = k.code
      · subst hk
        simp only [State.latched] at hl
        simp [hl]
      · simp [hk]
    simp [State.setEvent, this]
  · have : (s.setEvent k).masked k = false := h
    simp [this]

end Sys2Proof.Machine
end

