-- ==== Sys2Proof/Laws/Engine.lean ====
section
/-! SUPPORT. Every update the Response Engine makes keeps its queue in order and no number twice. -/

namespace Sys2Proof.Machine

/-- The numbers of the active responses. -/
def EngineState.activeNumbers (v : Vector (Option ActiveResponse) 4) : List (Fin 128) :=
  v.toList.filterMap fun a => a.map ActiveResponse.number

theorem EngineState.numbers_eq (e : EngineState) :
    e.numbers = e.queue.map Queued.number ++ (e.fetch.map Fetch.number).toList ++ activeNumbers e.active := rfl

/-- An engine whose queue is a sublist and whose numbers are a sublist of an orderly one's is orderly. -/
theorem EngineState.orderly_of_sublist {e e' : EngineState} (h : e.orderly) (hq : e'.queue.Sublist e.queue)
    (hn : e'.numbers.Sublist e.numbers) : e'.orderly :=
  ⟨hq.length_le.trans h.1, h.2.1.sublist hq, h.2.2.sublist hn⟩

theorem EngineState.orderly_congr {e e' : EngineState} (h : e.orderly) (hq : e'.queue = e.queue)
    (hf : e'.fetch.map Fetch.number = e.fetch.map Fetch.number)
    (ha : EngineState.activeNumbers e'.active = EngineState.activeNumbers e.active) : e'.orderly := by
  have hn : e'.numbers = e.numbers := by rw [numbers_eq, numbers_eq, hq, hf, ha]
  exact ⟨hq ▸ h.1, hq ▸ h.2.1, hn ▸ h.2.2⟩

/-- The head of the queue going into fetch (R143). -/
theorem EngineState.orderly_fetchHead {e : EngineState} {q : Queued} {rest : List Queued} {f : Fetch} (h : e.orderly)
    (hf : e.fetch = none) (hq : e.queue = q :: rest) (hn : f.number = q.number) :
    ({ e with queue := rest, fetch := some f } : EngineState).orderly := by
  obtain ⟨h1, h2, h3⟩ := h
  rw [numbers_eq] at h3
  rw [hq] at h1 h2 h3
  rw [hf] at h3
  refine ⟨by simp only [List.length_cons] at h1; simp only; omega, h2.of_cons, ?_⟩
  rw [numbers_eq]
  refine (List.Perm.nodup_iff ?_).mp h3
  simp only [hn, List.map_cons, Option.map_none, Option.toList_none, List.append_nil, Option.map_some,
    Option.toList_some, List.cons_append]
  rw [List.append_assoc]
  exact (List.perm_middle (l₁ := rest.map Queued.number)).symm

theorem mem_enqueue (q h : Queued) (l : List Queued) : h ∈ enqueue q l ↔ h = q ∨ h ∈ l := by
  induction l with
  | nil => simp [enqueue]
  | cons a l ih =>
    rw [enqueue]
    split
    · simp
    · simp [ih]; tauto

theorem enqueue_perm (q : Queued) (l : List Queued) : (enqueue q l).Perm (q :: l) := by
  induction l with
  | nil => exact .refl _
  | cons a l ih =>
    rw [enqueue]
    split
    · exact .refl _
    · exact (ih.cons a).trans (.swap ..)

/-- A newcomer's place keeps the queue in falling precedence (R142). -/
theorem pairwise_enqueue (q : Queued) (l : List Queued) (h : l.Pairwise fun a b => b.precedence ≤ a.precedence) :
    (enqueue q l).Pairwise fun a b => b.precedence ≤ a.precedence := by
  induction l with
  | nil => simp [enqueue]
  | cons a l ih =>
    obtain ⟨ha, hl⟩ := List.pairwise_cons.mp h
    rw [enqueue]
    split
    · next hlt =>
      refine List.pairwise_cons.mpr ⟨fun b hb => ?_, h⟩
      rcases List.mem_cons.mp hb with rfl | hb
      · omega
      · have := ha b hb; omega
    · next hlt =>
      refine List.pairwise_cons.mpr ⟨fun b hb => ?_, ih hl⟩
      rcases (mem_enqueue q b l).mp hb with rfl | hb
      · omega
      · exact ha b hb

/-- A newcomer queued (R140, R142). -/
theorem EngineState.orderly_enqueue {e : EngineState} {q : Queued} {l : List Queued} (h : e.orderly)
    (hl : l.Sublist e.queue) (h4 : l.length < 4) (hn : q.number ∉ e.numbers) :
    ({ e with queue := enqueue q l } : EngineState).orderly := by
  obtain ⟨h1, h2, h3⟩ := h
  refine ⟨?_, pairwise_enqueue q l (h2.sublist hl), ?_⟩
  · rw [(enqueue_perm q l).length_eq]
    simp only [List.length_cons]
    omega
  · have hp : ({ e with queue := enqueue q l } : EngineState).numbers.Perm
        (q.number :: ({ e with queue := l } : EngineState).numbers) := by
      rw [numbers_eq, numbers_eq]
      have := ((enqueue_perm q l).map Queued.number).append_right ((e.fetch.map Fetch.number).toList)
      exact this.append_right _
    have hs : ({ e with queue := l } : EngineState).numbers.Sublist e.numbers := by
      rw [numbers_eq, numbers_eq]
      exact ((hl.map _).append_right _).append_right _
    exact hp.nodup_iff.mpr (List.nodup_cons.mpr ⟨fun hm => hn (hs.subset hm), h3.sublist hs⟩)

/-- The numbers are those queued, in fetch and active. -/
theorem EngineState.mem_numbers (e : EngineState) (n : Fin 128) :
    n ∈ e.numbers ↔ (e.isQueued n || e.isFetching n || e.isActive n) = true := by
  have h1 : e.isQueued n = true ↔ n ∈ e.queue.map Queued.number := by
    simp only [isQueued, List.any_eq_true, decide_eq_true_eq, List.mem_map]
  have h2 : e.isFetching n = true ↔ n ∈ (e.fetch.map Fetch.number).toList := by
    unfold isFetching
    cases e.fetch <;> simp [eq_comm]
  have h3 : e.isActive n = true ↔ n ∈ activeNumbers e.active := by
    simp only [isActive, activeNumbers, List.any_eq_true, List.mem_filterMap, Option.map_eq_some_iff]
    constructor
    · rintro ⟨a, ha, hn⟩
      split at hn
      · next r => exact ⟨_, ha, r, rfl, by simpa using hn⟩
      · cases hn
    · rintro ⟨a, ha, r, rfl, rfl⟩
      exact ⟨_, ha, by simp⟩
  rw [numbers_eq, List.mem_append, List.mem_append, ← h1, ← h2, ← h3]
  simp only [Bool.or_eq_true]

theorem filterMap_set_none {α β : Type} (g : Option α → Option β) (hg : g none = none) (l : List (Option α)) (i : Nat) :
    ((l.set i none).filterMap g).Sublist (l.filterMap g) := by
  induction l generalizing i with
  | nil => exact .refl _
  | cons a l ih =>
    cases i with
    | zero =>
      rw [List.set_cons_zero, List.filterMap_cons, hg, List.filterMap_cons]
      simp only
      split
      · exact .refl _
      · exact List.sublist_cons_self ..
    | succ i =>
      rw [List.set_cons_succ, List.filterMap_cons, List.filterMap_cons]
      split
      · exact ih i
      · exact (ih i).cons_cons _

theorem filterMap_set_some {α β : Type} (g : Option α → Option β) (b : β) (x : Option α) (hx : g x = some b)
    (l : List (Option α)) (i : Nat) (hi : i < l.length) :
    ∃ l', l'.Sublist (l.filterMap g) ∧ ((l.set i x).filterMap g).Perm (b :: l') := by
  induction l generalizing i with
  | nil => cases hi
  | cons a l ih =>
    cases i with
    | zero =>
      refine ⟨l.filterMap g, ?_, ?_⟩
      · rw [List.filterMap_cons]
        split
        · exact .refl _
        · exact List.sublist_cons_self ..
      · rw [List.set_cons_zero, List.filterMap_cons, hx]
    | succ i =>
      obtain ⟨l', h1, h2⟩ := ih i (by simpa using hi)
      rw [List.set_cons_succ, List.filterMap_cons, List.filterMap_cons]
      split
      · exact ⟨l', h1, h2⟩
      · next c _ => exact ⟨c :: l', h1.cons_cons _, (h2.cons c).trans (.swap ..)⟩

/-- A freed slot (R148, R150). -/
theorem EngineState.orderly_freeSlot {e : EngineState} (h : e.orderly) (k : Fin 4) :
    ({ e with active := e.active.set k none } : EngineState).orderly := by
  refine orderly_of_sublist h (.refl _) ?_
  rw [numbers_eq, numbers_eq]
  refine List.Sublist.append_left ?_ _
  unfold activeNumbers
  rw [Vector.toList_set]
  exact filterMap_set_none _ rfl _ _

/-- A slot taken by a response that stands nowhere (R146). -/
theorem EngineState.orderly_occupy {e : EngineState} (h : e.orderly) (k : Fin 4) (a : ActiveResponse)
    (hn : a.number ∉ e.numbers) (c : Nat) :
    ({ e with active := e.active.set k (some a), sequence := c } : EngineState).orderly := by
  obtain ⟨h1, h2, h3⟩ := h
  refine ⟨h1, h2, ?_⟩
  rw [numbers_eq] at hn h3 ⊢
  obtain ⟨l', hs, hp⟩ :=
    filterMap_set_some (fun x : Option ActiveResponse => x.map ActiveResponse.number) a.number (some a) rfl
      e.active.toList k.val (by simp)
  have hp' : (e.queue.map Queued.number ++ (e.fetch.map Fetch.number).toList ++
      activeNumbers (e.active.set k (some a))).Perm
      (a.number :: (e.queue.map Queued.number ++ (e.fetch.map Fetch.number).toList ++ l')) := by
    unfold activeNumbers
    rw [Vector.toList_set]
    exact (hp.append_left _).trans List.perm_middle
  have hs' := hs.append_left (e.queue.map Queued.number ++ (e.fetch.map Fetch.number).toList)
  exact hp'.nodup_iff.mpr (List.nodup_cons.mpr ⟨fun hm => hn (hs'.subset hm), h3.sublist hs'⟩)

/-- Renumbered sequences leave the numbers (R147). -/
theorem EngineState.activeNumbers_map (v : Vector (Option ActiveResponse) 4) (g : ActiveResponse → ActiveResponse)
    (hg : ∀ r, (g r).number = r.number) :
    activeNumbers (tabulate fun k => (v[k]).map g) = activeNumbers v := by
  have : (tabulate fun k => (v[k]).map g) = v.map fun a => a.map g := by
    refine Vector.ext fun i hi => ?_
    simp
  rw [this]
  unfold activeNumbers
  rw [Vector.toList_map, List.filterMap_map]
  congr 1
  funext a
  cases a <;> simp [hg]

end Sys2Proof.Machine
end

