-- ==== Sys2Proof/Laws/Moves.lean ====
section
/-! SUPPORT. What the units and the engine can do within one event, said once: `Moves s t` is a chain of primitive
moves, and each shared operation of the fans, doors, points, slot service and engine is such a chain.  A property
that every primitive move keeps is kept by all of them. -/

namespace Sys2Proof.Machine

/-- How a drive can move apart from a target change: to FAULT, ISOLATED, COASTING or DISABLED, or by its confirm
input. -/
inductive DriveMove (x : Fan) : Fan → Prop
  | fault : DriveMove x x.toFault
  | isolated : DriveMove x x.toIsolated
  | coast (e : FanEntry) : DriveMove x (x.coast e)
  | disabled : DriveMove x x.toDisabled
  | confirm (e : FanEntry) (active : Bool) : DriveMove x (x.confirmChange e active)

/-- Chains of primitive moves.  `C` is what a move of the engine may assume when it keeps the engine orderly. -/
inductive Moves (C : Prop) : State → State → Prop
  | refl (s : State) : Moves C s s
  | trans {s t u : State} (h : Moves C s t) (h' : Moves C t u) : Moves C s u
  | engine (s : State) (e : EngineState) (h : s.engine.mode = .incident → e.mode = .incident)
      (ho : C → s.engine.orderly → e.orderly) : Moves C s (s.setEngine e)
  | service (s : State) (v : SlotService) (b : List SlotRequest) :
      Moves C s (s.setStore { s.store with service := v, behind := b })
  | resume (s : State) : Moves C s (s.setStore s.store.resumed)
  | latch (s : State) (k : EventKind) : Moves C s (s.latch k)
  | notify (s : State) (c : Byte) : Moves C s (s.notify c)
  | offer (s : State) (k : Key) : Moves C s (s.offer k)
  | dropKeys (s : State) : Moves C s { s with keys := [] }
  | slots (s : State) (f : Fin 6) (line : Option Demand) (resp : Vector (Option ResponseDemand) 4)
      (press : Option Demand) :
      Moves C s (s.setFan f { s.fan f with lineSlot := line, responseSlots := resp, pressurisationSlot := press })
  | renumber (s : State) (v : Fin 6 → Vector (Option ResponseDemand) 4) :
      Moves C s { s with fans := tabulate fun f => { s.fan f with responseSlots := v f } }
  | resolve (s : State) (f : Fin 6) : Moves C s (s.resolveFan f)
  | drive (s : State) (f : Fin 6) (x : Fan) (h : DriveMove (s.fan f) x) : Moves C s (s.setFan f x)
  | door (s : State) (d : Fin 6) (x : Door) : Moves C s (s.setDoor d x)

variable {C : Prop}

theorem Moves.ite {s t u : State} (c : Prop) [Decidable c] (h : Moves C s t) (h' : Moves C s u) :
    Moves C s (if c then t else u) := by split <;> assumption

/-- The engine given a state of the same mode, and then moves. -/
theorem Moves.engineThen {s u : State} {e : EngineState} (h : Moves C (s.setEngine e) u)
    (hm : e.mode = s.engine.mode) (ho : s.engine.orderly → e.orderly) : Moves C s u :=
  .trans (.engine s e (fun hi => hm.trans hi) fun _ => ho) h

theorem forEach_moves {n : Nat} {body : Fin n → State → State} (h : ∀ i s, Moves C s (body i s)) (s : State) :
    Moves C s (forEach body s) := by
  unfold forEach
  generalize List.finRange n = l
  induction l generalizing s with
  | nil => exact .refl s
  | cons i l ih => exact .trans (h i s) (ih _)

theorem foldl_moves {α : Type} {body : State → α → State} (h : ∀ s a, Moves C s (body s a)) (l : List α) (s : State) :
    Moves C s (l.foldl body s) := by
  induction l generalizing s with
  | nil => exact .refl s
  | cons a l ih => exact .trans (h s a) (ih _)

/-! ## Fans and pressurisation -/

theorem writePressurisation_moves (f : Fin 6) (s : State) : Moves C s (s.writePressurisation f) :=
  .slots s f (s.fan f).lineSlot (s.fan f).responseSlots (s.pressurisationDemand f)

theorem recomputePressurisation_moves (f : Fin 6) (s : State) : Moves C s (s.recomputePressurisation f) := by
  unfold State.recomputePressurisation
  exact .ite _ (.refl s) (.trans (writePressurisation_moves f s) (.resolve _ f))

theorem recomputeGallery_moves (s : State) : Moves C s s.recomputeGallery :=
  forEach_moves (fun f s => .ite _ (recomputePressurisation_moves f s) (.refl s)) s

theorem recomputeFor_moves (fan : Option (Fin 6)) (s : State) : Moves C s (s.recomputeFor fan) := by
  cases fan
  · exact .refl s
  · exact recomputePressurisation_moves _ s

theorem setLineSlot_moves (f : Fin 6) (d : Option Demand) (s : State) : Moves C s (s.setLineSlot f d) :=
  .trans (.slots s f d (s.fan f).responseSlots (s.fan f).pressurisationSlot) (.resolve _ f)

theorem fanToFault_moves (f : Fin 6) (s : State) : Moves C s (s.fanToFault f) :=
  .trans (.trans (.drive s f _ .fault) (.offer _ _)) (.latch _ _)

theorem fanToIsolated_moves (f : Fin 6) (s : State) : Moves C s (s.fanToIsolated f) :=
  .trans (.trans (.drive s f _ .isolated) (.offer _ _)) (.latch _ _)

theorem fanConfirmChange_moves (f : Fin 6) (a : Bool) (s : State) : Moves C s (s.fanConfirmChange f a) :=
  .drive s f _ (.confirm _ a)

theorem fanIsolatorChange_moves (f : Fin 6) (a : Bool) (s : State) : Moves C s (s.fanIsolatorChange f a) := by
  unfold State.fanIsolatorChange
  split
  · exact .refl s
  · exact .refl s
  · exact .drive s f _ (.coast _)
  · exact fanToIsolated_moves f s
  · exact .refl s

theorem fanBecomesPresent_moves (f : Fin 6) (s : State) : Moves C s (s.fanBecomesPresent f) := by
  unfold State.fanBecomesPresent
  exact .ite _ (fanToIsolated_moves f s) (.drive s f _ (.coast _))

theorem madeAbsent_moves (f : Fin 6) (s : State) : Moves C s (s.setFan f (s.fan f).madeAbsent) := by
  have h1 := Moves.drive (C := C) s f _ .disabled
  have h2 := Moves.slots (C := C) (s.setFan f (s.fan f).toDisabled) f none (Vector.replicate 4 none)
    (s.fan f).toDisabled.pressurisationSlot
  refine .trans h1 ?_
  convert h2 using 1
  simp [State.setFan, State.fan, Fan.madeAbsent, Vector.set_set]

theorem fanWritten_moves (f : Fin 6) (old : FanEntry) (s : State) : Moves C s (s.fanWritten f old) := by
  unfold State.fanWritten
  refine .trans (.trans ?_ (writePressurisation_moves f _)) (.resolve _ f)
  exact .ite _ (fanBecomesPresent_moves f s) (.ite _ (madeAbsent_moves f s) (.refl s))

/-! ## Doors -/

theorem doorOpens_moves (d : Fin 6) (s : State) : Moves C s (s.doorOpens d) := .trans (.door s d _) (.offer _ _)

theorem doorStartsOpening_moves (d : Fin 6) (s : State) : Moves C s (s.doorStartsOpening d) := by
  unfold State.doorStartsOpening
  exact .ite _ (doorOpens_moves d s) (.door s d _)

theorem doorShuts_moves (d : Fin 6) (s : State) : Moves C s (s.doorShuts d) := by
  unfold State.doorShuts
  have h := Moves.trans (C := C) (.door s d ((s.door d).toRest .closed)) (.offer _ (plainKey .doorShut d.val))
  exact .ite _ (.trans h (doorStartsOpening_moves d _)) h

theorem doorStartsClosing_moves (d : Fin 6) (s : State) : Moves C s (s.doorStartsClosing d) := by
  unfold State.doorStartsClosing
  exact .ite _ (doorShuts_moves d s) (.door s d _)

theorem doorJams_moves (d : Fin 6) (s : State) : Moves C s (s.doorJams d) :=
  .trans (.trans (.door s d _) (.offer _ _)) (.latch _ _)

theorem doorContactFaults_moves (d : Fin 6) (s : State) : Moves C s (s.doorContactFaults d) :=
  .trans (.trans (.door s d _) (.offer _ _)) (.latch _ _)

theorem doorForced_moves (d : Fin 6) (s : State) : Moves C s (s.doorForced d) :=
  .trans (.trans (.offer s _) (.latch _ _)) (doorStartsOpening_moves d _)

theorem deriveDoor_moves (d : Fin 6) (s : State) : Moves C s (s.deriveDoor d) := by
  unfold State.deriveDoor
  refine .ite _ (doorContactFaults_moves d s) ?_
  split
  · exact doorContactFaults_moves d s
  · exact doorShuts_moves d s
  · exact doorOpens_moves d s
  · exact doorJams_moves d s

theorem doorTakesContact_moves (d : Fin 6) (w : Contact) (a : Bool) (s : State) :
    Moves C s (s.doorTakesContact d w a) := by
  have hc := doorContactFaults_moves (C := C) d s
  have hs := doorShuts_moves (C := C) d s
  have ho := doorOpens_moves (C := C) d s
  unfold State.doorTakesContact
  split
  · exact .refl s
  · exact .refl s
  · exact .ite _ (deriveDoor_moves d s) (.refl s)
  · exact .ite _ hc (.ite _ (doorForced_moves d s) (.refl s))
  · exact .ite _ hc (.ite _ ho (.refl s))
  · exact .ite _ hc (.ite _ hs (.refl s))
  · exact .ite _ hc (.ite _ hs (.refl s))
  · exact .ite _ hc (.ite _ hs (.ite _ ho (.refl s)))

theorem handClosedContact_moves (d : Fin 6) (w : Contact) (s : State) : Moves C s (s.handClosedContact d w) := by
  cases w
  · exact recomputeFor_moves _ s
  · exact .refl s

theorem doorContactChange_moves (d : Fin 6) (w : Contact) (a : Bool) (s : State) :
    Moves C s (s.doorContactChange d w a) :=
  .trans (doorTakesContact_moves d w a s) (handClosedContact_moves d w _)

theorem doorContactLost_moves (d : Fin 6) (w : Contact) (s : State) : Moves C s (s.doorContactLost d w) := by
  unfold State.doorContactLost
  refine .trans ?_ (handClosedContact_moves d w _)
  split
  · exact .refl s
  · exact .refl s
  · exact .refl s
  · exact doorContactFaults_moves d s

theorem openRequest_moves (d : Fin 6) (s : State) : Moves C s (s.openRequest d) := by
  have h := doorStartsOpening_moves (C := C) d s
  unfold State.openRequest
  split
  · exact h
  · exact .refl s
  · exact .door s d _
  · exact h
  · exact h
  · exact .refl s
  · exact .refl s
  · exact .refl s

theorem withdrawHold_moves (d : Fin 6) (k : Fin 4) (s : State) : Moves C s (s.withdrawHold d k) := by
  unfold State.withdrawHold
  exact .ite _ (.door s d _) (.refl s)

theorem writeHold_moves (d : Fin 6) (k : Fin 4) (s : State) : Moves C s (s.writeHold d k) :=
  .trans (.door s d _) (openRequest_moves d _)

theorem writeLineHold_moves (d : Fin 6) (s : State) : Moves C s (s.writeLineHold d) :=
  .trans (.door s d _) (openRequest_moves d _)

theorem withdrawLineHold_moves (d : Fin 6) (s : State) : Moves C s (s.withdrawLineHold d) := by
  unfold State.withdrawLineHold
  exact .ite _ (.door s d _) (.refl s)

theorem doorWritten_moves (d : Fin 6) (old : DoorEntry) (s : State) : Moves C s (s.doorWritten d old) := by
  unfold State.doorWritten
  have h : Moves C s
      (if old.present = false ∧ (s.doorEntry d).present = true then
        (s.setDoor d (s.door d).unheld).deriveDoorSilently d
      else if old.present = true ∧ (s.doorEntry d).present = false then
        s.setDoor d (((s.door d).toRest .disabled).unheld)
      else s) :=
    .ite _ (.trans (.door s d _) (.door _ d _)) (.ite _ (.door s d _) (.refl s))
  exact .ite _ h (.trans (.trans h (recomputeFor_moves _ _)) (recomputeFor_moves _ _))

/-! ## Slot service -/

theorem serve_moves (s : State) (r : SlotRequest) : Moves C s (s.serve r) := by
  unfold State.serve
  split <;> exact .service s _ s.store.behind

theorem requestSlot_moves (s : State) (n : Fin 128) : Moves C s (s.requestSlot n) := by
  unfold State.requestSlot
  split
  · exact serve_moves s _
  · exact .service s s.store.service _

theorem serveWaiting_moves (s : State) : Moves C s s.serveWaiting := by
  unfold State.serveWaiting
  split
  · exact serve_moves s _
  · exact .refl s

theorem serviceIdle_moves (s : State) : Moves C s s.serviceIdle := by
  unfold State.serviceIdle
  split
  · next h => simpa [h] using Moves.service s .idle s.store.behind
  · exact .trans (.service s .idle _) (serve_moves _ _)

theorem endRead_moves (s : State) : Moves C s s.endRead := .trans (.resume s) (serviceIdle_moves _)

/-! ## The engine -/

theorem examineFetch_moves (s : State) : Moves C s s.examineFetch := by
  unfold State.examineFetch
  split
  · next hf hq =>
    exact .ite _
      (.engineThen (requestSlot_moves _ _) rfl fun h => EngineState.orderly_fetchHead h hf hq rfl) (.refl s)
  · exact .refl s

theorem absorb_mode (e : EngineState) (n : Fin 128) : (e.absorb n).mode = e.mode := by
  unfold EngineState.absorb
  split
  · split <;> rfl
  · rfl

theorem orderly_absorb {e : EngineState} (n : Fin 128) (h : e.orderly) : (e.absorb n).orderly := by
  unfold EngineState.absorb
  split
  · next f hf =>
    split
    · exact EngineState.orderly_congr h rfl (by rw [hf]; rfl) rfl
    · exact h
  · exact h

theorem dispatch_moves (n : Fin 128) (s : State) : Moves C s (s.dispatch n).1 := by
  unfold State.dispatch
  split
  · exact .latch s _
  · simp only
    split
    · exact .engine s _ (fun h => by rw [absorb_mode]; exact h) fun _ => orderly_absorb n
    · next hn =>
      rw [← EngineState.mem_numbers] at hn
      split
      · next hl =>
        exact .engineThen (examineFetch_moves _) rfl fun h => EngineState.orderly_enqueue h (.refl _) hl hn
      · split
        · split
          · exact .engineThen (.trans (.latch _ _) (examineFetch_moves _)) rfl fun h =>
              EngineState.orderly_enqueue h (List.dropLast_sublist _)
                (by rw [List.length_dropLast]; have := h.1; omega) hn
          · exact .latch s _
        · exact .latch s _

theorem withdrawFan_moves (k : Fin 4) (f : Fin 6) (s : State) :
    Moves C s
      ((s.setFan f { s.fan f with responseSlots := (s.fan f).responseSlots.set k none }).resolveFan f) :=
  .trans (.slots s f (s.fan f).lineSlot _ (s.fan f).pressurisationSlot) (.resolve _ f)

theorem withdrawSlot_moves (k : Fin 4) (s : State) : Moves C s (s.withdrawSlot k) := by
  unfold State.withdrawSlot
  refine .trans (forEach_moves (fun f s => ?_) s) (forEach_moves (fun d s => withdrawHold_moves d k s) _)
  exact .ite _ (withdrawFan_moves k f s) (.refl s)

theorem freeSlot_moves (k : Fin 4) (s : State) : Moves C s (s.freeSlot k) := .engine s _ id fun _ h => EngineState.orderly_freeSlot h k

theorem checkIdle_moves (s : State) : Moves C s s.checkIdle := by
  unfold State.checkIdle
  exact .ite _ (.latch s _) (.refl s)

theorem cancel_moves (n : Fin 128) (s : State) : Moves C s (s.cancel n) := by
  unfold State.cancel
  refine .ite _ (.engineThen (examineFetch_moves _) rfl fun h => ?_) ?_
  · exact EngineState.orderly_of_sublist h (List.filter_sublist ..)
      (((List.filter_sublist ..).map _ |>.append_right _).append_right _)
  split
  · exact .trans (.trans (.trans (withdrawSlot_moves _ s) (freeSlot_moves _ _)) (checkIdle_moves _)) (examineFetch_moves _)
  · split
    · next f hf =>
      exact .ite _ (.engine s _ id fun _ h => EngineState.orderly_congr h rfl (by rw [hf]; rfl) rfl) (.refl s)
    · exact .refl s

theorem triggerRequest_moves (t : TriggerEntry) (s : State) : Moves C s (s.triggerRequest t) := by
  unfold State.triggerRequest
  split
  · exact dispatch_moves _ s
  · exact cancel_moves _ s

theorem takeKey_moves (s : State) (k : Key) : Moves C s (s.takeKey k) :=
  forEach_moves (fun _ s => .ite _ (triggerRequest_moves _ s) (.refl s)) s

theorem takeKeys_moves (s : State) : Moves C s s.takeKeys :=
  .trans (.dropKeys s) (foldl_moves takeKey_moves s.keys _)

theorem setMode_moves (m : NodeMode) (s : State) (h : s.engine.mode = .incident → m = .incident) :
    Moves C s (s.setEngine { s.engine with mode := m }) :=
  .engine s { s.engine with mode := m } h fun _ ho => ⟨ho.1, ho.2.1, ho.2.2⟩

theorem changeMode_moves (m : NodeMode) (s : State) (h : s.engine.mode = .incident → m = .incident) :
    Moves C s (s.changeMode m) := by
  unfold State.changeMode
  have h1 : Moves C s ((s.setEngine { s.engine with mode := m }).recomputeGallery) :=
    .trans (setMode_moves m s h) (recomputeGallery_moves _)
  refine .trans (.trans (.trans (.ite _ (.trans (.trans h1 ?_) (takeKeys_moves _)) h1) (.latch _ _)) (.offer _ _))
    (takeKeys_moves _)
  exact forEach_moves (fun d s => .ite _ (deriveDoor_moves d s) (.refl s)) _

theorem enterIncident_moves (s : State) : Moves C s s.enterIncident := by
  unfold State.enterIncident
  exact .ite _ (.refl s) (changeMode_moves _ s fun _ => rfl)

theorem maintKeyChange_moves (a : Bool) (s : State) : Moves C s (s.maintKeyChange a) := by
  unfold State.maintKeyChange
  split
  · next h => exact changeMode_moves _ s fun h' => by rw [h] at h'; cases h'
  · next h => exact changeMode_moves _ s fun h' => by rw [h] at h'; cases h'
  · exact .refl s

theorem holdTimerExpiry_moves (k : Fin 4) (s : State) : Moves C s (holdTimerExpiryEffect k s) := by
  unfold holdTimerExpiryEffect
  split
  · refine .ite _ ?_ (.refl s)
    have h := Moves.trans (C := C) (withdrawSlot_moves k s) (freeSlot_moves k _)
    refine .trans (.trans ?_ (checkIdle_moves _)) (examineFetch_moves _)
    split
    · exact .trans h (dispatch_moves _ _)
    · exact h
  · exact .refl s

/-! ## Activation -/

theorem renumber_moves (s : State) : Moves C s s.renumber :=
  .trans
    (.engine s
      { s.engine with
        active := tabulate fun k => (s.engine.active[k]).map fun r => { r with sequence := s.engine.rank r.sequence }
        sequence := s.engine.activeCount } id fun _ h =>
      EngineState.orderly_congr h rfl rfl (EngineState.activeNumbers_map _ _ fun _ => rfl))
    (.renumber _ _)

theorem readySequence_moves (s : State) : Moves C s s.readySequence := by
  unfold State.readySequence
  exact .ite _ (.refl s) (renumber_moves s)

theorem captureFans_moves (k : Fin 4) (r : ResponseRecord) (n : Nat) (s : State) : Moves C s (s.captureFans k r n) := by
  unfold State.captureFans
  refine forEach_moves (fun f s => ?_) s
  simp only
  split
  · exact .trans (.slots s f (s.fan f).lineSlot _ (s.fan f).pressurisationSlot) (.resolve _ f)
  · exact .ite _ (withdrawFan_moves k f s) (.refl s)

theorem captureDoors_moves (k : Fin 4) (r : ResponseRecord) (s : State) : Moves C s (s.captureDoors k r) := by
  unfold State.captureDoors
  refine forEach_moves (fun d s => ?_) s
  simp only
  refine .ite _ (writeHold_moves d k s) ?_
  exact .ite _ (.trans (withdrawHold_moves d k s) (openRequest_moves d _)) (withdrawHold_moves d k s)

theorem occupySlot_moves (k : Fin 4) (n : Fin 128) (r : ResponseRecord) (s : State)
    (hn : C → s.engine.orderly → n ∉ s.engine.numbers) : Moves C s (s.occupySlot k n r) :=
  .engine s _ id fun c h => EngineState.orderly_occupy h k _ (hn c h) _

/-- Renumbering leaves the engine's numbers as they are (R147). -/
theorem numbers_readySequence (s : State) : s.readySequence.engine.numbers = s.engine.numbers := by
  unfold State.readySequence
  split
  · rfl
  · rw [EngineState.numbers_eq, EngineState.numbers_eq]
    exact congrArg _ (EngineState.activeNumbers_map s.engine.active _ fun _ => rfl)

theorem activateIn_moves (k : Fin 4) (n : Fin 128) (r : ResponseRecord) (s : State)
    (hn : C → n ∉ s.engine.numbers) : Moves C s (s.activateIn k n r) := by
  unfold State.activateIn
  have h1 : Moves C s (s.readySequence.occupySlot k n r) :=
    .trans (readySequence_moves s)
      (occupySlot_moves k n r _ fun c _ => by rw [numbers_readySequence]; exact hn c)
  generalize s.readySequence.occupySlot k n r = u at h1 ⊢
  have h2 := Moves.trans h1 (.trans (.trans (captureFans_moves k r u.engine.sequence u) (captureDoors_moves k r _)) (takeKeys_moves _))
  have h3 := Moves.trans h2 (foldl_moves (fun s c => Moves.notify s c) r.notices _)
  exact .ite _ (.trans h3 (enterIncident_moves _)) h3

theorem activate_moves (n : Fin 128) (r : ResponseRecord) (s : State) (hn : C → n ∉ s.engine.numbers) :
    Moves C s (s.activate n r) := by
  unfold State.activate
  split
  · exact activateIn_moves _ n r s hn
  · split
    · next k _ =>
      refine .trans (.trans (freeSlot_moves _ s) (.latch _ _)) (activateIn_moves _ n r _ fun c hm => hn c ?_)
      rw [latch_eq] at hm
      rw [EngineState.numbers_eq] at hm ⊢
      rcases List.mem_append.mp hm with hm | hm
      · exact List.mem_append.mpr (.inl hm)
      · refine List.mem_append.mpr (.inr ?_)
        simp only [EngineState.activeNumbers, State.freeSlot, State.setEngine, Vector.toList_set] at hm
        exact (filterMap_set_none (fun a : Option ActiveResponse => a.map ActiveResponse.number) rfl _ _).subset hm
    · exact .refl s

theorem completeFetch_moves (f : Fetch) (page : List Byte) (s : State) (hC : C → s.engine.orderly)
    (hf : s.engine.fetch = some f) : Moves C s (s.completeFetch f page) := by
  unfold State.completeFetch
  refine .trans ?_ (examineFetch_moves _)
  have hsub : ({ s.engine with fetch := none } : EngineState).numbers.Sublist s.engine.numbers := by
    rw [EngineState.numbers_eq, EngineState.numbers_eq]
    exact (List.Sublist.append_left (List.nil_sublist _) _).append_right _
  have hn : C → f.number ∉ ({ s.engine with fetch := none } : EngineState).numbers := by
    intro c hm
    have h3 := (hC c).2.2
    rw [EngineState.numbers_eq] at h3 hm
    simp only [Option.map_none, Option.toList_none, List.append_nil] at hm
    simp only [hf, Option.map_some, Option.toList_some] at h3
    rw [List.append_assoc] at h3
    have := (List.perm_middle (a := f.number) (l₁ := s.engine.queue.map Queued.number)
      (l₂ := EngineState.activeNumbers s.engine.active)).nodup_iff.mp h3
    exact (List.nodup_cons.mp this).1 hm
  have h : Moves C s (s.setEngine { s.engine with fetch := none }) :=
    .engine s _ id fun _ ho => EngineState.orderly_of_sublist ho (.refl _) hsub
  simp only
  split
  · exact .ite _ h (.ite _ (.trans h (activate_moves _ _ _ hn)) (.trans h (.latch _ _)))
  · exact .trans h (.latch _ _)

theorem engine_serve (s : State) (r : SlotRequest) : (s.serve r).engine = s.engine := by
  unfold State.serve
  split <;> rfl

theorem engine_endRead (s : State) : s.endRead.engine = s.engine := by
  unfold State.endRead State.serviceIdle
  split
  · rfl
  · rw [engine_serve]; rfl

theorem fetchCompletion_moves (s : State) (hC : C → s.engine.orderly) : Moves C s (fetchCompletionEffect s) := by
  unfold fetchCompletionEffect
  split
  · simp only
    split
    · next hf _ =>
      refine .trans (endRead_moves s) (completeFetch_moves _ _ _ ?_ ?_)
      · rw [engine_endRead]; exact hC
      · rw [engine_endRead]; exact hf
    · exact endRead_moves s
  · exact .refl s

theorem confirmTold_moves (p : Fin 48) (s : State) : Moves C s (s.confirmTold p) := by
  unfold State.confirmTold
  refine .ite _ ?_ (.refl s)
  refine .engineThen (e := s.engine.clearIndex p) ?_ rfl fun h => h
  generalize s.setEngine (s.engine.clearIndex p) = u
  refine .trans (.trans (t := u.unqueuePage p) ?_ ?_) (examineFetch_moves _)
  · unfold State.unqueuePage
    exact .engineThen (foldl_moves (fun s _ => Moves.latch s _) _ _) rfl fun h =>
      EngineState.orderly_of_sublist h (List.filter_sublist ..)
        (((List.filter_sublist ..).map _ |>.append_right _).append_right _)
  · unfold State.disturbPage
    split
    · next f hf =>
      exact .ite _ (.engine _ _ id fun _ h => EngineState.orderly_congr h rfl (by rw [hf]; rfl) rfl) (.refl _)
    · exact .refl _

/-! ## Units reached by their signals -/

theorem unitTakes_moves (sig : Signal) (a : Bool) (s : State) : Moves C s (s.unitTakes sig a) := by
  cases sig <;> simp only [State.unitTakes]
  case fanConfirm f => exact fanConfirmChange_moves f a s
  case fanIsolator f => exact fanIsolatorChange_moves f a s
  case doorClosed d => exact doorContactChange_moves d _ a s
  case doorOpen d => exact doorContactChange_moves d _ a s
  case doorButton d => exact .ite _ (openRequest_moves d s) (.refl s)
  case maintKey => exact maintKeyChange_moves a s
  all_goals exact .refl s

theorem reach_moves (sig : Signal) (a : Bool) (s : State) : Moves C s (s.reach sig a) := by
  unfold State.reach
  exact .ite _ (.trans (unitTakes_moves sig a s) (takeKeys_moves _)) (.refl s)

theorem unitGains_moves (sig : Signal) (a : Bool) (s : State) : Moves C s (s.unitGains sig a) := by
  cases sig <;> simp only [State.unitGains]
  case doorButton d => exact .refl s
  case doorClosed d =>
    exact .ite _ (doorContactChange_moves d _ _ s)
      (.ite _ (doorContactChange_moves d _ _ s) (handClosedContact_moves d _ s))
  case doorOpen d =>
    exact .ite _ (doorContactChange_moves d _ _ s) (.ite _ (doorContactChange_moves d _ _ s) (.refl s))
  all_goals exact .ite _ (unitTakes_moves _ _ s) (.refl s)

theorem unitLoses_moves (sig : Signal) (a : Bool) (s : State) : Moves C s (s.unitLoses sig a) := by
  cases sig <;> simp only [State.unitLoses]
  case doorClosed d => exact doorContactLost_moves d _ s
  case doorOpen d => exact doorContactLost_moves d _ s
  case fanConfirm f => exact .refl s
  case doorButton d => exact .refl s
  all_goals exact .ite _ (unitTakes_moves _ _ s) (.refl s)

theorem handLoss_moves (before : State) (n : Fin 64) (s : State) : Moves C s (State.handLoss before n s) := by
  unfold State.handLoss
  split
  · exact .ite _ (.refl s) (.trans (unitLoses_moves _ _ s) (takeKeys_moves _))
  · exact .refl s

theorem unitMoves_moves (sig : Signal) (a : Bool) (s : State) : Moves C s (s.unitMoves sig a) := by
  unfold State.unitMoves
  split
  · exact .refl s
  · exact unitTakes_moves sig a s

theorem handNow_moves (before : State) (n : Fin 64) (s : State) : Moves C s (State.handNow before n s) := by
  unfold State.handNow
  split
  · exact .ite _ (.trans (unitGains_moves _ _ s) (takeKeys_moves _))
      (.ite _ (.refl s)
        (.ite _ (.trans (unitTakes_moves _ _ s) (takeKeys_moves _)) (.trans (unitMoves_moves _ _ s) (takeKeys_moves _))))
  · exact .refl s

end Sys2Proof.Machine
end

