-- ==== Sys2Proof/Laws/Kept.lean ====
section
/-! SUPPORT. What every chain of moves keeps: all state but the units, the engine, the event latch and the ports; the
bounds of the queues; ramp values at rest; the direction of a drive that is not STOPPED; and INCIDENT. -/

namespace Sys2Proof.Machine

variable {C : Prop}

/-- A state with everything that moves can change replaced by fixed values. -/
def State.sansUnits (s : State) : State :=
  { s with
    events := 0, portA := .reset, portB := .reset, keys := [], engine := .reset
    fans := Vector.replicate 6 .reset, doors := Vector.replicate 6 .reset
    store := { s.store with service := .idle, behind := [], mode := .ready } }

theorem sansUnits_of_sansLine {s t : State} (h : t.sansLine = s.sansLine) : t.sansUnits = s.sansUnits := by
  rw [State.eq_of_sansLine h]
  rfl

theorem sansUnits_resumed (x : StoreState) :
    ({ x.resumed with service := .idle, behind := [], mode := .ready } : StoreState) =
      { x with service := .idle, behind := [], mode := .ready } := by
  unfold StoreState.resumed
  split <;> rfl

/-- Moves change nothing but the units, the engine, the slot service, the event latch, the ports and the keys. -/
theorem Moves.sansUnits {s t : State} (h : Moves C s t) : t.sansUnits = s.sansUnits := by
  induction h with
  | refl s => rfl
  | trans _ _ ih ih' => rw [ih', ih]
  | engine s e h ho => rfl
  | service s v b => rfl
  | resume s => simp only [State.sansUnits, State.setStore, sansUnits_resumed]
  | latch s k => exact sansUnits_of_sansLine (sansLine_latch s k)
  | notify s c => exact sansUnits_of_sansLine (sansLine_notify s c)
  | offer s k => rfl
  | dropKeys s => rfl
  | slots s f line resp press => rfl
  | renumber s v => rfl
  | resolve s f => rfl
  | drive s f x h => rfl
  | door s d x => rfl

theorem Moves.address {s t : State} (h : Moves C s t) : t.address = s.address := (congrArg State.address h.sansUnits :)
theorem Moves.load {s t : State} (h : Moves C s t) : t.load = s.load := (congrArg State.load h.sansUnits :)
theorem Moves.nodeTable {s t : State} (h : Moves C s t) : t.nodeTable = s.nodeTable :=
  (congrArg State.nodeTable h.sansUnits :)
theorem Moves.channelTable {s t : State} (h : Moves C s t) : t.channelTable = s.channelTable :=
  (congrArg State.channelTable h.sansUnits :)
theorem Moves.calibrationTable {s t : State} (h : Moves C s t) : t.calibrationTable = s.calibrationTable :=
  (congrArg State.calibrationTable h.sansUnits :)
theorem Moves.fanTable {s t : State} (h : Moves C s t) : t.fanTable = s.fanTable := (congrArg State.fanTable h.sansUnits :)
theorem Moves.doorTable {s t : State} (h : Moves C s t) : t.doorTable = s.doorTable :=
  (congrArg State.doorTable h.sansUnits :)
theorem Moves.watchTable {s t : State} (h : Moves C s t) : t.watchTable = s.watchTable :=
  (congrArg State.watchTable h.sansUnits :)
theorem Moves.neighbourTable {s t : State} (h : Moves C s t) : t.neighbourTable = s.neighbourTable :=
  (congrArg State.neighbourTable h.sansUnits :)
theorem Moves.triggerTable {s t : State} (h : Moves C s t) : t.triggerTable = s.triggerTable :=
  (congrArg State.triggerTable h.sansUnits :)
theorem Moves.pointTable {s t : State} (h : Moves C s t) : t.pointTable = s.pointTable :=
  (congrArg State.pointTable h.sansUnits :)
theorem Moves.cycle {s t : State} (h : Moves C s t) : t.cycle = s.cycle := (congrArg State.cycle h.sansUnits :)
theorem Moves.channels {s t : State} (h : Moves C s t) : t.channels = s.channels := (congrArg State.channels h.sansUnits :)
theorem Moves.points {s t : State} (h : Moves C s t) : t.points = s.points := (congrArg State.points h.sansUnits :)
theorem Moves.supplyOk {s t : State} (h : Moves C s t) : t.supplyOk = s.supplyOk := (congrArg State.supplyOk h.sansUnits :)
theorem Moves.freeCount {s t : State} (h : Moves C s t) : t.freeCount = s.freeCount :=
  (congrArg State.freeCount h.sansUnits :)
theorem Moves.pending {s t : State} (h : Moves C s t) : t.pending = s.pending := (congrArg State.pending h.sansUnits :)
theorem Moves.cells {s t : State} (h : Moves C s t) : t.store.cells = s.store.cells :=
  congrArg (fun u => u.store.cells) h.sansUnits
theorem Moves.staging {s t : State} (h : Moves C s t) : t.store.staging = s.store.staging :=
  congrArg (fun u => u.store.staging) h.sansUnits
theorem Moves.programData {s t : State} (h : Moves C s t) : t.store.programData = s.store.programData :=
  congrArg (fun u => u.store.programData) h.sansUnits
theorem Moves.operationPage {s t : State} (h : Moves C s t) : t.store.operationPage = s.store.operationPage :=
  congrArg (fun u => u.store.operationPage) h.sansUnits
theorem Moves.setupPage {s t : State} (h : Moves C s t) : t.store.setupPage = s.store.setupPage :=
  congrArg (fun u => u.store.setupPage) h.sansUnits

/-- Moves keep the memories canonical. -/
theorem Moves.memoriesCanonical {s t : State} (h : Moves C s t) (hs : s.memoriesCanonical) : t.memoriesCanonical := by
  unfold State.memoriesCanonical
  rw [h.cells, h.staging, h.programData]
  exact hs

/-- Moves keep the queues within their bounds. -/
theorem Moves.queuesBounded {s t : State} (h : Moves C s t) (hs : s.queuesBounded) : t.queuesBounded := by
  induction h with
  | refl s => exact hs
  | trans _ _ ih ih' => exact ih' (ih hs)
  | latch s k => exact queuesBounded_latch k hs
  | notify s c => exact queuesBounded_notify c hs
  | _ => exact hs

/-- Moves do not leave INCIDENT. -/
theorem Moves.incident {s t : State} (h : Moves C s t) (hs : s.engine.mode = .incident) : t.engine.mode = .incident := by
  induction h with
  | refl s => exact hs
  | trans _ _ ih ih' => exact ih' (ih hs)
  | engine s e h ho => exact h hs
  | latch s k => rw [latch_eq]; exact hs
  | notify s c => rw [notify_eq]; exact hs
  | _ => exact hs

/-! ## Drives -/

theorem Fan.coast_rampAtRest (e : FanEntry) (x : Fan) : (x.coast e).rampAtRest := .inr (.inr rfl)

theorem Fan.act_rampAtRest (e : FanEntry) (c : Bool) (x : Fan) (h : x.rampAtRest) : (x.act e c).rampAtRest := by
  unfold Fan.act
  split
  · split
    · unfold Fan.start
      simp only
      split
      · exact .inl rfl
      · exact .inr (.inr rfl)
    · exact h
  · split
    · exact h
    · exact Fan.coast_rampAtRest e x
  · split
    · exact h
    · exact .inr (.inl rfl)
  · split
    · exact .inl rfl
    · exact h
  all_goals exact h

theorem DriveMove.rampAtRest {x y : Fan} (h : DriveMove x y) (hx : x.rampAtRest) : y.rampAtRest := by
  cases h with
  | confirm e a =>
    unfold Fan.confirmChange
    split
    · split
      · exact .inl rfl
      · exact hx
    · exact hx
    · exact hx
    · exact hx
  | _ => exact .inr (.inr rfl)

theorem State.rampsAtRest_setFan {s : State} (hs : s.rampsAtRest) (f : Fin 6) (x : Fan) (h : x.rampAtRest) :
    (s.setFan f x).rampsAtRest := by
  intro g
  rw [fan_setFan]
  split
  · exact h
  · exact hs g

/-- Moves keep ramp values 0 outside RUNNING and STOPPING. -/
theorem Moves.rampsAtRest {s t : State} (h : Moves C s t) (hs : s.rampsAtRest) : t.rampsAtRest := by
  induction h with
  | refl s => exact hs
  | trans _ _ ih ih' => exact ih' (ih hs)
  | latch s k => rw [latch_eq]; exact hs
  | notify s c => rw [notify_eq]; exact hs
  | slots s f line resp press => exact State.rampsAtRest_setFan hs f _ (hs f)
  | renumber s v => intro g; simpa [State.fan, Fan.rampAtRest] using hs g
  | resolve s f => exact State.rampsAtRest_setFan hs f _ (Fan.act_rampAtRest _ _ _ (hs f))
  | drive s f x h => exact State.rampsAtRest_setFan hs f _ (h.rampAtRest (hs f))
  | _ => exact hs

/-- A drive that is not STOPPED keeps its direction output and is not STOPPED afterwards (R47). -/
def Fan.keepsDirection (x y : Fan) : Prop := x.mode ≠ .stopped → y.mode ≠ .stopped ∧ y.direction = x.direction

theorem Fan.keepsDirection_refl (x : Fan) : x.keepsDirection x := fun h => ⟨h, rfl⟩

theorem Fan.act_keepsDirection (e : FanEntry) (c : Bool) (x : Fan) : x.keepsDirection (x.act e c) := by
  intro h
  unfold Fan.act
  split
  · next hm => exact absurd hm h
  · split
    · exact ⟨h, rfl⟩
    · exact ⟨by simp [Fan.coast], rfl⟩
  · split
    · exact ⟨h, rfl⟩
    · exact ⟨by simp, rfl⟩
  · split
    · exact ⟨by simp, rfl⟩
    · exact ⟨h, rfl⟩
  all_goals exact ⟨h, rfl⟩

theorem DriveMove.keepsDirection {x y : Fan} (h : DriveMove x y) : x.keepsDirection y := by
  intro hx
  cases h with
  | confirm e a =>
    unfold Fan.confirmChange
    split
    · split
      · exact ⟨by simp [Fan.confirmed], rfl⟩
      · exact ⟨hx, rfl⟩
    all_goals exact ⟨hx, rfl⟩
  | fault => exact ⟨by simp [Fan.toFault], rfl⟩
  | isolated => exact ⟨by simp [Fan.toIsolated], rfl⟩
  | coast e => exact ⟨by simp [Fan.coast], rfl⟩
  | disabled => exact ⟨by simp [Fan.toDisabled], rfl⟩

theorem keepsDirection_setFan (s : State) (f g : Fin 6) (x : Fan) (h : (s.fan f).keepsDirection x) :
    (s.fan g).keepsDirection ((s.setFan f x).fan g) := by
  rw [fan_setFan]
  split
  · next e => exact e ▸ h
  · exact Fan.keepsDirection_refl _

/-- Moves turn the direction output of no drive that is not STOPPED (R47). -/
theorem Moves.keepsDirection {s t : State} (h : Moves C s t) (g : Fin 6) : (s.fan g).keepsDirection (t.fan g) := by
  induction h with
  | refl s => exact Fan.keepsDirection_refl _
  | trans _ _ ih ih' => exact fun hx => ⟨(ih' (ih hx).1).1, (ih' (ih hx).1).2.trans (ih hx).2⟩
  | latch s k => rw [latch_eq]; exact Fan.keepsDirection_refl _
  | notify s c => rw [notify_eq]; exact Fan.keepsDirection_refl _
  | slots s f line resp press => exact keepsDirection_setFan s f g _ fun hx => ⟨hx, rfl⟩
  | renumber s v => intro hx; simpa [State.fan] using hx
  | resolve s f => 
    exact keepsDirection_setFan s f g _
      (Fan.act_keepsDirection (s.fanEntry f) (s.fanConfirmed f)
        { s.fan f with target := (s.fan f).resolved (s.fanEntry f) })
  | drive s f x h => exact keepsDirection_setFan s f g _ h.keepsDirection
  | _ => exact Fan.keepsDirection_refl _

/-! ## The engine and the store -/

theorem latch_engine (s : State) (k : EventKind) : (s.latch k).engine = s.engine := by rw [latch_eq]
theorem latch_store (s : State) (k : EventKind) : (s.latch k).store = s.store := by rw [latch_eq]
theorem notify_engine (s : State) (c : Byte) : (s.notify c).engine = s.engine := by rw [notify_eq]
theorem notify_store (s : State) (c : Byte) : (s.notify c).store = s.store := by rw [notify_eq]

/-- Moves keep the engine orderly. -/
theorem Moves.orderly {s t : State} (h : Moves C s t) (c : C) (hs : s.engine.orderly) : t.engine.orderly := by
  induction h with
  | refl s => exact hs
  | trans _ _ ih ih' => exact ih' (ih hs)
  | engine s e h ho => exact ho c hs
  | latch s k => rw [latch_engine]; exact hs
  | notify s c => rw [notify_engine]; exact hs
  | service | resume | offer | dropKeys | slots | renumber | resolve | drive | door => exact hs

theorem StoreState.coherent_resumed {x : StoreState} (h : x.coherent) : x.resumed.coherent := by
  unfold StoreState.resumed
  split
  · next hm =>
    obtain ⟨h1, h2, h3, h4, h5⟩ := h
    rw [hm] at h1 h2 h3 h4
    cases hp : x.operationPage <;> simp_all [StoreState.coherent, StoreMode.setup, StoreMode.busy]
  · exact h

/-- Moves keep the store coherent. -/
theorem Moves.coherent {s t : State} (h : Moves C s t) (hs : s.store.coherent) : t.store.coherent := by
  induction h with
  | refl s => exact hs
  | trans _ _ ih ih' => exact ih' (ih hs)
  | latch s k => rw [latch_store]; exact hs
  | notify s c => rw [notify_store]; exact hs
  | resume s => exact StoreState.coherent_resumed hs
  | engine | service | offer | dropKeys | slots | renumber | resolve | drive | door => exact hs

end Sys2Proof.Machine
end

