-- ==== Sys2Proof/Laws/Pins.lean ====
section
/-! SUPPORT. The driven pins follow their outputs, and nothing else changes with them (R182). -/

namespace Sys2Proof.Machine

/-- What a pin is driven to rests on the Point Table, the units and the latch alone. -/
theorem driveLevel_setPoint (s : State) (n m : Fin 64) (x : Point) (h : x.latch = (s.point n).latch) :
    (s.setPoint n x).driveLevel m = s.driveLevel m := by
  have hp : ((s.setPoint n x).point m).latch = (s.point m).latch := by
    by_cases hm : n = m
    · subst hm; simpa using h
    · rw [point_setPoint_ne s n m x hm]
  have ho : (s.setPoint n x).outputActive m = s.outputActive m := by
    simp only [State.outputActive, State.pointEntry, setPoint_pointTable, hp]
    rfl
  simp only [State.driveLevel, ho, State.pointEntry, setPoint_pointTable]

/-- What following makes of a point under the state that drives it. -/
def State.ledPoint (u : State) (n : Fin 64) (x : Point) : Point :=
  match u.driveLevel n with
  | none => x
  | some high => x.led (u.pointEntry n).filterTime high

theorem Point.led_latch (filterTime : Nat) (high : Bool) (x : Point) : (x.led filterTime high).latch = x.latch := by
  unfold Point.led
  split <;> rfl

theorem Point.led_pin (filterTime : Nat) (high : Bool) (x : Point) : (x.led filterTime high).pin = high := by
  unfold Point.led
  split
  · assumption
  · rfl

theorem ledPoint_latch (u : State) (n : Fin 64) (x : Point) : (u.ledPoint n x).latch = x.latch := by
  unfold State.ledPoint
  split
  · rfl
  · exact Point.led_latch _ _ x

/-- One pin following: its point alone changes. -/
theorem followPin_spec (n : Fin 64) (s : State) : s.followPin n = s.setPoint n (s.ledPoint n (s.point n)) := by
  have hself : s.setPoint n (s.point n) = s := by simp [State.setPoint, State.point]
  unfold State.followPin State.ledPoint
  cases s.driveLevel n with
  | none => exact hself.symm
  | some high =>
    simp only
    unfold Point.led
    split
    · exact hself.symm
    · next hp =>
      congr 1
      cases hx : s.point n with
      | mk pin filtered hold latch =>
        cases high <;> cases filtered <;> simp [Point.due, Point.takePin, Point.accept] <;> split <;> simp_all

theorem ledPoint_setPoint (s : State) (n m : Fin 64) (x y : Point) (h : x.latch = (s.point n).latch) :
    (s.setPoint n x).ledPoint m y = s.ledPoint m y := by
  simp only [State.ledPoint, driveLevel_setPoint s n m x h, State.pointEntry, setPoint_pointTable]

theorem foldl_followPin (l : List (Fin 64)) (hl : l.Nodup) (s : State) :
    l.foldl (fun s i => State.followPin i s) s =
      { s with points := tabulate fun n => if n ∈ l then s.ledPoint n (s.point n) else s.point n } := by
  induction l generalizing s with
  | nil =>
    simp only [List.foldl_nil, List.not_mem_nil, if_false]
    have h : s.points = tabulate s.point := by
      ext i hi
      simp [State.point]
    rw [← h]
  | cons i l ih =>
    obtain ⟨hi, hl⟩ := List.nodup_cons.mp hl
    rw [List.foldl_cons, ih hl, followPin_spec]
    have hlatch := ledPoint_latch s i (s.point i)
    refine congrArg (fun v => { s with points := v }) ?_
    ext n hn
    simp only [getElem_tabulate]
    by_cases h : i = ⟨n, hn⟩
    · subst h
      simp [hi, point_setPoint_same]
    · rw [point_setPoint_ne s i _ _ h, ledPoint_setPoint s i _ _ _ hlatch]
      have : (⟨n, hn⟩ : Fin 64) ≠ i := fun e => h e.symm
      simp [this]

/-- After the pins have followed, every driven pin is at its level and nothing else has changed (R182). -/
theorem followPins_eq (s : State) : s.followPins = s.followed := by
  unfold State.followPins forEach
  rw [foldl_followPin _ (List.nodup_finRange 64)]
  simp only [List.mem_finRange, if_true]
  rfl

/-- Following the pins drives every driven pin to its level. -/
theorem followed_pinsDriven (s : State) : s.followed.pinsDriven := by
  intro n high hd
  have hl : s.followed.driveLevel n = s.driveLevel n := by
    have hp : (s.followed.point n).latch = (s.point n).latch := by
      simp only [State.followed, State.point, Fin.getElem_fin, getElem_tabulate]
      exact ledPoint_latch s n (s.point n)
    have ho : s.followed.outputActive n = s.outputActive n := by
      simp only [State.outputActive, hp]
      rfl
    simp only [State.driveLevel, ho]
    rfl
  rw [hl] at hd
  simp only [State.followed, State.point, Fin.getElem_fin, getElem_tabulate, hd]
  exact Point.led_pin _ _ _

theorem followPins_pinsDriven (s : State) : s.followPins.pinsDriven := followPins_eq s ▸ followed_pinsDriven s

/-- Without keys, settling lets the pins follow and does nothing else. -/
theorem settle_of_noKeys {s : State} (h : s.keys = []) : s.settle = s.followed := by
  have : ({ s with keys := [] } : State) = s := by rw [← h]
  unfold State.settle State.takeKeys
  rw [h, this]
  exact followPins_eq s

/-- Settling is a chain of moves with the pins following it. -/
theorem settle_spec (s : State) : ∃ u, Moves C s u ∧ s.settle = u.followed :=
  ⟨s.takeKeys, takeKeys_moves s, followPins_eq _⟩

theorem settle_pinsDriven (s : State) : s.settle.pinsDriven := followPins_pinsDriven _

/-- A state whose pins are driven is left as it is by their following. -/
theorem followPin_of_pinsDriven (n : Fin 64) {s : State} (h : s.pinsDriven) : s.followPin n = s := by
  unfold State.followPin
  split
  · rfl
  · next high hd => rw [if_pos (h n high hd)]

theorem followPins_of_pinsDriven {s : State} (h : s.pinsDriven) : s.followPins = s := by
  unfold State.followPins forEach
  generalize List.finRange 64 = l
  induction l with
  | nil => rfl
  | cons i l ih => rw [List.foldl_cons, followPin_of_pinsDriven i h]; exact ih

theorem followed_of_pinsDriven {s : State} (h : s.pinsDriven) : s.followed = s :=
  (followPins_eq s).symm.trans (followPins_of_pinsDriven h)

/-- A machine at rest settles into itself. -/
theorem settle_of_atRest {s : State} (h : s.atRest) : s.settle = s :=
  (settle_of_noKeys h.1).trans (followed_of_pinsDriven h.2)

end Sys2Proof.Machine
end

