-- ==== Sys2Proof/Laws/Ticks.lean ====
section
/-! SUPPORT. A tick reaches every unit of its block in one event: what the repetition over the units comes to. -/

namespace Sys2Proof.Machine

theorem foldl_setFan (h : Fin 6 → Vector FanEntry 6 → Fan → Fan) (l : List (Fin 6)) (hl : l.Nodup) (s : State) :
    l.foldl (fun s i => s.setFan i (h i s.fanTable (s.fan i))) s =
        { s with fans := (l.foldl (fun s i => s.setFan i (h i s.fanTable (s.fan i))) s).fans } ∧
      ∀ j, (l.foldl (fun s i => s.setFan i (h i s.fanTable (s.fan i))) s).fan j =
        if j ∈ l then h j s.fanTable (s.fan j) else s.fan j := by
  induction l generalizing s with
  | nil => exact ⟨rfl, fun j => by simp⟩
  | cons i l ih =>
    obtain ⟨hi, hl⟩ := List.nodup_cons.mp hl
    obtain ⟨h1, h2⟩ := ih hl (s.setFan i (h i s.fanTable (s.fan i)))
    simp only [List.foldl_cons]
    generalize l.foldl (fun s i => s.setFan i (h i s.fanTable (s.fan i))) (s.setFan i (h i s.fanTable (s.fan i))) = t
      at h1 h2 ⊢
    refine ⟨by rw [h1]; rfl, fun j => ?_⟩
    rw [h2 j, setFan_fanTable]
    by_cases hj : i = j
    · subst hj; simp [hi]
    · rw [fan_setFan_ne s i j _ hj]
      have : j ∈ i :: l ↔ j ∈ l := by simp [Ne.symm hj]
      simp only [this]

/-- An event at every fan in one step. -/
theorem forEach_setFan (h : Fin 6 → Vector FanEntry 6 → Fan → Fan) (s : State) :
    forEach (fun i s => s.setFan i (h i s.fanTable (s.fan i))) s =
      { s with fans := tabulate fun i => h i s.fanTable (s.fan i) } := by
  obtain ⟨h1, h2⟩ := foldl_setFan h (List.finRange 6) (List.nodup_finRange 6) s
  have hm := fun j : Fin 6 => List.mem_finRange j
  unfold forEach
  generalize List.finRange 6 = l at h1 h2 hm
  generalize l.foldl (fun s i => s.setFan i (h i s.fanTable (s.fan i))) s = t at h1 h2 ⊢
  have hv : t.fans = tabulate fun i => h i s.fanTable (s.fan i) := by
    refine Vector.ext fun j hj => ?_
    rw [getElem_tabulate]
    have := h2 ⟨j, hj⟩
    rw [if_pos (hm _)] at this
    exact this
  rw [h1, hv]

theorem foldl_setDoor (h : Fin 6 → Vector DoorEntry 6 → Door → Door) (l : List (Fin 6)) (hl : l.Nodup) (s : State) :
    l.foldl (fun s i => s.setDoor i (h i s.doorTable (s.door i))) s =
        { s with doors := (l.foldl (fun s i => s.setDoor i (h i s.doorTable (s.door i))) s).doors } ∧
      ∀ j, (l.foldl (fun s i => s.setDoor i (h i s.doorTable (s.door i))) s).door j =
        if j ∈ l then h j s.doorTable (s.door j) else s.door j := by
  induction l generalizing s with
  | nil => exact ⟨rfl, fun j => by simp⟩
  | cons i l ih =>
    obtain ⟨hi, hl⟩ := List.nodup_cons.mp hl
    obtain ⟨h1, h2⟩ := ih hl (s.setDoor i (h i s.doorTable (s.door i)))
    simp only [List.foldl_cons]
    generalize l.foldl (fun s i => s.setDoor i (h i s.doorTable (s.door i))) (s.setDoor i (h i s.doorTable (s.door i))) = t
      at h1 h2 ⊢
    refine ⟨by rw [h1]; rfl, fun j => ?_⟩
    rw [h2 j, setDoor_doorTable]
    by_cases hj : i = j
    · subst hj; simp [hi]
    · rw [door_setDoor_ne s i j _ hj]
      have : j ∈ i :: l ↔ j ∈ l := by simp [Ne.symm hj]
      simp only [this]

/-- An event at every door in one step. -/
theorem forEach_setDoor (h : Fin 6 → Vector DoorEntry 6 → Door → Door) (s : State) :
    forEach (fun i s => s.setDoor i (h i s.doorTable (s.door i))) s =
      { s with doors := tabulate fun i => h i s.doorTable (s.door i) } := by
  obtain ⟨h1, h2⟩ := foldl_setDoor h (List.finRange 6) (List.nodup_finRange 6) s
  have hm := fun j : Fin 6 => List.mem_finRange j
  unfold forEach
  generalize List.finRange 6 = l at h1 h2 hm
  generalize l.foldl (fun s i => s.setDoor i (h i s.doorTable (s.door i))) s = t at h1 h2 ⊢
  have hv : t.doors = tabulate fun i => h i s.doorTable (s.door i) := by
    refine Vector.ext fun j hj => ?_
    rw [getElem_tabulate]
    have := h2 ⟨j, hj⟩
    rw [if_pos (hm _)] at this
    exact this
  rw [h1, hv]

theorem foldl_setChannel (h : Fin 12 → Vector ChannelEntry 12 → Channel → Channel) (l : List (Fin 12)) (hl : l.Nodup) (s : State) :
    l.foldl (fun s i => s.setChannel i (h i s.channelTable (s.channel i))) s =
        { s with channels := (l.foldl (fun s i => s.setChannel i (h i s.channelTable (s.channel i))) s).channels } ∧
      ∀ j, (l.foldl (fun s i => s.setChannel i (h i s.channelTable (s.channel i))) s).channel j =
        if j ∈ l then h j s.channelTable (s.channel j) else s.channel j := by
  induction l generalizing s with
  | nil => exact ⟨rfl, fun j => by simp⟩
  | cons i l ih =>
    obtain ⟨hi, hl⟩ := List.nodup_cons.mp hl
    obtain ⟨h1, h2⟩ := ih hl (s.setChannel i (h i s.channelTable (s.channel i)))
    simp only [List.foldl_cons]
    generalize l.foldl (fun s i => s.setChannel i (h i s.channelTable (s.channel i))) (s.setChannel i (h i s.channelTable (s.channel i))) = t
      at h1 h2 ⊢
    refine ⟨by rw [h1]; rfl, fun j => ?_⟩
    rw [h2 j, setChannel_channelTable]
    by_cases hj : i = j
    · subst hj; simp [hi]
    · rw [channel_setChannel_ne s i j _ hj]
      have : j ∈ i :: l ↔ j ∈ l := by simp [Ne.symm hj]
      simp only [this]

/-- An event at every channel in one step. -/
theorem forEach_setChannel (h : Fin 12 → Vector ChannelEntry 12 → Channel → Channel) (s : State) :
    forEach (fun i s => s.setChannel i (h i s.channelTable (s.channel i))) s =
      { s with channels := tabulate fun i => h i s.channelTable (s.channel i) } := by
  obtain ⟨h1, h2⟩ := foldl_setChannel h (List.finRange 12) (List.nodup_finRange 12) s
  have hm := fun j : Fin 12 => List.mem_finRange j
  unfold forEach
  generalize List.finRange 12 = l at h1 h2 hm
  generalize l.foldl (fun s i => s.setChannel i (h i s.channelTable (s.channel i))) s = t at h1 h2 ⊢
  have hv : t.channels = tabulate fun i => h i s.channelTable (s.channel i) := by
    refine Vector.ext fun j hj => ?_
    rw [getElem_tabulate]
    have := h2 ⟨j, hj⟩
    rw [if_pos (hm _)] at this
    exact this
  rw [h1, hv]

theorem foldl_setPoint (h : Fin 64 → Vector PointEntry 64 → Point → Point) (l : List (Fin 64)) (hl : l.Nodup) (s : State) :
    l.foldl (fun s i => s.setPoint i (h i s.pointTable (s.point i))) s =
        { s with points := (l.foldl (fun s i => s.setPoint i (h i s.pointTable (s.point i))) s).points } ∧
      ∀ j, (l.foldl (fun s i => s.setPoint i (h i s.pointTable (s.point i))) s).point j =
        if j ∈ l then h j s.pointTable (s.point j) else s.point j := by
  induction l generalizing s with
  | nil => exact ⟨rfl, fun j => by simp⟩
  | cons i l ih =>
    obtain ⟨hi, hl⟩ := List.nodup_cons.mp hl
    obtain ⟨h1, h2⟩ := ih hl (s.setPoint i (h i s.pointTable (s.point i)))
    simp only [List.foldl_cons]
    generalize l.foldl (fun s i => s.setPoint i (h i s.pointTable (s.point i))) (s.setPoint i (h i s.pointTable (s.point i))) = t
      at h1 h2 ⊢
    refine ⟨by rw [h1]; rfl, fun j => ?_⟩
    rw [h2 j, setPoint_pointTable]
    by_cases hj : i = j
    · subst hj; simp [hi]
    · rw [point_setPoint_ne s i j _ hj]
      have : j ∈ i :: l ↔ j ∈ l := by simp [Ne.symm hj]
      simp only [this]

/-- An event at every point in one step. -/
theorem forEach_setPoint (h : Fin 64 → Vector PointEntry 64 → Point → Point) (s : State) :
    forEach (fun i s => s.setPoint i (h i s.pointTable (s.point i))) s =
      { s with points := tabulate fun i => h i s.pointTable (s.point i) } := by
  obtain ⟨h1, h2⟩ := foldl_setPoint h (List.finRange 64) (List.nodup_finRange 64) s
  have hm := fun j : Fin 64 => List.mem_finRange j
  unfold forEach
  generalize List.finRange 64 = l at h1 h2 hm
  generalize l.foldl (fun s i => s.setPoint i (h i s.pointTable (s.point i))) s = t at h1 h2 ⊢
  have hv : t.points = tabulate fun i => h i s.pointTable (s.point i) := by
    refine Vector.ext fun j hj => ?_
    rw [getElem_tabulate]
    have := h2 ⟨j, hj⟩
    rw [if_pos (hm _)] at this
    exact this
  rw [h1, hv]

/-- RAMP_TICK: every drive in one tick (R49). -/
theorem rampTickEffect_eq (s : State) :
    rampTickEffect s =
      if s.started then { s with fans := tabulate fun f => (s.fan f).tick (s.fanEntry f) } else s := by
  have h := forEach_setFan (fun f t x => x.tick t[f]) s
  unfold rampTickEffect
  split
  · exact h
  · rfl

/-- DOOR_TICK: every door in one tick (R86). -/
theorem doorTickEffect_eq (s : State) :
    doorTickEffect s = if s.started then { s with doors := tabulate fun d => (s.door d).tick } else s := by
  have h := forEach_setDoor (fun _ _ x => x.tick) s
  unfold doorTickEffect
  split
  · exact h
  · rfl

/-- SAMPLE_TICK: every channel in one tick (R13). -/
theorem sampleTickEffect_eq (s : State) :
    sampleTickEffect s = if s.started then { s with channels := tabulate fun n => (s.channel n).tick } else s := by
  have h := forEach_setChannel (fun _ _ x => x.tick) s
  unfold sampleTickEffect
  split
  · exact h
  · rfl

/-- POINT_TICK: every point in one tick (R181). -/
theorem pointTickEffect_eq (s : State) :
    pointTickEffect s = { s with points := tabulate fun n => (s.point n).tick (s.pointEntry n).filterTime } := by
  exact forEach_setPoint (fun n t x => x.tick (t[n]).filterTime) s

end Sys2Proof.Machine
end

