-- ==== Sys2Proof/WellFormed.lean ====
section
/-! DEFINITION. Well-formed commands: those that the line and the field can bring.  The machine gives every command a
meaning, well-formed or not. -/

namespace Sys2Proof

/-- Whether an operation code is one of R190's fourteen. -/
def knownOperation (op : Word) : Bool := decide (1 ≤ op.toNat ∧ op.toNat ≤ 14)

/-- A head handed on as UNKNOWN_OPERATION: too short, or of no known operation (R190, R199). -/
def unknownHead (head : List Word) : Bool :=
  match head with
  | [op, _, _, _] => !knownOperation op
  | _ => decide (head.length < 4)

/-- What the data after a head may hold: at most 112 bytes (R190, R199). -/
def dataFits (data : List Byte) : Bool := decide (data.length ≤ 112)

/-- Well-formedness: a frame of at most 130 bytes (a longer one is FRAME_CUT_OFF, R105), a page of at most 512 bytes
(R161), data that fit a request, and an operation that is unknown indeed. -/
def Instr.wellFormed (i : Instr) : Bool :=
  match i with
  | .frameArrival _ bytes => decide (bytes.length ≤ 130)
  | .erasePulseEnd cells => decide (cells.length ≤ 512)
  | .writeEntries _ _ _ _ data => dataFits data
  | .pointValueWrite _ _ _ _ data => dataFits data
  | .stagingWrite _ _ _ data => dataFits data
  | .unknownOperation _ head => unknownHead head
  | .powerOnReset _ _ | .imageReplay | .unitsStart | .linkTimerExpiry _ | .transmitEnd _ | .markTimerExpiry
  | .localCycleTimerExpiry | .sampleEvent _ _ | .warmUpEnd _ | .eraseSuspend | .fetchCompletion
  | .holdTimerExpiry _ | .rampTick | .startTimerExpiry _ | .confirmLossTimerExpiry _ | .coastTimerExpiry _
  | .travelTimerExpiry _ | .dwellExpiry _ | .pinChange _ _ | .pointTick | .filterAccept _ | .smonChange _
  | .programCompletion | .fanSet _ _ _ _ _ _ | .fanRelease _ _ | .fanReset _ _ | .doorOpen _ _ | .doorHold _ _
  | .doorFree _ _ | .doorClose _ _ | .doorServiceOff _ _ | .doorServiceOn _ _ | .incidentOn _ | .incidentClear _
  | .responseRun _ _ | .responseCancel _ _ | .restart _ | .unknownOrder _ _ | .readEntries _ _ _ _
  | .pointValueRead _ _ _ _ | .eventClear _ _ _ | .eventSet _ _ _ | .storeStatus _ _ _ | .storeClearStatus _ _ _
  | .storeRead _ _ _ _ | .stagingRead _ _ _ _ | .eraseSetup _ _ _ | .programSetup _ _ _ | .storeConfirm _ _ _
  | .doorTick | .sampleTick | .frameCutOff _ => true

end Sys2Proof
end

