-- ==== Sys2Proof/Tests/Slice0.lean ====
section
/-! SUPPORT. The model's own tests: worked cases of the manual as single steps, the well-formedness smoke tests, and for
every statement with hypotheses a state and operands that meet them. -/

namespace Sys2Proof.Tests

set_option Elab.async false

open Sys2Proof Sys2Proof.Machine

/-! ## Small states -/

/-- The state a command leaves. -/
def after (o : Host.Outcome State Fault Refusal) : State :=
  match o with
  | .next t => t
  | _ => State.reset

/-- A request to the node itself, from node 7 on port A. -/
def ask : Request := { port := .a, source := 7, tag := 3, own := true }

/-- Node 20 with its units started, every fan and door present, in STOPPED and CLOSED, and port A UP. -/
def node : State :=
  { State.reset with
    address := some 20, load := .running
    fanTable := Vector.replicate 6 { FanEntry.default with present := true }
    doorTable := Vector.replicate 6 { DoorEntry.default with present := true }
    portA := { PortState.reset with up := true, linkTimer := 250 }
    fans := Vector.replicate 6 { Fan.reset with mode := .stopped }
    doors := Vector.replicate 6 { Door.reset with mode := .closed } }

/-- A Point Table that gives P0 on to the named functions with their indices. -/
def assignedTo (l : List (PointFunction × Int)) : Vector PointEntry 64 :=
  tabulate fun n =>
    match l[n.val]? with
    | some (f, i) => { PointEntry.default with function := f, functionIndex := i }
    | none => PointEntry.default

/-- The node with P0 to P8 assigned: the contacts of DOOR1, the two inputs of FAN0, the button of DOOR1, the two keys,
the run output of FAN0, and a general output. -/
def wired : State :=
  { node with
    pointTable :=
      assignedTo [(.doorClosed, 1), (.doorOpen, 1), (.fanConfirm, 0), (.fanIsolator, 0), (.doorButton, 1),
        (.commissionKey, 0), (.maintKey, 0), (.fanRun, 0), (.generalOut, 0)] }

/-- The points of a list at high, filtered and at the pin, and the others low. -/
def levels (l : List (Fin 64)) (s : State) : State :=
  { s with
    points := tabulate fun n =>
      { pin := decide (n ∈ l), filtered := decide (n ∈ l), hold := 0, latch := (s.points[n]).latch } }

/-- A fan put into a state. -/
def withFan (f : Fin 6) (x : Fan) (s : State) : State := s.setFan f x

/-- A door put into a state. -/
def withDoor (d : Fin 6) (x : Door) (s : State) : State := s.setDoor d x

/-- A fan in RUNNING, FWD, at a ramp value, with a target in its direction. -/
def runningAt (ramp speed rate : Nat) : Fan :=
  { Fan.reset with
    mode := .running, ramp := ramp, target := { direction := .fwd, speed := speed, rate := rate, source := .none } }

/-- A well-formed frame. -/
def frame (kind destination source tag : Byte) (cycle : Word) (payload : List Byte) : List Byte :=
  let body :=
    [kind, destination, source, tag, cycle.extractLsb' 8 8, cycle.extractLsb' 0 8, BitVec.ofNat 8 payload.length, 0] ++
      payload
  body ++ [(checkOf body).extractLsb' 8 8, (checkOf body).extractLsb' 0 8]

/-- A page body with its trailer (R162). -/
def sealed (body : List Byte) : List Byte :=
  let front := body ++ List.replicate (508 - body.length) 0xFF
  front ++ [0x5A, 0xC3, (checkOf front).extractLsb' 8 8, (checkOf front).extractLsb' 0 8]

/-- A response slot's bytes (R200): number, precedence, incident effect, successor, hold time and actions. -/
def slotBytes (number precedence enter successor hold : Byte) (actions : List (List Byte)) : List Byte :=
  let front :=
    [0x3C, 0x96, number, precedence, enter, successor, 0, hold, BitVec.ofNat 8 actions.length] ++ actions.flatten
  front ++ List.replicate (128 - front.length) 0xFF

/-- The node with the store in a state. -/
def storing (x : StoreState) : State := { node with store := x }

/-- Whether no key waits and every driven pin stands at its level. -/
def resting (s : State) : Bool :=
  s.keys.isEmpty && (List.finRange 64).all fun n =>
    match s.driveLevel n with
    | none => true
    | some high => decide ((s.point n).pin = high)

theorem atRest_of_resting {s : State} (h : resting s = true) : s.atRest := by
  simp only [resting, Bool.and_eq_true, List.isEmpty_iff, List.all_eq_true, List.mem_finRange, forall_const] at h
  refine ⟨h.1, fun n high hn => ?_⟩
  have := h.2 n
  rw [hn] at this
  simpa using this

/-! ## Well-formedness refuses what the formats exclude -/

theorem test_long_frame_ill_formed :
    (Instr.frameArrival .a (List.replicate 131 0)).wellFormed = false := by decide +kernel
theorem test_long_pulse_ill_formed : (Instr.erasePulseEnd (List.replicate 513 0)).wellFormed = false := by
  decide +kernel
theorem test_long_entries_ill_formed :
    (Instr.writeEntries ask 2 0 1 (List.replicate 113 0)).wellFormed = false := by decide +kernel
theorem test_long_values_ill_formed :
    (Instr.pointValueWrite ask 0 0 1 (List.replicate 113 0)).wellFormed = false := by decide +kernel
theorem test_long_staging_ill_formed :
    (Instr.stagingWrite ask 0 0 (List.replicate 113 0)).wellFormed = false := by decide +kernel
theorem test_known_operation_ill_formed : (Instr.unknownOperation ask [14, 0, 0, 0]).wellFormed = false := by
  decide +kernel
theorem test_short_head_well_formed : (Instr.unknownOperation ask [14, 0, 0]).wellFormed = true := by decide +kernel

/-- No row of the table gives bits, so no word spells a command. -/
theorem test_no_word_decodes : decodeTableWord 16 0x1234 = none := rfl

/-! ## Worked cases of the manual -/

/-- A Calibration Table entry of the listed breakpoints. -/
def breakpoints (l : List Breakpoint) : CalibrationEntry :=
  { count := l.length, points := tabulate fun i => l.getD i.val ⟨0, 0⟩ }

/-- R17, R18, WORKED CALIBRATION CASES. -/
theorem test_calibration_rising : (breakpoints [⟨800, 0⟩, ⟨4000, 3000⟩]).calibrate 1543 = 697 := by decide +kernel
theorem test_calibration_velocity :
    [700, 1000, 2399, 2400, 4000].map (breakpoints [⟨800, -1500⟩, ⟨2400, 0⟩, ⟨4000, 1500⟩]).calibrate =
      [-1500, -1312, -1, 0, 1500] := by decide +kernel
theorem test_calibration_falling :
    [1000, 2000, 4095].map (breakpoints [⟨800, 1500⟩, ⟨4000, -500⟩]).calibrate = [1375, 750, -500] := by decide +kernel

/-- R20, WORKED SMOOTHING CASES. -/
theorem test_smoothing_rising :
    smooth 2 (some 153600) 697 = 159808 ∧ smoothedOutput 159808 = 624 := by decide +kernel
theorem test_smoothing_falling :
    smooth 3 (some (-51200)) (-250) = -52800 ∧ smoothedOutput (-52800) = -206 := by decide +kernel

/-- R27, WORKED WINDOW CLOSE. -/
theorem test_window_close :
    (({ count := 4, sum := 2469, maximum := some 633, minimum := some 600, valid := 3, exceedance := 2 } :
        OpenWindow).close .run 4) =
      { mean := 617, maximum := 633, minimum := 600, valid := 3, exceedance := 2, quality := .good } := by decide +kernel
theorem test_window_mean_negative :
    (({ OpenWindow.empty with count := 4, sum := -2469 } : OpenWindow).close .run 4).mean = -617 ∧
      (({ OpenWindow.empty with count := 4, sum := -2470 } : OpenWindow).close .run 4).mean = -617 := by decide +kernel

/-- The channel entry of WORKED LEVEL SEQUENCE. -/
def levelEntry : ChannelEntry :=
  { ChannelEntry.default with
    t1 := 500, t2 := 1000, t3 := 2000, hysteresis := 100, persistence := 2, failLimit := 3, failLevel := 3 }

/-- A result of a quality and mean. -/
def resultOf (q : Quality) (mean : Int) : WindowResult :=
  { mean := mean, maximum := mean, minimum := mean, valid := 1, exceedance := 0, quality := q }

/-- A channel in a state at a level, with its three counters. -/
def channelAt (mode : ChannelMode) (level rise fall failed : Nat) : Channel :=
  { Channel.off with mode := mode, level := level, rise := rise, fall := fall, failedWindows := failed }

/-- R33, results 2 and 5 of WORKED LEVEL SEQUENCE. -/
theorem test_level_rises :
    Channel.evaluate levelEntry (resultOf .good 1050) (channelAt .run 0 1 0 0) =
      (channelAt .run 2 0 0 0, [.up 0 2]) := by decide +kernel
theorem test_doubtful_holds_fall :
    Channel.evaluate levelEntry (resultOf .doubtful 850) (channelAt .run 2 0 0 0) =
      (channelAt .run 2 0 0 0, []) := by decide +kernel

/-- R34, result 8 of WORKED LEVEL SEQUENCE. -/
theorem test_level_falls :
    Channel.evaluate levelEntry (resultOf .good 820) (channelAt .run 2 0 1 1) =
      (channelAt .run 1 0 0 0, [.down 2 1]) := by decide +kernel

/-- R35, R36, results 3 and 5 of WORKED FAILURE AND RECOVERY. -/
theorem test_channel_fails :
    Channel.evaluate { levelEntry with t1 := 50, t2 := 100, t3 := 150, hysteresis := 10 } (resultOf .failed 0)
        (channelAt .run 1 1 0 2) =
      (channelAt .failed 3 1 0 3, [.failed, .up 1 3]) := by decide +kernel
theorem test_channel_recovers :
    Channel.evaluate { levelEntry with t1 := 50, t2 := 100, t3 := 150, hysteresis := 10 } (resultOf .good 20)
        (channelAt .failed 3 1 0 3) =
      (channelAt .run 3 0 0 0, [.recovered]) := by decide +kernel

/-- R106: the check of the nine bytes 31h to 39h is 29B1h. -/
theorem test_check_of_digits :
    checkOf [0x31, 0x32, 0x33, 0x34, 0x35, 0x36, 0x37, 0x38, 0x39] = 0x29B1 := by decide +kernel

/-- R53, the last tick of the second WORKED RAMP CASE. -/
theorem test_ramp_reaches_target :
    ((after (exec .rampTick (withFan 0 (runningAt 33299 333 7) node))).fan 0).ramp = 33300 := by decide +kernel

/-- R56, R57, the 1600th tick of WORKED REVERSAL. -/
theorem test_stopping_ends_in_coasting :
    let t := after (exec .rampTick (withFan 0 { runningAt 50 600 50 with mode := .stopping } node))
    (t.fan 0).mode = .coasting ∧ (t.fan 0).coastTimer = 6000 := by decide +kernel

/-- R57, R51, the coast expiry of WORKED REVERSAL: STARTING in REV with 1000 ticks. -/
theorem test_coast_expiry_starts_in_reverse :
    let x : Fan :=
      { Fan.reset with mode := .coasting, target := { direction := .rev, speed := 600, rate := 50, source := .none } }
    let t := after (exec (.coastTimerExpiry 0) (withFan 0 x wired))
    (t.fan 0).mode = .starting ∧ (t.fan 0).direction = .rev ∧ (t.fan 0).startTimer = 1000 := by decide +kernel

/-- R52, R58, WORKED SUPERVISION FAULTS: FAULT with event kind 10. -/
theorem test_start_failure :
    let t := after (exec (.startTimerExpiry 4) (withFan 4 { Fan.reset with mode := .starting } node))
    (t.fan 4).mode = .fault ∧ t.events.getLsbD 10 = true := by decide +kernel

/-- The demands of step 3 of WORKED RESOLUTION, without and with the line slot. -/
def contested (line : Option Demand) : Fan :=
  { Fan.reset with
    lineSlot := line
    responseSlots :=
      Vector.replicate 4 none
        |>.set 0 (some { demand := { precedence := 8, direction := .rev, speed := 500, rate := 50 }, sequence := 32 })
        |>.set 1 (some { demand := { precedence := 8, direction := .fwd, speed := 600, rate := 100 }, sequence := 31 }) }

/-- R67, R68, steps 2 and 3 of WORKED RESOLUTION. -/
theorem test_resolution_by_sequence :
    (contested none).resolved { FanEntry.default with minimumSpeed := 150 } =
      { direction := .fwd, speed := 600, rate := 100, source := .response 1 } := by decide +kernel
theorem test_resolution_line_first :
    (contested (some { precedence := 8, direction := .fwd, speed := 100, rate := 30 })).resolved
        { FanEntry.default with minimumSpeed := 150 } =
      { direction := .fwd, speed := 150, rate := 30, source := .line } := by decide +kernel

/-- The node of WORKED PRESSURISATION in INCIDENT: DOOR0 to DOOR2 boost FAN5, and no door is closed. -/
def pressurised : State :=
  { node with
    engine := { node.engine with mode := .incident }
    fanTable :=
      node.fanTable.set 5 { FanEntry.default with present := true, gallery := true, standbySpeed := 300, defaultRate := 40 }
    doorTable :=
      tabulate fun d =>
        { DoorEntry.default with present := true, galleryFan := if d.val < 3 then some 5 else none, boost := 250 } }

/-- R75, step 4 of WORKED PRESSURISATION: 300 + 750 is clamped to 1000. -/
theorem test_pressurisation_clamped :
    pressurised.pressurisationDemand 5 = some { precedence := 10, direction := .fwd, speed := 1000, rate := 40 } := by
  decide +kernel

/-- R76, R84: a point that gains DOOR_CLOSED(0) while inactive hands the closed contact over, and FAN5's slot is written. -/
theorem test_inactive_gain_is_handed_over :
    ((pressurised.unitGains (.doorClosed 0) false).fan 5).pressurisationSlot = pressurised.pressurisationDemand 5 ∧
      (pressurised.fan 5).pressurisationSlot = none := by decide +kernel

/-- R91, WORKED JAM: event kind 13. -/
theorem test_travel_expiry_jams :
    let t := after (exec (.travelTimerExpiry 1) (withDoor 1 { Door.reset with mode := .closing } wired))
    (t.door 1).mode = .jammed ∧ t.events.getLsbD 13 = true := by decide +kernel

/-- R91, WORKED EGRESS CYCLE at 5.2 s: the open contact makes, dwell 6000 ticks for 60 s. -/
theorem test_open_contact_opens :
    let t :=
      after (exec (.pinChange 1 true) (withDoor 1 { Door.reset with mode := .opening, travelTimer := 310 } wired))
    (t.door 1).mode = .opened ∧ (t.door 1).dwellTimer = 6000 := by decide +kernel

/-- R94, WORKED JAM: the closed contact shorts while the open contact is active, event kind 14. -/
theorem test_contact_conflict :
    let t := after (exec (.pinChange 0 true) (levels [1] (withDoor 1 { Door.reset with mode := .opened } wired)))
    (t.door 1).mode = .contactFault ∧ t.events.getLsbD 14 = true := by decide +kernel

/-- R98, step 5 of WORKED HOLDS: a close refused at a held door, which stays OPEN. -/
theorem test_close_refused_when_held :
    let s := withDoor 1 { Door.reset with mode := .opened, lineHold := true } wired
    let t := after (exec (.doorClose ask 2) s)
    t.door 1 = s.door 1 ∧ t.portA = (s.answerOrder ask 7 .refusedState).portA := by decide +kernel

/-- R113, WORKED ARBITRATION, end of P4 and end of P5. -/
theorem test_starved_insert_goes :
    let p : PortState := { PortState.reset with up := true, sending := some [4], pass := [[5], [6]], insertQueue := [[9], [1]], starvation := 4 }
    p.choose = { p with sending := some [9], insertQueue := [[1]], starvation := 0 } := by decide +kernel
theorem test_pass_goes_first :
    let p : PortState := { PortState.reset with up := true, sending := some [5], pass := [[6]], insertQueue := [[9]], starvation := 1 }
    p.choose = { p with sending := some [6], pass := [], starvation := 2 } := by decide +kernel

/-- R115, WORKED CYCLE at 730 ms: mark 4721 after 4716 is a break, taken with a mark timer of 500 ms. -/
theorem test_mark_after_a_break :
    let s : State := { node with cycle := { CycleState.reset with number := 4716, firstMark := true, interval := 1, sequence := 38 } }
    let t := after (exec (.frameArrival .a (frame 1 255 0 0 4721 [])) s)
    t.cycle =
        { marked := true, number := 4721, firstMark := true, markTimer := 500, localTimer := none, interval := 0,
          sequence := 39 } ∧
      t.events.getLsbD 5 = true := by decide +kernel

/-- R116, WORKED CYCLE at 500 ms: the mark timer's expiry counts 4713 on to 4714, UNMARKED. -/
theorem test_mark_timer_expiry :
    let s : State := { node with cycle := { CycleState.reset with marked := true, number := 4713, sequence := 37 } }
    (after (exec .markTimerExpiry s)).cycle =
      { marked := false, number := 4714, firstMark := false, markTimer := 0, localTimer := some 100, interval := 1,
        sequence := 37 } := by decide +kernel

/-- R130, WORKED NEIGHBOUR SUPERVISION at cycle 4725: event kind 15. -/
theorem test_neighbour_goes_silent :
    let s : State :=
      { node with
        cycle := { CycleState.reset with localTimer := some 0 }
        neighbourTable :=
          node.neighbourTable.set 0 { address := 14, silenceLimit := 3, state := .present, silenceCount := 2 } }
    let t := after (exec .localCycleTimerExpiry s)
    (t.neighbourTable[0]).state = .silent ∧ t.events.getLsbD 15 = true := by decide +kernel

set_option maxRecDepth 100000 in
/-- R124, report 4 of WORKED WATCH SEQUENCE: OPACITY at 3 latches the entry that names node 14, and a WATCH_HIT key
dispatches its response. -/
theorem test_report_latches_watch :
    let s : State :=
      { node with
        watchTable :=
          node.watchTable.set 0
            { WatchEntry.default with enabled := true, source := 14, testIndex := 2, comparison := .atOrAbove, operand := 3 }
        triggerTable := node.triggerTable.set 1 { TriggerEntry.default with enabled := true, kind := .watchHit, response := 6 }
        engine := { node.engine with index := node.engine.index.set 6 (some { precedence := 12, enter := true }) } }
    let t := after (exec (.frameArrival .a (frame 2 255 14 44 0 ([0, 0, 0, 0, 2, 3] ++ List.replicate 98 0))) s)
    (t.watchTable[0]).latch = some 14 ∧ t.engine.fetch.map Fetch.number = some 6 := by decide +kernel

/-- The Active Table of WORKED QUEUE AND PREEMPTION, and its index. -/
def preempting : EngineState :=
  { EngineState.reset with
    index := tabulate fun n => if n = 52 then none else some { precedence := if n = 46 then 6 else 3, enter := false }
    sequence := 13
    active :=
      tabulate fun k =>
        some
          { number := [40, 50, 51, 41].getD k.val 0, precedence := [8, 5, 5, 8].getD k.val 0, enter := false
            successor := none, hold := none, sequence := 10 + k.val } }

set_option maxRecDepth 100000 in
/-- R145, event 4 of WORKED QUEUE AND PREEMPTION: the victim is slot 2, event kind 17. -/
theorem test_fetch_completion_preempts :
    let s : State :=
      { node with
        engine := { preempting with fetch := some { number := 72, precedence := 8, cancelled := false, disturbed := false } }
        store := { node.store with service := .reading 72 false (sealed (slotBytes 72 8 0 0xFF 0 [])) } }
    let t := after (exec .fetchCompletion s)
    (t.engine.active[2]).map ActiveResponse.number = some 72 ∧ t.engine.sequence = 14 := by decide +kernel

/-- R141, events 8 and 9 of WORKED QUEUE AND PREEMPTION: 45 is refused and 46 displaces 61. -/
theorem test_full_queue :
    let s : State :=
      { node with
        engine :=
          { preempting with
            fetch := some { number := 60, precedence := 11, cancelled := false, disturbed := false }
            queue := [⟨70, 12⟩, ⟨43, 4⟩, ⟨44, 4⟩, ⟨61, 3⟩] } }
    (after (exec (.responseRun ask 45) s)).engine.queue = s.engine.queue ∧
      (after (exec (.responseRun ask 46) s)).engine.queue = [⟨70, 12⟩, ⟨46, 6⟩, ⟨43, 4⟩, ⟨44, 4⟩] := by decide +kernel

/-- R155, WORKED MODE SEQUENCE: the maintenance key, event kind 20, and INCIDENT CLEAR with the key inactive. -/
theorem test_maintenance_key :
    let t := after (exec (.pinChange 6 true) wired)
    t.engine.mode = .maintenance ∧ t.events.getLsbD 20 = true := by decide +kernel
theorem test_incident_clear :
    (after (exec (.incidentClear ask) { node with engine := { node.engine with mode := .incident } })).engine.mode =
      .normal := by decide +kernel

/-- R167, R168, WORKED SEQUENCE AND PROTECTION REFUSALS, rows 3 and 6. -/
theorem test_staging_write_breaks_the_setup :
    let t :=
      after (exec (.stagingWrite ask 0 0 [1]) (storing { StoreState.reset with mode := .eraseSet, setupPage := some 3 }))
    t.store = { StoreState.reset with sequenceError := true } := by decide +kernel
theorem test_confirm_protected :
    let t :=
      after (exec (.storeConfirm ask 3 0) (storing { StoreState.reset with mode := .eraseSet, setupPage := some 3 }))
    t.store = { StoreState.reset with protectError := true } := by decide +kernel

/-- R169: the eighth pulse that leaves a byte not erased ends the erase with its error, event kind 22. -/
theorem test_eighth_pulse_fails :
    let t :=
      after (exec (.erasePulseEnd [0])
        (storing { StoreState.reset with mode := .erasing, operationPage := some 10, pulses := 7, cells := [⟨5120, 0⟩] }))
    t.store.mode = .ready ∧ t.store.eraseError = true ∧ t.events.getLsbD 22 = true := by decide +kernel

/-- R192, WORKED TABLE WRITE: the faulty entry is named, and nothing is written. -/
theorem test_bad_entry_is_named :
    let bad := bytesOf [fieldWord 5, fieldWord 0]
    (after (exec (.writeEntries ask 7 3 1 bad) node)).portA =
      (node.answerAccess ask 2 7 3 { status := .badEntry, number := 3, data := [] }).portA := by decide +kernel

/-- R129, R192: a neighbour record whose address another record of the request repeats is named before a later record's
address out of range. -/
theorem test_first_faulty_record_is_named :
    let bad := bytesOf [fieldWord 5, fieldWord 3, 0, 0, fieldWord 300, fieldWord 3, 0, 0, fieldWord 5, fieldWord 3, 0, 0]
    (after (exec (.writeEntries ask 7 0 3 bad) node)).portA =
      (node.answerAccess ask 2 7 0 { status := .badEntry, number := 0, data := [] }).portA := by decide +kernel

/-- R84, R180: the button of DOOR1 moved, in one write, from an inactive point to an active one does not press. -/
theorem test_moved_button_does_not_press :
    let swapped := bytesOf ((wired.pointTable[5].words ++ wired.pointTable[4].words).map fieldWord)
    let t := after (exec (.writeEntries ask 9 4 2 swapped) (levels [0, 5] wired))
    (t.door 1).mode = .closed ∧ (t.pointTable[5]).function = .doorButton := by decide +kernel

/-- R172: a program's end during a slot read leaves the cells alone until the read has ended. -/
theorem test_program_waits_for_the_read :
    let s : State :=
      storing
        { StoreState.reset with
          mode := .programming, operationPage := some 10, programData := [⟨0, 0x3C⟩], service := .reading 72 true [] }
    (after (exec .programCompletion s)).store = s.store := by decide +kernel

/-- R194, R195, WORKED EVENT LATCH AND NOTICES: setting 13 and 16 with 13 and 20 latched. -/
theorem test_event_set :
    (after (exec (.eventSet ask 0x2000 0x01) { node with events := 0x102000 })).events = 0x112000 := by decide +kernel


/-! ## States that meet the hypotheses of the statements

A hypothesis that only names a value (`x = s.fans[f]`) is met by naming it and is left out below. -/

/-- A node in the middle of things: a program under way, a response active, in fetch and queued, frames in the line's
queues, a ramp running. -/
def busy : State :=
  { wired with
    portA := { node.portA with sending := some [9], pass := [[8], [9]], insertQueue := [[2], [4]], starvation := 1 }
    fans :=
      wired.fans.set 2
        { runningAt 500 300 20 with
          responseSlots :=
            Vector.replicate 4 none
              |>.set 1 (some { demand := { precedence := 4, direction := .fwd, speed := 300, rate := 20 }, sequence := 57 }) }
    engine :=
      { EngineState.reset with
        queue := [⟨12, 7⟩, ⟨13, 7⟩, ⟨14, 2⟩]
        fetch := some { number := 6, precedence := 12, cancelled := false, disturbed := false }
        active :=
          Vector.replicate 4 none
            |>.set 1 (some { number := 30, precedence := 4, enter := false, successor := none, hold := none, sequence := 57 })
        sequence := 57 }
    store :=
      { StoreState.reset with
        mode := .programming, operationPage := some 10, programData := [⟨0, 0x3C⟩], staging := [⟨0, 0x3C⟩, ⟨511, 0⟩]
        cells := [⟨5121, 0⟩, ⟨24575, 7⟩] }
    pending := [.transmitEnd .a] }

theorem witness_EmptyQueueLetsAMillisecondPass : State.reset.pending = [] := rfl

theorem witness_StepKeepsTheStoreCanonicalAndCoherent :
    busy.memoriesCanonical ∧ busy.store.coherent ∧ ∃ t, step busy = .next t := by
  refine ⟨?_, ?_, _, rfl⟩
  · unfold State.memoriesCanonical
    decide +kernel
  · unfold StoreState.coherent
    decide +kernel

theorem witness_StepKeepsQueuesBoundedAndRampsAtRest :
    busy.queuesBounded ∧ busy.rampsAtRest ∧ ∃ t, step busy = .next t := by
  refine ⟨?_, ?_, _, rfl⟩
  · unfold State.queuesBounded PortState.bounded
    decide +kernel
  · unfold State.rampsAtRest Fan.rampAtRest
    decide +kernel

theorem witness_StepKeepsTheMachineAtRest : busy.atRest ∧ ∃ t, step busy = .next t :=
  ⟨atRest_of_resting (by decide +kernel), _, rfl⟩

theorem witness_StepKeepsTablesAndSpeedsInRange :
    busy.tablesInRange ∧ busy.speedsInRange ∧ ∃ t, step busy = .next t := by
  refine ⟨?_, ?_, _, rfl⟩
  · unfold State.tablesInRange NodeEntry.inRange ChannelEntry.inRange CalibrationEntry.inRange FanEntry.inRange
      DoorEntry.inRange WatchEntry.inRange NeighbourRecord.inRange TriggerEntry.inRange PointEntry.inRange
      State.claimsDistinct within fitsWord within
    repeat' first | decide +kernel | apply And.intro
  · unfold State.speedsInRange
    decide +kernel

theorem witness_StepKeepsTheEngineOrderlyAndItsDemands :
    busy.engine.orderly ∧ busy.demandsActive ∧ ∃ t, step busy = .next t := by
  refine ⟨?_, ?_, _, rfl⟩
  · unfold EngineState.orderly
    decide +kernel
  · unfold State.demandsActive
    decide +kernel

/-- The coast expiry, an order to a STOPPED drive, and a power-on reset each turn a direction output. -/
theorem witness_DirectionChangesOnlyInStoppedOrAtReset :
    let x : Fan :=
      { Fan.reset with mode := .coasting, target := { direction := .rev, speed := 600, rate := 50, source := .none } }
    let s := { withFan 0 x wired with pending := [.coastTimerExpiry 0] }
    let u := { node with pending := [.fanSet ask 0 1 500 20 8] }
    let v := { withFan 0 { Fan.reset with direction := .rev } node with pending := [.powerOnReset 0 0] }
    (∃ t, step s = .next t ∧ (t.fan 0).direction ≠ (s.fan 0).direction) ∧
      (∃ t, step u = .next t ∧ (t.fan 0).direction ≠ (u.fan 0).direction) ∧
      ∃ t, step v = .next t ∧ (t.fan 0).direction ≠ (v.fan 0).direction := by
  refine ⟨⟨_, rfl, ?_⟩, ⟨_, rfl, ?_⟩, _, rfl, ?_⟩ <;> decide +kernel

/-- The node in INCIDENT. -/
def incident : State := { node with engine := { node.engine with mode := .incident } }

/-- The three ways out of INCIDENT. -/
theorem witness_IncidentIsLeftOnlyByClearOrReset :
    incident.load = .running ∧ incident.engine.mode = .incident ∧
      (∃ t, step { incident with pending := [.incidentClear ask] } = .next t ∧ t.engine.mode ≠ .incident) ∧
      (∃ t, step { incident with pending := [.powerOnReset 0 0] } = .next t ∧ t.engine.mode ≠ .incident) ∧
      ∃ t,
        step { incident with pending := [.frameArrival .a (frame 3 20 7 1 0 [0, 11])] } = .next t ∧
          t.engine.mode ≠ .incident :=
  ⟨rfl, rfl, ⟨_, rfl, by decide +kernel⟩, ⟨_, rfl, by decide +kernel⟩, _, rfl, by decide +kernel⟩

/-- A program's end changes its page, and a confirmed setup makes its page the operation page. -/
theorem witness_PagesChangeOnlyInConfirmedOperations :
    let s := { busy with pending := [.programCompletion] }
    let u := { storing { StoreState.reset with mode := .eraseSet, setupPage := some 8 } with pending := [.storeConfirm ask 8 0] }
    (∃ t, step s = .next t ∧ t.store.page 10 ≠ s.store.page 10) ∧
      ∃ t, step u = .next t ∧ t.store.operationPage = some 8 ∧ u.store.operationPage ≠ some 8 :=
  ⟨⟨_, rfl, by decide +kernel⟩, ⟨_, rfl, by decide +kernel⟩⟩

/-! ### Sensing -/

/-- Two breakpoints, with x at and just inside each end, and eight; and a segment that falls from the highest value to the
lowest, at its first and last raw value. -/
theorem witness_CalibrationFollowsItsBreakpoints :
    let e := breakpoints [⟨800, 0⟩, ⟨4000, 3000⟩]
    let g := breakpoints [⟨0, 0⟩, ⟨1, 5⟩, ⟨2, -5⟩, ⟨3, 0⟩, ⟨4, 1⟩, ⟨5, 2⟩, ⟨4094, 3⟩, ⟨4095, 4⟩]
    let p : Breakpoint := ⟨800, 32767⟩
    let q : Breakpoint := ⟨4095, -32768⟩
    (2 ≤ e.count ∧ e.count ≤ 8 ∧ e.increasing = true ∧ 800 ≤ (e.points[0]).raw ∧ (e.points[0]).raw < 801 ∧
      3999 < (e.points[1]).raw ∧ (e.points[1]).raw ≤ 4000 ∧ 2 ≤ g.count ∧ g.count ≤ 8 ∧ g.increasing = true) ∧
      (∀ x ∈ [800, 4094], p.raw ≤ x ∧ x < q.raw) ∧ -32768 ≤ p.value ∧ p.value ≤ 32767 ∧ -32768 ≤ q.value ∧
        q.value ≤ 32767 := by decide +kernel

/-- Values at both ends of the span, and differences of both signs. -/
theorem witness_SmoothingStepNeverPassesItsValue :
    (∀ u ∈ [(-250 : Int), 697, 5], -250 ≤ u ∧ u ≤ 697) ∧ ((0 : Int) ≤ 0 * 256) ∧ ((-1 : Int) * 256 < 0) := by decide

theorem witness_SteadyValueIsReachedExactly : 7 ≤ 7 ∧ (697 : Int) * 256 ≤ 697 * 256 := by decide

/-- CH2 of A CHANNEL FROM ENABLE TO ITS FIFTH SAMPLE, after its second sample, with a window length and a count in it. -/
def sampling (window count : Nat) : State :=
  { node with
    channelTable :=
      node.channelTable.set 2
        { ChannelEntry.default with
          enabled := true, divider := 10, lowLimit := 600, highLimit := 4050, smoothing := 2, window := window }
    calibrationTable := node.calibrationTable.set 2 (breakpoints [⟨800, 0⟩, ⟨4000, 3000⟩])
    channels :=
      node.channels.set 2
        { Channel.off with
          mode := .run, fill := some 750, accumulator := some 181824, window := { OpenWindow.empty with count := count } } }

/-- The node with CH2 in RUN one sample tick short of its sample event. -/
def counting : State := { node with channels := node.channels.set 2 { Channel.off with mode := .run, countdown := 1 } }

/-- Sample 3 of that section enters 750 under HOLD, and the accumulator becomes 184368, the output 720; a count one short
of filling the window, and one that fills it.  A load not over, a channel in OFF, and a countdown above 0. -/
theorem witness_SampleEventFillsAndClosesTheWindow :
    ((sampling 5 3).atRest ∧ (sampling 5 3).load = .running ∧ ((sampling 5 3).channels[2]).mode ≠ .off ∧
      ((sampling 5 3).channels[2]).countdown = 0 ∧
      ((sampling 5 3).channels[2]).window.count + 1 < ((sampling 5 3).channelTable[2]).window ∧
      decide (600 ≤ (300#12).toNat ∧ (300#12).toNat ≤ 4050) = false ∧
      ((sampling 5 3).channels[2]).fill.getD 0 = 750 ∧ (181824 : Int) + (750 * 256 - 181824) / 2 ^ 2 = 184368 ∧
      ((184368 : Int) + 128) / 256 = 720 ∧ (sampling 5 4).load = .running ∧ ((sampling 5 4).channels[2]).mode ≠ .off ∧
      ((sampling 5 4).channels[2]).countdown = 0 ∧
      ((sampling 5 4).channelTable[2]).window ≤ ((sampling 5 4).channels[2]).window.count + 1) ∧
      (State.reset.atRest ∧ State.reset.load ≠ .running) ∧ (node.atRest ∧ (node.channels[3]).mode = .off) ∧
      counting.atRest ∧ (counting.channels[2]).countdown ≠ 0 :=
  ⟨⟨atRest_of_resting (by decide +kernel), by decide +kernel⟩, ⟨atRest_of_resting (by decide +kernel), by decide⟩,
    ⟨atRest_of_resting (by decide +kernel), by decide⟩, atRest_of_resting (by decide +kernel), by decide⟩

theorem witness_EvaluationFollowsTheLevelRules :
    levelEntry.t1 < levelEntry.t2 ∧ levelEntry.t2 < levelEntry.t3 ∧ (channelAt .run 0 1 0 0).level ≤ 3 ∧
      (channelAt .failed 3 1 0 3).level ≤ 3 := by decide

/-! ### Fans -/

/-- A node with a drive in each state. -/
def drives : State :=
  { node with
    fans :=
      tabulate fun f =>
        { runningAt 500 0 20 with
          mode := [DriveMode.starting, .running, .stopping, .coasting, .fault, .isolated].getD f.val .stopped } }

/-- A drive in each of the states, before the units start and after. -/
theorem witness_RampTickMovesEveryDrive :
    drives.keys = [] ∧ State.reset.keys = [] ∧ State.reset.load ≠ .running ∧ drives.load = .running ∧
      (drives.fans[0]).mode = .starting ∧ (drives.fans[1]).mode = .running ∧ (drives.fans[1]).target.speed = 0 ∧
      (drives.fans[2]).mode = .stopping ∧ (drives.fans[3]).mode = .coasting ∧ (drives.fans[4]).mode = .fault ∧
      (drives.fans[5]).mode = .isolated ∧ (node.fans[0]).mode = .stopped ∧ (State.reset.fans[0]).mode = .disabled := by
  decide +kernel

/-- Ramp values on either side of each bound of R53, for target 33300 and rate 7. -/
theorem witness_RampMovesTowardTheTargetWithoutPassingIt :
    ∀ ramp ∈ [0, 33292, 33293, 33299, 33300, 33307, 33308, 100000],
      let x := runningAt ramp 333 7
      let s := withFan 0 x node
      s.keys = [] ∧ s.load = .running ∧ x = s.fans[0] ∧ x.mode = .running ∧ x.target.direction = x.direction ∧
        0 < x.target.speed ∧ x.target.speed ≤ 1000 ∧ x.ramp ≤ 100000 ∧
        exec .rampTick s = .next (after (exec .rampTick s)) := by
  intro ramp h
  simp only [List.mem_cons, List.not_mem_nil, or_false] at h
  rcases h with rfl | rfl | rfl | rfl | rfl | rfl | rfl | rfl <;>
    repeat' first | decide +kernel | rfl | apply And.intro

theorem witness_WinnerHasTheHighestPrecedenceAndTieOrder :
    winnerOf (contested none).demands =
        some (.response 1, { precedence := 8, direction := .fwd, speed := 600, rate := 100 }) ∧
      winnerOf Fan.reset.demands = none := by decide +kernel

/-- A STOPPED drive whose start is not confirmed, and one that needs no confirm. -/
theorem witness_ResolutionReachesTheDriveByItsState :
    (!wired.assigned (.fanConfirm 0) || wired.signalActive (.fanConfirm 0)) = false ∧
      (!wired.assigned (.fanConfirm 1) || wired.signalActive (.fanConfirm 1)) = true ∧ (wired.fans[0]).mode = .stopped := by
  decide +kernel

/-- The last fan present, the first number past it, and an absent fan; a drive in FAULT and one that is not. -/
theorem witness_FanSetReleaseAndReset :
    (node.atRest ∧ node.load = .running ∧ (5 : Word).toNat = (5 : Fin 6).val ∧ (node.fanTable[5]).present = true ∧
        (∀ f : Fin 6, (6 : Word).toNat = f.val → (node.fanTable[f]).present = false) ∧
        ∀ f : Fin 6, (5 : Word).toNat = f.val → ((node.fanTable.set 5 FanEntry.default)[f]).present = false) ∧
      drives.atRest ∧ drives.load = .running ∧ (drives.fanTable[4]).present = true ∧ (drives.fans[4]).mode = .fault ∧
        (drives.fanTable[5]).present = true ∧ (drives.fans[5]).mode ≠ .fault ∧
        ∀ f : Fin 6, (6 : Word).toNat = f.val → (drives.fanTable[f]).present = false :=
  ⟨⟨atRest_of_resting (by decide +kernel), by decide +kernel⟩, atRest_of_resting (by decide +kernel), by decide +kernel⟩

/-! ### Doors -/

/-- A node with DOOR0 to DOOR5 in OPENING, OPEN, CLOSING, JAMMED, CONTACT_FAULT and OUT_OF_SERVICE. -/
def doorways : State :=
  { wired with
    doors :=
      tabulate fun d =>
        { Door.reset with
          mode := [DoorMode.opening, .opened, .closing, .jammed, .contactFault, .outOfService].getD d.val .closed } }

/-- Drives and doors with each timer at its end; the contacts of DOOR1 show neither, and closed where P0 is high. -/
theorem witness_FanAndDoorTimerExpiries :
    let x := withFan 2 { runningAt 500 0 20 with lossTimer := some 0 } node
    let y := withDoor 1 { Door.reset with mode := .opened, lineHold := true } wired
    (drives.atRest ∧ (drives.fans[0]).mode = .starting ∧ (drives.fans[0]).startTimer = 0 ∧ x.atRest ∧
        (x.fans[2]).mode = .running ∧ (x.fans[2]).lossTimer = some 0 ∧ (drives.fans[3]).mode = .coasting ∧
        (drives.fans[3]).coastTimer = 0) ∧
      doorways.atRest ∧ (doorways.doors[0]).mode = .opening ∧ (doorways.doors[0]).travelTimer = 0 ∧
        (doorways.doors[3]).mode = .jammed ∧ (doorways.doors[1]).mode = .opened ∧
        (doorways.doors[1]).dwellTimer = 0 ∧ ¬(doorways.doors[1]).isHeld ∧ doorways.shows 1 ≠ .closed ∧
        (levels [0] doorways).atRest ∧ ((levels [0] doorways).doors[1]).mode = .opened ∧
        (levels [0] doorways).shows 1 = .closed ∧ y.atRest ∧ (y.doors[1]).isHeld := by
  unfold Door.isHeld
  repeat' first | decide +kernel | with_reducible refine atRest_of_resting ?_ | apply And.intro

/-- A set of no door, of every bit past the doors, and of all six; the doors that a close of all six shuts. -/
theorem witness_DoorOpenHoldFreeAndClose :
    (doorways.atRest ∧ doorways.load = .running ∧ doorways.doorsOf 0 = [] ∧ doorways.doorsOf 0xFFC0 = [] ∧
        doorways.doorsOf 0x3F ≠ [] ∧ doorways.doorsOf 0x20 = [5]) ∧
      ∃ closes : Fin 6 → Bool, ∀ d : Fin 6, closes d = true ↔
        d ∈ doorways.doorsOf 0x3F ∧ ((doorways.doors[d]).mode = .opened ∨ (doorways.doors[d]).mode = .jammed) ∧
          ¬(doorways.doors[d]).isHeld := by
  refine ⟨⟨atRest_of_resting (by decide +kernel), by decide +kernel⟩, fun d => decide (d = 1 ∨ d = 3), ?_⟩
  unfold Door.isHeld
  decide +kernel

theorem witness_DoorServiceOffAndOn :
    doorways.atRest ∧ doorways.load = .running ∧ doorways.doorsOf 0xFFC0 = [] ∧ doorways.doorsOf 0x20 ≠ [] ∧
      doorways.engine.mode ≠ .maintenance ∧
      ({ doorways with engine := { doorways.engine with mode := .maintenance } } : State).engine.mode = .maintenance ∧
      (doorways.doorsOf 0x20).filter (fun d => decide ((doorways.doors[d]).mode = .outOfService)) = [5] :=
  ⟨atRest_of_resting (by decide +kernel), by decide +kernel⟩

/-! ### The line -/

/-- A frame of a kind that is only relayed, from node 7. -/
def relayed (destination source : Byte) : List Byte := frame 9 destination source 1 0 [5]

/-- The node with port B UP and in a state. -/
def portB (x : PortState) : State := { node with portB := { x with up := true } }

/-- A node loading, in the middle of its image pages. -/
def loading : State := { node with load := .image 7 false }

/-- The node as a member of group 0 alone. -/
def grouped : State := { node with nodeTable := { node.nodeTable with groups := 1 } }

set_option maxRecDepth 100000 in
/-- The shortest and the longest frame that pass every check. -/
theorem witness_FramesAreCheckedHeardAndRelayed_good :
    ∀ f ∈ [frame 9 20 7 1 0 [], frame 9 20 7 1 0 (List.replicate 120 5)],
      10 ≤ f.length ∧ f.length ≤ 130 ∧ (f.getD 6 0xFF).toNat ≤ 120 ∧ f.length = 10 + (f.getD 6 0xFF).toNat ∧
        f.getD (f.length - 2) 0xFF ++ f.getD (f.length - 1) 0xFF = checkOf (f.take (f.length - 2)) := by
  decide +kernel

/-- A frame of 9 bytes and of 131, a length of 121, a length at odds, and a wrong check; a good frame of another kind to
the node, from its own address, and to others; a mark, a report and a notice during the load, a report and a notice from
the node's own address, and requests to node 9, and to a group the node is not in; and port B DOWN, full, sending and idle,
with a frame to others for it. -/
theorem witness_FramesAreCheckedHeardAndRelayed :
    (List.replicate 9 (0 : Byte)).length < 10 ∧ 130 < (List.replicate 131 (0 : Byte)).length ∧
      120 < (([9, 0, 0, 0, 0, 0, 121, 0, 0, 0] : List Byte).getD 6 0xFF).toNat ∧
      ([9, 0, 0, 0, 0, 0, 1, 0, 0, 0] : List Byte).length ≠ 10 + 1 ∧
      wordOf 0 0 ≠ checkOf ([9, 0, 0, 0, 0, 0, 0, 0] : List Byte) ∧
      node.atRest ∧
      (∀ x ∈ [relayed 20 7, relayed 9 20, relayed 9 7], frameGood x = true ∧ x.head? = some 9) ∧
      node.address = some ((relayed 20 7).getD 1 0xFF) ∧ node.address = some ((relayed 9 20).getD 2 0xFF) ∧
      node.address ≠ some ((relayed 9 7).getD 1 0xFF) ∧
      loading.atRest ∧ loading.load ≠ .running ∧
      (∀ kind ∈ [(1 : Byte), 2, 7], ∀ source ∈ [(7 : Byte), 20],
        frameGood (frame kind 255 source 0 4722 []) = true ∧
          (frame kind 255 source 0 4722 []).head? = some kind) ∧
      node.address = some ((frame 2 255 20 0 4722 []).getD 2 0xFF) ∧
      grouped.atRest ∧
      (∀ kind ∈ [(3 : Byte), 5], ∀ destination ∈ [(9 : Byte), 252],
        frameGood (frame kind destination 7 0 4722 [0, 10]) = true ∧
          (frame kind destination 7 0 4722 [0, 10]).head? = some kind ∧ ¬grouped.isFor destination) ∧
      node.portB.up = false ∧ node.portB.pass = [] ∧
      (portB { PortState.reset with sending := some [4], pass := List.replicate 4 [5] }).atRest ∧
      4 ≤ (List.replicate 4 ([5] : Frame)).length ∧
      (portB { PortState.reset with sending := some [4], pass := List.replicate 3 [5] }).atRest ∧
      (List.replicate 3 ([5] : Frame)).length < 4 ∧ (portB PortState.reset).atRest := by
  unfold State.isFor
  repeat' first | decide +kernel | with_reducible refine atRest_of_resting ?_ | apply And.intro

/-- A kind latched, a kind not in the mask, a kind in it; ports DOWN, with a report queued, full, sending and idle; and a
loss, of a report or notice and of a reply, the first of its kind and not. -/
theorem witness_EventsNotifyThroughTheInsertQueues :
    let s : State := { node with events := 0x2000, nodeTable := { node.nodeTable with noticeMask := 0x100000 } }
    let full : PortState := { PortState.reset with up := true, sending := some [9], insertQueue := List.replicate 8 [4] }
    s.events.getLsbD (EventKind.doorJammed).code = true ∧ s.events.getLsbD (EventKind.modeChange).code = false ∧
      s.nodeTable.noticeMask.getLsbD (EventKind.modeChange).code = true ∧ s.address = some 20 ∧
      s.nodeTable.noticeMask.getLsbD (EventKind.storeDone).code = false ∧
      s.events.getLsbD (EventKind.storeDone).code = false ∧ PortState.reset.up = false ∧ busy.portA.up = true ∧
      busy.portA.insertQueue = [] ++ [2] :: [[4]] ∧ ([2] : Frame).head? = some 2 ∧ 8 ≤ full.insertQueue.length ∧
      busy.portA.insertQueue.length < 8 ∧ busy.portA.sending.isSome = true ∧ node.portA.insertQueue = [] ∧
      node.portA.pass = [] ∧ node.portA.sending = none ∧ (full.placeInsert [4]).2 = .lost ∧
      (node.portA.placeInsert [4]).2 ≠ .lost ∧ (({ s with portA := full }).port .a) = full ∧
      s.latched .insertLoss = false ∧ (s.setEvent .insertLoss).latched .insertLoss = true := by decide +kernel

/-- The node in MARKED at number 4721. -/
def inStep : State :=
  { node with cycle := { CycleState.reset with marked := true, number := 4721, firstMark := true } }

/-- The node in UNMARKED at number 4721, its local cycle timer at its end. -/
def outOfStep : State :=
  { node with cycle := { CycleState.reset with number := 4721, firstMark := true, localTimer := some 0 } }

/-- A mark of the current number in MARKED, one that follows on, and one that does not; a mark from the node's own address,
and one during the load; a mark timer and a local cycle timer run down, and a mark timer that runs. -/
theorem witness_MarksAndTimersRunTheCycle :
    inStep.atRest ∧ outOfStep.atRest ∧ loading.atRest ∧ inStep.load = .running ∧ outOfStep.load = .running ∧
      loading.load ≠ .running ∧
      (∀ x ∈ [frame 1 255 0 0 4721 [], frame 1 255 20 0 4721 [], frame 1 255 0 0 4722 [], frame 1 255 0 0 4730 []],
        frameGood x = true ∧ x.head? = some 1) ∧
      inStep.address = some ((frame 1 255 20 0 4721 []).getD 2 0xFF) ∧
      inStep.cycle.marked = true ∧ (4721 : Word) = inStep.cycle.number ∧ outOfStep.cycle.marked = false ∧
      (4722 : Word) = inStep.cycle.number + 1 ∧ (4730 : Word) ≠ inStep.cycle.number + 1 ∧ inStep.cycle.markTimer = 0 ∧
      ({ inStep with cycle := { inStep.cycle with markTimer := 500 } } : State).cycle.markTimer ≠ 0 ∧
      outOfStep.cycle.localTimer = some 0 :=
  ⟨atRest_of_resting (by decide +kernel), atRest_of_resting (by decide +kernel), atRest_of_resting (by decide +kernel),
    by decide +kernel⟩

/-- The node with a neighbour one cycle short of its silence limit. -/
def expecting : State :=
  { node with
    neighbourTable := node.neighbourTable.set 0 { address := 14, silenceLimit := 3, state := .present, silenceCount := 2 } }

/-- No record in use; and a record that reaches its limit at this event, with a trigger entry for its key. -/
theorem witness_CycleEventsCountSilenceAndReports :
    let s : State :=
      { expecting with
        triggerTable :=
          expecting.triggerTable.set 1 { TriggerEntry.default with enabled := true, kind := .neighbourSilent, response := 6 } }
    node.keys = [] ∧ s.keys = [] ∧ (∀ i : Fin 16, (node.neighbourTable[i]).address = 0) ∧
      (List.finRange 16).filter (fun i => decide ((s.neighbourTable[i]).state ≠ .silent ∧
        (s.neighbourTable[i]).address ≠ 0 ∧
        (s.neighbourTable[i]).silenceLimit ≤ (s.neighbourTable[i]).silenceCount + 1)) = [0] := by decide +kernel

/-- The node with a report entry for OPACITY at 3 from node 14 and a notice entry for code 130, at number 4721. -/
def watching (latch : Option Byte) : State :=
  { inStep with
    watchTable :=
      node.watchTable
        |>.set 0
          { WatchEntry.default with
            enabled := true, source := 14, testIndex := 2, comparison := .atOrAbove, operand := 3, latch := latch }
        |>.set 1
          { WatchEntry.default with enabled := true, kind := .notice, test := .noticeCode, comparison := .equal, operand := 130 } }

/-- A report from node 14 of origin cycle 4723 with an OPACITY item at a level. -/
def report (level : Byte) : List Byte := frame 2 255 14 44 4723 ([0, 0, 0, 0, 2, level] ++ List.replicate 98 0)

set_option maxRecDepth 100000 in
theorem report_good : frameGood (report 3) = true := by decide +kernel

/-- A fresh report at the stale limit that latches an entry and one that clears it, and a notice that meets an entry; a
notice during the load, and one from the node's own address. -/
theorem witness_ReportsAndNoticesAreWatched :
    frameGood (report 3) = true ∧ (watching none).atRest ∧ (watching none).load = .running ∧ loading.atRest ∧
      loading.load ≠ .running ∧ (report 3).head? = some 2 ∧ (watching none).address ≠ some ((report 3).getD 2 0xFF) ∧
      (∀ source ∈ [(14 : Byte), 20],
        frameGood (frame 7 255 source 0 0 [130]) = true ∧ (frame 7 255 source 0 0 [130]).head? = some 7) ∧
      (watching none).address ≠ some ((frame 7 255 14 0 0 [130]).getD 2 0xFF) ∧
      (watching none).address = some ((frame 7 255 20 0 0 [130]).getD 2 0xFF) ∧ (watching none).keys = [] ∧
      65536 - ((watching none).cycle.number - 4723).toNat ≤ (watching none).nodeTable.staleLimit ∧
      104 ≤ (((report 3).drop 8).take ((report 3).length - 10)).length ∧
      testValue (((report 3).drop 8).take ((report 3).length - 10)) .classLevel 2 = 3 ∧
      testValue (((report 2).drop 8).take ((report 2).length - 10)) .classLevel 2 = 2 ∧
      ((watching none).watchTable[0]).latch = none ∧ ((watching (some 14)).watchTable[0]).latch = some 14 ∧
      ((watching none).watchTable[1]).kind = .notice ∧ ((watching none).watchTable[1]).source = 255 := by
  refine ⟨report_good, ?_⟩
  repeat' first | with_reducible apply And.intro | with_reducible refine atRest_of_resting ?_ | decide +kernel

/-- The payload of the worked report: one OPACITY item at level 3, 11 items of class 0 and 255, bytes FFh and 0. -/
theorem witness_ReportsYieldTestValues :
    let payload := ((report 3).drop 8).take 104
    104 ≤ payload.length ∧
      (∀ l ∈ ((List.range 12).filter fun n => decide (((payload.getD (4 + 5 * n) 0xFF).toNat : Int) = 2)).map fun n =>
        (payload.getD (5 + 5 * n) 0xFF).toNat, l ≤ 3) ∧
      (∀ f : Fin 6, (payload.getD (65 + 4 * f.val) 0xFF).toNat ≤ 1) ∧
      (0 : BitVec 14) ++ (payload.getD 0 0xFF).extractLsb' 0 2 ≠ (3 : Word) := by decide +kernel

/-- A DOWN port, an UP one whose timer runs and one whose timer is at its end; an idle transmitter, and each of the
arbiter's cases. -/
theorem witness_LinkTimersAndTransmitters :
    let spent := node.setPort .a { node.portA with linkTimer := 0 }
    (node.port .b).up = false ∧ (node.port .a).up = true ∧ (node.port .a).linkTimer ≠ 0 ∧ (spent.port .a).up = true ∧
      (spent.port .a).linkTimer = 0 ∧ (node.port .a).sending = none ∧
      (busy.port .a).sending.isSome = true ∧ (busy.port .a).pass = [8] :: [[9]] ∧
      (busy.port .a).insertQueue = [2] :: [[4]] ∧ (busy.port .a).starvation ≠ 4 ∧
      ((busy.setPort .a { busy.portA with starvation := 4 }).port .a).starvation = 4 ∧
      ((busy.setPort .a { busy.portA with insertQueue := [] }).port .a).insertQueue = [] ∧
      ((busy.setPort .a { busy.portA with pass := [] }).port .a).pass = [] ∧
      ((node.setPort .a { node.portA with sending := some [4] }).port .a).sending.isSome = true := by decide +kernel

/-- A request to the node and one to a group, an addressed node and one without an address, the last operation code of
one byte, and heads of no, 2 and 3 words; and an order and an access during the load. -/
theorem witness_RequestsAreAnsweredUnknownOrBusy :
    (ask.own = true ∧ ({ ask with own := false } : Request).own = false ∧ node.address = some 20 ∧
        State.reset.address = none ∧ (255 : Word).toNat < 256 ∧ node.atRest ∧ node.load = .running ∧
        ([] : List Word).length < 3 ∧ ([1, 2] : List Word).length < 3 ∧ ¬([1, 2, 3] : List Word).length < 3) ∧
      State.reset.load ≠ .running ∧ Sys2Proof.Machine.orderOf (.restart ask) = some (ask, 14) ∧
        Sys2Proof.Machine.accessOf (.unknownOperation ask [15, 0, 0]) = some (ask, 15, 0, 0) ∧
        ({ State.reset with load := .built } : State).load ≠ .running := by
  repeat' first | decide +kernel | with_reducible refine atRest_of_resting ?_ | apply And.intro

/-- A group's four numbers are the requests' destinations past the nodes (R107): the node in group 0 takes an ORDER and a
TABLE ACCESS to itself, to everyone and to group 0, and none to node 9 or to group 1; a node without an address takes
everyone's alone; a request that is not to the node's own address. -/
theorem witness_RequestFramesRunTheirCommands :
    grouped.atRest ∧ ({ grouped with address := none } : State).atRest ∧
      (∀ destination ∈ [(20 : Byte), 255, 251, 9, 252],
        frameGood (frame 3 destination 7 3 0 [0, 10]) = true ∧ (frame 3 destination 7 3 0 [0, 10]).head? = some 3 ∧
          frameGood (frame 5 destination 7 3 0 [0, 7, 0, 0, 0, 0, 0, 0]) = true ∧
          (frame 5 destination 7 3 0 [0, 7, 0, 0, 0, 0, 0, 0]).head? = some 5 ∧
          (frame 3 destination 7 3 0 [0, 10]).getD 1 0xFF = destination) ∧
      grouped.isFor 20 ∧ grouped.isFor 255 ∧ grouped.isFor 251 ∧ ¬grouped.isFor 9 ∧ ¬grouped.isFor 252 ∧
      ({ grouped with address := none } : State).isFor 255 ∧ ¬({ grouped with address := none } : State).isFor 251 ∧
      decide (grouped.address = some 20) = true ∧ ({ ask with own := false } : Request).own = false := by
  unfold State.isFor
  repeat' first | decide +kernel | with_reducible refine atRest_of_resting ?_ | apply And.intro

/-! ### The response engine -/

/-- The node with an engine. -/
def engaged (e : EngineState) : State := { node with engine := e }

/-- The engine of the worked queue with entries in its queue. -/
def queued (q : List Queued) : State := engaged { preempting with queue := q }

/-- A fetch in flight, an empty queue, a head that may not go and one that may; numbers 127 and 128; a number absent from
the index, one that stands in the queue, one that is queued, and one met by a full queue that it displaces or not. -/
theorem witness_ResponseRunQueuesAndFetches :
    busy.engine.fetch.isSome = true ∧ node.engine.queue = [] ∧ (queued [⟨61, 3⟩]).engine.fetch = none ∧
      (∀ k : Fin 4, ∃ r, (queued [⟨61, 3⟩]).engine.active[k] = some r ∧ decide (3 ≤ r.precedence) = true) ∧
      ((queued [⟨72, 8⟩]).engine.active[1]).map ActiveResponse.precedence = some 5 ∧ (queued [⟨61, 3⟩]).atRest ∧
      (queued [⟨61, 3⟩]).load = .running ∧ 127 < (128 : Word).toNat ∧ (127 : Word).toNat = (127 : Fin 128).val ∧
      (queued []).engine.index[(52 : Fin 128)] = none ∧
      (queued []).engine.index[(46 : Fin 128)] = some { precedence := 6, enter := false } ∧
      61 ∈ (queued [⟨61, 3⟩]).engine.numbers ∧ 46 ∉ (queued [⟨61, 3⟩]).engine.numbers ∧
      (queued [⟨61, 3⟩]).engine.queue.length < 4 ∧
      (queued [⟨70, 12⟩, ⟨43, 4⟩, ⟨44, 4⟩, ⟨61, 3⟩]).engine.queue.getLast? = some ⟨61, 3⟩ ∧
      (queued [⟨70, 12⟩, ⟨43, 4⟩, ⟨44, 4⟩, ⟨61, 3⟩]).atRest := by
  repeat' first | decide +kernel | with_reducible refine atRest_of_resting ?_ | apply And.intro

/-- The node with one active response, 50 in slot 1, whose hold time has run out. -/
def held (successor : Option (Fin 128)) : State :=
  engaged
    { preempting with
      active :=
        Vector.replicate 4 none
          |>.set 1
            (some { number := 50, precedence := 5, enter := false, successor := successor, hold := some 0, sequence := 7 }) }

/-- A number nowhere, in the queue, in fetch and active, the last of which leaves the engine idle. -/
theorem witness_ResponseCancelEndsItWhereItStands :
    busy.atRest ∧ busy.load = .running ∧ busy.engine.orderly ∧ 127 < (128 : Word).toNat ∧
      (0 : Fin 128) ∉ busy.engine.numbers ∧ 12 ∈ busy.engine.queue.map Queued.number ∧
      busy.engine.fetch.map Fetch.number = some 6 ∧ (busy.engine.active[1]).map ActiveResponse.number = some 30 ∧
      (held none).engine.orderly ∧ ∀ j : Fin 4, j ≠ 1 → (held none).engine.active[j] = none := by
  unfold EngineState.orderly
  refine ⟨atRest_of_resting (by decide +kernel), by decide +kernel⟩

/-- The orders in each mode; a change of mode at a door out of service; and the key active and not. -/
theorem witness_IncidentOrdersChangeTheMode :
    node.atRest ∧ node.load = .running ∧ node.engine.mode ≠ .incident ∧ incident.atRest ∧
      incident.engine.mode = .incident ∧ doorways.keys = [] ∧
      (List.finRange 6).filter (fun d => decide ((NodeMode.incident : NodeMode) = .incident ∧
        (doorways.doors[d]).mode = .outOfService)) = [5] ∧
      node.signalActive .maintKey = false ∧ (levels [6] wired).signalActive .maintKey = true := by
  repeat' first | decide +kernel | with_reducible refine atRest_of_resting ?_ | apply And.intro

/-- A page of a record of response 72 that holds DOOR1 and runs FAN0. -/
def page72 : List Byte := sealed (slotBytes 72 8 0 0xFF 0 [[5, 2, 0, 0, 0, 0], [1, 0, 2, 88, 0, 100]])

/-- The node reading that page for its fetch of response 72, with an Active Table. -/
def fetching (active : Vector (Option ActiveResponse) 4) (cancelled disturbed : Bool) (page : List Byte) : State :=
  { node with
    engine :=
      { preempting with
        active := active
        fetch := some { number := 72, precedence := 8, cancelled := cancelled, disturbed := disturbed } }
    store := { node.store with service := .reading 72 false page } }

/-- That node with an Active Table whose responses all stand at the fetch's precedence. -/
def outranked : State :=
  fetching (tabulate fun k => (preempting.active[k]).map fun x => { x with precedence := 8 }) false false page72

set_option maxRecDepth 100000 in
theorem page72_valid : pageValid page72 = true := by decide +kernel

/-- A dropped read, an invalid page, a disturbed and a cancelled fetch, and a table whose responses stand above; a free
slot 0, and the victim of the worked queue, slot 2; and a store that reads nothing. -/
theorem witness_FetchCompletionActivatesOrDiscards :
    let r : ResponseRecord :=
      { precedence := 8, enter := false, successor := none, holdTime := 0
        actions := [.doorHold 2, .fanRun 0 .fwd 600 100] }
    let s := fetching preempting.active false false page72
    let u := fetching (Vector.replicate 4 none) false false page72
    s.atRest ∧ u.atRest ∧ s.store.service = .reading 72 false page72 ∧ u.store.service = .reading 72 false page72 ∧
      s.engine.fetch = some { number := 72, precedence := 8, cancelled := false, disturbed := false } ∧
      pageValid page72 = true ∧ pageValid [] = false ∧ slotRecord ((page72.drop (128 * (72 % 4))).take 128) 72 = some r ∧
      s.noTriggerOn [.doorOpened] ∧ s.demandsActive ∧ u.noTriggerOn [.doorOpened] ∧ u.demandsActive ∧
      s.engine.sequence < 4294967295 ∧ u.engine.active[(0 : Fin 4)] = none ∧
      (∀ j : Fin 4, j < 0 → (u.engine.active[j]).isSome = true) ∧
      (∃ v : ActiveResponse, s.engine.active[(2 : Fin 4)] = some v ∧ v.precedence < r.precedence ∧
        ∀ j : Fin 4, ∃ a : ActiveResponse, s.engine.active[j] = some a ∧
          decide (j = 2 ∨ v.precedence < a.precedence ∨ (v.precedence = a.precedence ∧ a.sequence < v.sequence)) = true) ∧
      (fetching preempting.active true false page72).atRest ∧ (fetching preempting.active false true page72).atRest ∧
      outranked.atRest ∧
      (∀ k : Fin 4, ∃ a, outranked.engine.active[k] = some a ∧ decide (r.precedence ≤ a.precedence) = true) ∧
      node.atRest ∧ ∀ n dropped page, node.store.service ≠ .reading n dropped page := by
  unfold State.noTriggerOn State.demandsActive
  intro r s u
  have idle : ∀ n dropped page, node.store.service ≠ .reading n dropped page := by intro _ _ _ h; cases h
  repeat'
    first
    | with_reducible exact page72_valid
    | with_reducible exact idle
    | decide +kernel
    | with_reducible refine atRest_of_resting ?_
    | apply And.intro
    | exact rfl

/-- A page of a record of response 72 that enters INCIDENT, opens DOOR1 and sends NOTICE 130. -/
def page72Entering : List Byte := sealed (slotBytes 72 8 1 0xFF 0 [[4, 2, 0, 0, 0, 0], [6, 130, 0, 0, 0, 0]])

set_option maxRecDepth 100000 in
theorem page72Entering_valid : pageValid page72Entering = true := by decide +kernel

/-- An activation that preempts the latest of the lowest, enters INCIDENT and finds the activation sequence counter full;
and a node that has no address for its notice. -/
theorem witness_FetchCompletionActivatesOrDiscards_steps :
    let r : ResponseRecord :=
      { precedence := 8, enter := true, successor := none, holdTime := 0, actions := [.doorOpen 2, .notice 130] }
    let u := fetching preempting.active false false page72Entering
    let s : State := { u with engine := { u.engine with sequence := 4294967295 } }
    s.atRest ∧ s.store.service = .reading 72 false page72Entering ∧
      s.engine.fetch = some { number := 72, precedence := 8, cancelled := false, disturbed := false } ∧
      pageValid page72Entering = true ∧ slotRecord ((page72Entering.drop (128 * (72 % 4))).take 128) 72 = some r ∧
      (∃ v : ActiveResponse, s.engine.active[(2 : Fin 4)] = some v ∧ v.precedence < r.precedence ∧
        ∀ j : Fin 4, ∃ a : ActiveResponse, s.engine.active[j] = some a ∧
          decide (j = 2 ∨ v.precedence < a.precedence ∨ (v.precedence = a.precedence ∧ a.sequence < v.sequence)) = true) ∧
      4294967295 ≤ s.engine.sequence ∧ u.engine.sequence < 4294967295 ∧ s.address = some 20 ∧
      ({ s with address := none } : State).address = none := by
  refine ⟨atRest_of_resting (by decide +kernel), rfl, rfl, page72Entering_valid, by decide +kernel,
    ⟨{ number := 51, precedence := 5, enter := false, successor := none, hold := none, sequence := 12 },
      by decide +kernel, by decide, fun j => (Option.any_eq_true _ _).mp (by revert j; decide +kernel)⟩,
    by decide +kernel⟩

/-- The engine of that node once slot 1 is free, with entries in its queue. -/
def freedEngine (q : List Queued) : EngineState := { (held none).engine with queue := q, active := Vector.replicate 4 none }

/-- A response whose hold time ran out, the only one; a free slot and a response without a hold timer.  A successor absent
from the index, itself, queued already, with room in the queue, above the last entry of a full queue, and level with it. -/
theorem witness_HoldTimerExpiryWithdrawsTheResponse :
    let low : List Queued := [⟨70, 12⟩, ⟨43, 4⟩, ⟨44, 4⟩, ⟨61, 3⟩]
    let high : List Queued := [⟨70, 12⟩, ⟨43, 8⟩, ⟨44, 7⟩, ⟨45, 6⟩]
    let handing (q : List Queued) : State := engaged { (held (some 46)).engine with queue := q }
    (held none).atRest ∧ (handing low).atRest ∧ (handing high).atRest ∧ (handing [⟨46, 6⟩]).atRest ∧
      (held none).engine.active[(0 : Fin 4)] = none ∧
      ((held none).engine.active[(1 : Fin 4)]).map (fun r => (r.successor, r.hold)) = some (none, some 0) ∧
      ((queued []).engine.active[(1 : Fin 4)]).map ActiveResponse.hold = some none ∧
      ((handing low).engine.active[(1 : Fin 4)]).map (fun r => (r.successor, r.hold)) = some (some 46, some 0) ∧
      (∀ q ∈ [low, high, [⟨46, 6⟩], []],
        { (handing q).engine with active := (handing q).engine.active.set 1 none } = freedEngine q) ∧
      (freedEngine []).index[(52 : Fin 128)] = none ∧
      (freedEngine []).index[(46 : Fin 128)] = some { precedence := 6, enter := false } ∧
      50 ∉ (freedEngine []).numbers ∧ 46 ∈ (freedEngine [⟨46, 6⟩]).numbers ∧ 46 ∉ (freedEngine low).numbers ∧
      46 ∉ (freedEngine high).numbers ∧ (freedEngine []).queue.length < 4 ∧ low.getLast? = some ⟨61, 3⟩ ∧
      high.getLast? = some ⟨45, 6⟩ := by
  repeat' first | decide +kernel | with_reducible refine atRest_of_resting ?_ | apply And.intro

/-- Which entries match a LEVEL_UP key to level 3 of an OPACITY channel: the entry of A WORKED INCIDENT and no other. -/
theorem witness_TriggerKeyRunsItsMatchingEntriesInOrder :
    let s : State :=
      { node with
        triggerTable :=
          node.triggerTable.set 3
            { TriggerEntry.default with
              enabled := true, selector := .index, selectorValue := 4, levelOperand := 3, modeFilter := 3, response := 2 } }
    let k : Key := { kind := .levelUp, index := 4, cls := some .opacity, level := 3 }
    ∃ matching : Fin 64 → Bool, ∀ i : Fin 64, matching i = true ↔
      (s.triggerTable[i]).enabled = true ∧ (s.triggerTable[i]).kind = k.kind ∧
        ((s.triggerTable[i]).selector = .index → (s.triggerTable[i]).selectorValue = (k.index : Int)) ∧
        ((s.triggerTable[i]).selector = .cls →
          ∃ c : SensorClass, k.cls = some c ∧ (s.triggerTable[i]).selectorValue = (c.code : Int)) ∧
        (k.kind = .levelUp → (s.triggerTable[i]).levelOperand ≤ k.level) ∧
        (k.kind = .levelDown → k.level ≤ (s.triggerTable[i]).levelOperand) ∧
        (s.triggerTable[i]).modeFilter.getLsbD
          (match s.engine.mode with | .normal => 0 | .incident => 1 | .maintenance => 2) = true := by
  intro s k
  refine ⟨fun i => decide (i = 3), fun i => ?_⟩
  by_cases h : i = 3
  · subst h
    simp only [decide_true, true_iff]
    refine and_assoc.mp ⟨by decide +kernel, by decide +kernel, fun h => absurd h (by decide +kernel), ?_⟩
    decide +kernel
  · have hd : (s.triggerTable[i]).enabled = true → i = 3 := by revert i; decide +kernel
    simp only [decide_eq_true_eq, h, false_iff, not_and]
    exact fun e => absurd (hd e) h

/-! ### The retained store -/

/-- The node with the store in a mode, its setup page and its operation page. -/
def storeIn (mode : StoreMode) (setup operation : Option (Fin 48)) : State :=
  storing { StoreState.reset with mode := mode, setupPage := setup, operationPage := operation }

/-- READY and each busy state; pages 47 and 48; the supply error standing; and, in both setup states, the first and the
last of the commands that break a sequence. -/
theorem witness_StoreStatusClearAndSetup :
    (node.load = .running ∧ node.store.mode = .ready ∧ (storeIn .erasing none (some 3)).store.mode = .erasing ∧
        (storeIn .eraseSuspended none none).store.mode = .eraseSuspended ∧
        (storeIn .programming none (some 3)).store.mode = .programming ∧ 48 ≤ (48 : Word).toNat ∧
        (47 : Word).toNat = (47 : Fin 48).val ∧ node.store.supplyError = false ∧
        (storing { StoreState.reset with supplyError := true }).store.supplyError = true) ∧
      (storeIn .eraseSet (some 3) none).load = .running ∧ (storeIn .eraseSet (some 3) none).store.mode = .eraseSet ∧
        (storeIn .programSet (some 3) none).store.mode = .programSet ∧
        Sys2Proof.Machine.accessOf (.storeClearStatus ask 0 0) = some (ask, 8, 0, 0) ∧ 8 ≤ (8 : Word).toNat ∧
        Sys2Proof.Machine.accessOf (.programSetup ask 3 0) = some (ask, 13, 3, 0) ∧ (13 : Word).toNat ≤ 13 ∧
        (∀ head, Instr.storeClearStatus ask 0 0 ≠ .unknownOperation ask head) ∧
        ∀ head, Instr.programSetup ask 3 0 ≠ .unknownOperation ask head :=
  ⟨by decide +kernel, rfl, rfl, rfl, rfl, by decide, rfl, by decide, (by intro _ h; cases h), (by intro _ h; cases h)⟩

/-- Lengths 0, 1, 96 and 97, offsets 511 and 512, page 48; and writes without bytes, up to byte 511 and past it. -/
theorem witness_StoreBytesAreReadAndWritten :
    node.load = .running ∧ node.store.mode = .ready ∧ (storeIn .programming none (some 3)).store.mode = .programming ∧
      (storeIn .programming none (some 3)).store.mode ≠ .eraseSet ∧
      (storeIn .programming none (some 3)).store.mode ≠ .programSet ∧ (0 : Word).toNat = 0 ∧ 96 < (97 : Word).toNat ∧
      0 < (1 : Word).toNat ∧ (96 : Word).toNat ≤ 96 ∧ (511 : Word).toNat < 512 ∧ 512 ≤ (512 : Word).toNat ∧
      48 ≤ (48 : Word).toNat ∧ (47 : Word).toNat = (47 : Fin 48).val ∧ ([] : List Byte) = [] ∧
      (511 : Word).toNat + ([1] : List Byte).length ≤ 512 ∧ 512 < (511 : Word).toNat + ([1, 2] : List Byte).length := by
  decide +kernel

/-- No setup; a setup of another page; page 7 without the key; page 7 with it; page 8; page 31 and page 32. -/
theorem witness_ConfirmBeginsTheOperation :
    (storeIn .programming none (some 3)).load = .running ∧
      (storeIn .programming none (some 3)).store.mode = .programming ∧ node.store.mode = .ready ∧
      (storeIn .eraseSet (some 7) none).store.mode = .eraseSet ∧
      (storeIn .programSet (some 8) none).store.mode = .programSet ∧
      (∀ p : Fin 48, (storeIn .eraseSet (some 7) none).store.setupPage = some p → (8 : Word).toNat ≠ p.val) ∧
      (storeIn .eraseSet (some 7) none).store.setupPage = some 7 ∧ (7 : Word).toNat = (7 : Fin 48).val ∧
      (7 : Fin 48).val < 8 ∧ (storeIn .eraseSet (some 7) none).signalActive .commissionKey = false ∧
      (levels [5] wired).signalActive .commissionKey = true ∧ 8 ≤ (8 : Fin 48).val ∧ (31 : Fin 48).val < 32 ∧
      32 ≤ (32 : Fin 48).val := by decide +kernel

/-- A page of bytes of which every bit is set is blank. -/
theorem blank_of_or (page : List Byte) :
    ((List.range 512).map fun i => page.getD i 0xFF ||| ([] : List Byte).getD i 0xFF) = List.replicate 512 0xFF := by
  rw [List.eq_replicate_iff]
  refine ⟨by simp, fun b hb => ?_⟩
  obtain ⟨i, -, rfl⟩ := List.mem_map.mp hb
  exact BitVec.or_allOnes

/-- A page's front of 508 bytes; a slot with two actions and one whose count is past 12, in its place and in another's. -/
theorem witness_ErasePulsesAndProgramEnd_layout :
    let a : Byte × Byte × Word × Word := (4, 2, 0, 0)
    (List.replicate 508 (0xFF : Byte)).length = 508 ∧
      ([a, a] : List (Byte × Byte × Word × Word)).length = min 12 (2 : Byte).toNat ∧
      (List.replicate 12 a).length = min 12 (0xFF : Byte).toNat ∧ (72 : Byte).toNat = (72 : Fin 128).val ∧
      (72 : Byte).toNat ≠ (71 : Fin 128).val := ⟨List.length_replicate, rfl, rfl, rfl, by decide⟩

/-- A pulse that leaves the page blank, and one that does not, as the seventh and as the eighth; a program; and a read
under way. -/
theorem witness_ErasePulsesAndProgramEnd :
    let x := { StoreState.reset with mode := .erasing, operationPage := some 10, pulses := 6, cells := [(5120, 0)] }
    let y := { x with pulses := 7 }
    let reading : State := storing { x with mode := .programming, service := .reading 45 false [] }
    node.store.mode ≠ .erasing ∧ node.store.mode ≠ .programming ∧ reading.store.service ≠ .idle ∧
      (∃ n dropped page, reading.store.service = .reading n dropped page) ∧ (storing x).store.mode = .erasing ∧
      (storing x).store.operationPage = some 10 ∧ (storing x).store.service = .idle ∧
      (x.setPage 10 ((List.range 512).map fun i => (x.page 10).getD i 0xFF ||| ([] : List Byte).getD i 0xFF)).page 10 =
        List.replicate 512 0xFF ∧
      (x.setPage 10 ((List.range 512).map fun i => (x.page 10).getD i 0xFF ||| ([0] : List Byte).getD i 0xFF)).page 10 ≠
        List.replicate 512 0xFF ∧
      x.pulses < 7 ∧ 7 ≤ y.pulses ∧ (storeIn .programming none (some 31)).store.mode = .programming ∧
      (storeIn .programming none (some 31)).store.operationPage = some 31 ∧
      (∀ n dropped page, (storeIn .programming none (some 31)).store.service ≠ .reading n dropped page) ∧
      (31 : Fin 48).val < 32 := by
  refine ⟨by decide, by decide, by decide +kernel, ⟨45, false, [], rfl⟩, rfl, rfl, rfl, ?_, ?_, by decide, by decide, rfl,
    rfl, (by intro _ _ _ h; cases h), by decide⟩
  · rw [StoreState.page_setPage_same _ _ _ (by simp)]
    exact blank_of_or _
  · rw [StoreState.page_setPage_same _ _ _ (by simp)]
    intro h
    exact absurd (congrArg List.head? h) (by decide +kernel)

/-- The same level, a change outside an operation, and a supply that goes low in one; an erase with a read waiting, no
erase, and an erase with none waiting; no read, and requests behind one. -/
theorem witness_SupplyAbortsAndReadsSuspend :
    node.supplyOk = true ∧ false ≠ node.supplyOk ∧ node.store.operationPage = none ∧
      (storeIn .erasing none (some 10)).supplyOk = true ∧ (storeIn .erasing none (some 10)).store.operationPage = some 10 ∧
      (storeIn .erasing none (some 10)).store.mode.busy = true ∧
      (let x := { StoreState.reset with mode := .erasing, operationPage := some 10, service := .waiting 45 false };
        (storing x).store.mode = .erasing ∧ (storing x).store.service = .waiting 45 false ∧
          (storing x).store.operationPage = some 10) ∧
      node.store.mode ≠ .erasing ∧
      (∀ n dropped, (storeIn .erasing none (some 10)).store.service ≠ .waiting n dropped) ∧
      (∀ n dropped, node.store.service ≠ .waiting n dropped) ∧ node.store.behind = [] ∧
      (storing { StoreState.reset with behind := [⟨46, true⟩, ⟨47, false⟩] }).store.behind = ⟨46, true⟩ :: [⟨47, false⟩] := by
  decide +kernel

/-! ### Field points, tables and events -/

/-- The wired node with a filter time at P9, whose pin is high and whose filtered level is low. -/
def filtering (filterTime hold : Nat) : State :=
  { wired with
    pointTable := wired.pointTable.set 9 { PointEntry.default with filterTime := filterTime }
    points := wired.points.set 9 { pin := true, filtered := false, hold := hold, latch := false } }

/-- A driven pin, a pin that keeps its level, a pin that changes at filter times 0 and 1; a count one short of the filter
time and at it; and a signal that P0 alone holds and one that none does. -/
theorem witness_PinLevelsAreFilteredAndReachTheirUnits :
    wired.atRest ∧ (wired.driveLevel 7).isSome = true ∧ (wired.points[0]).pin = false ∧ wired.driveLevel 0 = none ∧
      (wired.points[0]).pin ≠ true ∧ true ≠ (wired.points[0]).filtered ∧ (wired.pointTable[0]).filterTime = 0 ∧
      (filtering 1 0).atRest ∧ (filtering 1 0).driveLevel 9 = none ∧ ((filtering 1 0).points[9]).pin ≠ false ∧
      0 < ((filtering 1 0).pointTable[9]).filterTime ∧ ((filtering 1 0).points[9]).hold < 1 ∧
      (filtering 1 1).atRest ∧ ((filtering 1 1).points[9]).pin ≠ ((filtering 1 1).points[9]).filtered ∧
      ((filtering 1 1).pointTable[9]).filterTime ≤ ((filtering 1 1).points[9]).hold ∧
      (wired.pointTable[0]).signal = some (.doorClosed 1) ∧
      (∀ m : Fin 64, m ≠ 0 → (wired.pointTable[m]).signal ≠ some (.doorClosed 1)) ∧
      (∀ n : Fin 64, (wired.pointTable[n]).signal ≠ some (.fanConfirm 5)) ∧ (wired.pointTable[8]).function = .generalOut := by
  repeat' first | decide +kernel | with_reducible refine atRest_of_resting ?_ | apply And.intro

/-- DOOR1 OPEN with its closed contact made, and the door it takes. -/
theorem witness_ContactsMoveTheDoorAndItsGalleryFan :
    ∃ (sig : Signal) (out : Door × List KeyKind × Option EventKind),
      sig = .doorClosed 1 ∧
        out = Door.contacted (levels [0] doorways).doorTable[(1 : Fin 6)]
          ((levels [0] doorways).assigned (.doorClosed 1) && (levels [0] doorways).assigned (.doorOpen 1))
          ((levels [0] doorways).shows 1) true ((levels [0] doorways).signalActive sig) (levels [0] doorways).doors[(1 : Fin 6)] ∧
        out.1.mode = .closed ∧ out.2.1 = [.doorShut] := ⟨_, _, rfl, rfl, by decide +kernel⟩

theorem unknown_table (t : TableId) : t.code ≠ (0 : Word).toNat ∧ t.code ≠ (0xFFFF : Word).toNat := by
  cases t <;> decide

/-- Table ids outside R190's list, and the Point Table with its field limit. -/
theorem witness_ReadEntriesReturnsWholeEntries :
    node.load = .running ∧ (∀ t : TableId, t.code ≠ (0 : Word).toNat) ∧ TableId.point.code = (9 : Word).toNat ∧
      (63 : Word).toNat + (1 : Word).toNat ≤ TableId.point.limit ∧ (64 : Word).toNat = TableId.point.limit :=
  ⟨rfl, fun t => (unknown_table t).1, by decide +kernel⟩

/-- The codes the views show: field words, a flag, and an input that is inactive, active or held by no point. -/
theorem witness_EntriesAreShownInFieldWords :
    ∃ (shown : List Int → List Word) (flag : Bool → Int) (input : Signal → Int),
      (∀ vs, shown vs = vs.map (BitVec.ofInt 16)) ∧ (∀ b, flag b = if b = true then 1 else 0) ∧
        (∀ sig, input sig = if wired.assigned sig = true then flag (wired.signalActive sig) else 2) ∧
        input (.fanConfirm 0) = 0 ∧ input (.fanConfirm 1) = 2 :=
  ⟨_, _, _, fun _ => rfl, fun _ => rfl, fun _ => rfl, by decide +kernel, by decide +kernel⟩

/-- The words of a Calibration Table entry with two breakpoints. -/
def calibrationWords (count : Int) : List Word :=
  ([count, 800, 0, 4000, 3000] ++ List.replicate 12 0).map fieldWord

/-- An entry that parses, of a table without claims, has no structural fault. -/
theorem not_offersFault {s : State} {t : TableId} {first count : Nat} {ws : List Word} {k : Nat}
    (parsed : (t.parse (clampedValues t ws k)).isSome = true) (point : t ≠ .point) (neighbour : t ≠ .neighbour) :
    ¬s.offersFault t first count ws k := by
  unfold State.offersFault
  rintro (fault | ⟨fault, -⟩ | ⟨fault, -⟩)
  · rw [fault] at parsed
    cases parsed
  · exact point fault
  · exact neighbour fault

/-- An unknown table, a table only read, a word too few, and a run past the field limit; a request whose second entry is
faulty, and one of two neighbour records with one address; and an entry that is taken where the channel is OFF and
refused where it runs. -/
theorem witness_WriteEntriesChecksTheWholeRequest :
    let t := TableId.calibration
    let words := wordsOf (bytesOf (calibrationWords 2))
    let faulty := wordsOf (bytesOf (calibrationWords 2 ++ calibrationWords 3))
    let twice := wordsOf (bytesOf [fieldWord 5, fieldWord 3, 0, 0, fieldWord 5, fieldWord 3, 0, 0])
    let e := breakpoints [⟨800, 0⟩, ⟨4000, 3000⟩]
    (node.atRest ∧ node.load = .running ∧ (∀ t : TableId, t.code ≠ (0xFFFF : Word).toNat) ∧ t.code = (3 : Word).toNat ∧
        16 ≤ TableId.channelStatus.code ∧ t.code < 16 ∧ words.length ≠ 2 * t.length ∧ words.length = 1 * t.length ∧
        t.limit < 12 + 1 ∧ 11 + 1 ≤ t.limit) ∧
      (faulty.length = 2 * t.length ∧ node.offersFault t 10 2 faulty 1 ∧ ∀ j < 1, ¬node.offersFault t 10 2 faulty j) ∧
      (twice.length = 2 * TableId.neighbour.length ∧ node.offersFault .neighbour 0 2 twice 0) ∧
      (∀ k < 1, ¬node.offersFault t 11 1 words k ∧ t.parse (clampedValues t words k) = [TableEntry.calibration e][k]?) ∧
      ¬node.refusesInUse 11 (.calibration e) ∧ (sampling 5 3).refusesInUse 2 (.calibration { e with count := 3 }) ∧
      clampedValues t words 0 = offeredValues t words 0 := by
  refine ⟨⟨atRest_of_resting (by decide +kernel), rfl, fun t => (unknown_table t).2, by decide +kernel⟩,
    ⟨by decide +kernel, .inl (by decide +kernel), fun j hj => ?_⟩,
    ⟨by decide +kernel, .inr (.inr ⟨rfl, 5, 1, by decide, by decide, by decide +kernel, by decide +kernel⟩)⟩,
    fun k hk => ?_, ?_, ?_, by decide +kernel⟩
  · obtain rfl : j = 0 := by omega
    exact not_offersFault (by decide +kernel) (by decide) (by decide)
  · obtain rfl : k = 0 := by omega
    exact ⟨not_offersFault (by decide +kernel) (by decide) (by decide), by decide +kernel⟩
  · unfold State.refusesInUse
    decide +kernel
  · unfold State.refusesInUse
    decide +kernel

/-- An entry that a request can hold, and words that parse; and words at, below and above the ends of a clamped field, in a
field without a range and past the words. -/
theorem witness_WrittenEntriesReadBack :
    let words := wordsOf (bytesOf (calibrationWords 2))
    (TableEntry.door { DoorEntry.default with present := true }).offerable ∧ words.length = TableId.calibration.length ∧
      TableId.calibration.parse (clampedValues .calibration words 0) =
        some (.calibration (breakpoints [⟨800, 0⟩, ⟨4000, 3000⟩])) ∧
      (∀ c ∈ [((2 : Int), (2 : Int)), (8, 8), (1, 2), (9, 8)],
        (offeredValues .calibration (calibrationWords c.1) 0)[0]? = some c.1 ∧
          (clampedValues .calibration (calibrationWords c.1) 0)[0]? = some c.2) ∧
      (clampedValues .calibration (calibrationWords 2) 0)[2]? = some 0 ∧
      (offeredValues .calibration (calibrationWords 2) 1)[0]? = none ∧
      (offeredValues .calibration (calibrationWords 2) 0)[17]? = none := by
  unfold TableEntry.offerable DoorEntry.inRange within
  decide +kernel

/-- The last run that each table takes. -/
theorem witness_TakenWritesMoveChannelsFansAndDoors :
    10 + [ChannelEntry.default, ChannelEntry.default].length ≤ 12 ∧ 5 + [FanEntry.default].length ≤ 6 ∧
      5 + [DoorEntry.default].length ≤ 6 := by decide

/-- A watch entry that is CLEAR, over one that is LATCHED; and a record with its state at UNKNOWN. -/
theorem witness_TakenWritesOfTheOtherTables :
    31 + [WatchEntry.default].length ≤ 32 ∧ (∀ e ∈ [WatchEntry.default], e.latch = none) ∧
      ((watching (some 14)).watchTable[0]).latch = some 14 ∧ 15 + [NeighbourRecord.default].length ≤ 16 ∧
      ∀ e ∈ [NeighbourRecord.default], e.state = .unknown ∧ e.silenceCount = 0 := by decide +kernel

/-- The commissioning key and the button of DOOR1 change points in one write, and P6, the maintenance key, is lost; and P7
takes the closed contact of DOOR2, which is inactive. -/
theorem witness_PointTableWritesHandOverSignals :
    let es :=
      [wired.pointTable[5], wired.pointTable[4], PointEntry.default,
        { PointEntry.default with function := .doorClosed, functionIndex := 2 }]
    ∃ accepted : State,
      accepted =
          { wired with
            pointTable := overlaid wired.pointTable 4 es
            points :=
              tabulate fun n =>
                if ((overlaid wired.pointTable 4 es)[n]).filterTime < (wired.pointTable[n]).filterTime ∧
                    (wired.points[n]).pin ≠ (wired.points[n]).filtered ∧
                    ((overlaid wired.pointTable 4 es)[n]).filterTime ≤ (wired.points[n]).hold then
                  { wired.points[n] with filtered := (wired.points[n]).pin, hold := 0 }
                else wired.points[n] } ∧
        wired.load = .running ∧ wired.keys = [] ∧ wired.claimsDistinct ∧ accepted.claimsDistinct ∧ es ≠ [] ∧
        4 + es.length ≤ 64 ∧ accepted.signalActive (.doorClosed 2) = false ∧ wired.assigned (.doorClosed 2) = false := by
  intro es
  unfold State.claimsDistinct
  exact ⟨_, rfl, by decide +kernel⟩

/-- A run up to P63 and one past it; values 0, 1 and 2; and a value too few and one too many. -/
theorem witness_PointValuesAndEventMasks :
    wired.atRest ∧ wired.load = .running ∧ (63 : Word).toNat + (1 : Word).toNat ≤ 64 ∧
      64 < (63 : Word).toNat + (2 : Word).toNat ∧ (wordsOf [0, 1]).length = (1 : Word).toNat ∧
      (wordsOf [0, 1])[0]? = some 1 ∧ (wordsOf [0, 0])[0]? = some 0 ∧ (wordsOf [0, 2])[0]? ≠ some 0 ∧
      (wordsOf [0, 2])[0]? ≠ some 1 ∧ (63 : Word).toNat + 0 < 65536 ∧ (wordsOf []).length < (1 : Word).toNat ∧
      (1 : Word).toNat < (wordsOf [0, 1, 0, 1]).length ∧
      (62 : Word).toNat + min (1 : Word).toNat (wordsOf [0, 1, 0, 1]).length < 65536 :=
  ⟨atRest_of_resting (by decide +kernel), by decide +kernel⟩

/-- A node with a response active, with its address and without one. -/
theorem witness_NicheReportLayout :
    ∃ b : List Byte, b = busy.reportPayload ∧ b.getD 100 0 = 0xFF ∧ b.getD 101 0 = 30 ∧ busy.address.isSome = true ∧
      State.reset.address = none := ⟨_, rfl, by decide +kernel⟩

/-! ### Resets and start-up load -/

/-- INCIDENT and another mode; a node with an address and one without. -/
theorem witness_RestartResetsEveryBlock :
    incident.load = .running ∧ incident.engine.mode = .incident ∧ node.load = .running ∧ node.engine.mode ≠ .incident ∧
      node.address.isSome = true ∧ ({ node with address := none } : State).address = none := by decide +kernel

/-- A Calibration Table record for CH11, alone on its page. -/
def calibrationPage : List Byte := sealed ([3, 11, 1] ++ bytesOf (calibrationWords 2))

/-- The load at an image page with a page in the store. -/
def replaying (p : Fin 16) (page : List Byte) : State :=
  { State.reset with
    load := .image p false
    store := StoreState.reset.setPage ⟨32 + p.val, by omega⟩ page }

set_option maxRecDepth 100000 in
theorem calibrationPage_valid : pageValid calibrationPage = true := by decide +kernel

set_option maxRecDepth 100000 in
theorem emptyPage_valid : pageValid (sealed []) = true := by decide +kernel

/-- A page whose records fill it to byte 507, and one whose last record is cut there. -/
def fullPage : List Byte := sealed ([100, 0, 125] ++ List.replicate 250 0 ++ [100, 0, 126] ++ List.replicate 252 0)
def cutPage : List Byte := sealed ([100, 0, 250] ++ List.replicate 500 0 ++ [3, 0, 1, 0, 0])

set_option maxRecDepth 100000 in
theorem fullPage_valid : pageValid fullPage = true := by decide +kernel

set_option maxRecDepth 100000 in
theorem cutPage_valid : pageValid cutPage = true := by decide +kernel

/-- The load over and the store busy; the first and the last page due, and one due during the erase of page 40; pages not
valid, empty, with one record, filled, and cut; and records of each kind. -/
theorem witness_ImageReplayTakesTheNextPage :
    let erasing : State :=
      { replaying 3 (sealed []) with
        load := .image 3 true, store := { StoreState.reset with mode := .erasing, operationPage := some 40 } }
    let words := wordsOf (bytesOf (calibrationWords 2))
    let e := breakpoints [⟨800, 0⟩, ⟨4000, 3000⟩]
    let length : Byte → Nat :=
      fun id => ((TableId.all.find? fun t => decide (t.code = id.toNat)).map TableId.length).getD 1
    ((∀ p after, node.load ≠ .image p after) ∧ (storeIn .programming none (some 3)).store.mode = .programming ∧
        (replaying 0 calibrationPage).load = .image 0 false ∧ (replaying 15 (sealed [])).load = .image 15 false ∧
        (replaying 0 calibrationPage).store.service = .idle ∧ (replaying 0 calibrationPage).store.mode = .ready ∧
        erasing.load = .image 3 true ∧ erasing.store.service = .idle ∧ erasing.store.mode = .erasing ∧
        erasing.store.operationPage = some 40) ∧
      (pageValid [] = false ∧ pageValid (sealed []) = true ∧ pageValid calibrationPage = true ∧
        pageValid fullPage = true ∧ pageValid cutPage = true ∧ fullPage.length = 512 ∧
        (sealed []).take 508 = ([] : List (Byte × Byte × Byte × List Word)).flatMap (fun r => [r.1]) ++
          List.replicate 508 0xFF ∧
        calibrationPage.take 508 =
          ([(3, 11, 1, words)].flatMap fun r => [r.1, r.2.1, r.2.2.1] ++ bytesOf r.2.2.2) ++ List.replicate 471 0xFF ∧
        words.length = (1 : Byte).toNat * length 3 ∧
        fullPage.take 508 =
          ([(100, 0, 125, List.replicate 125 0), (100, 0, 126, List.replicate 126 0)].flatMap fun r =>
            [r.1, r.2.1, r.2.2.1] ++ bytesOf r.2.2.2) ++ [] ∧
        (List.replicate 126 (0 : Word)).length = (126 : Byte).toNat * length 100 ∧
        cutPage.take 508 =
          ([(100, 0, 250, List.replicate 250 0)].flatMap fun r => [r.1, r.2.1, r.2.2.1] ++ bytesOf r.2.2.2) ++
            [3, 0, 1, 0, 0] ∧
        ([3, 0, 1, 0, 0] : List Byte).length < 3 + 2 * (1 * length 3)) ∧
      State.reset.load ≠ .running ∧ (∀ t : TableId, t.code ≠ 0) ∧ TableId.calibration.code = 3 ∧
        words.length = 1 * TableId.calibration.length ∧ TableId.calibration.limit < 12 + 1 ∧
        11 + 1 ≤ TableId.calibration.limit ∧
        State.reset.offersFault .calibration 11 1 (wordsOf (bytesOf (calibrationWords 3))) 0 ∧
        ∀ k < 1, ¬State.reset.offersFault .calibration 11 1 words k ∧
          TableId.calibration.parse (clampedValues .calibration words k) = [TableEntry.calibration e][k]? := by
  refine ⟨⟨(by intro _ _ h; cases h), by decide +kernel⟩,
    ⟨by decide +kernel, emptyPage_valid, calibrationPage_valid, fullPage_valid, cutPage_valid, by decide +kernel⟩,
    by decide +kernel, fun t => (unknown_table t).1, rfl, by decide +kernel, by decide, by decide,
    .inl (by decide +kernel), fun k hk => ?_⟩
  obtain rfl : k = 0 := by omega
  exact ⟨not_offersFault (by decide +kernel) (by decide) (by decide), by decide +kernel⟩

theorem witness_UnitsStartFromTheFieldAsItStands :
    State.reset.load ≠ .built ∧ ({ wired with load := .built } : State).load = .built := by decide +kernel

end Sys2Proof.Tests
end

section
/-! Sensor conditioning (chapter 1): the rules of the smoothing step and of the calibration walk, and the obligations
O12 to O14 settled from them. -/

namespace Sys2Proof.Machine

/-! ### The smoothing step (R19, R20) -/

@[simp] theorem smooth_none (k : Nat) (v : Int) : smooth k none v = v * 256 := rfl

theorem smooth_some (k : Nat) (acc v : Int) : smooth k (some acc) v = acc + (v * 256 - acc) / 2 ^ k := by
  simp [smooth]

theorem smooth_zero (acc v : Int) : smooth 0 (some acc) v = v * 256 := by
  simp [smooth_some]

/-- From below, the step goes toward the value entering and never past it. -/
theorem smooth_between_of_le {k : Nat} {acc v : Int} (h : acc ≤ v * 256) :
    acc ≤ smooth k (some acc) v ∧ smooth k (some acc) v ≤ v * 256 := by
  have hdiff : 0 ≤ v * 256 - acc := by omega
  have hnonneg : 0 ≤ (v * 256 - acc) / 2 ^ k := Int.ediv_nonneg hdiff (by positivity)
  have hle : (v * 256 - acc) / 2 ^ k ≤ v * 256 - acc := Int.ediv_le_self _ hdiff
  rw [smooth_some]
  omega

/-- From above, the floor rounds the step away from 0: it is at least one unit, and still never goes past the value
entering. -/
theorem smooth_between_of_lt {k : Nat} {acc v : Int} (h : v * 256 < acc) :
    smooth k (some acc) v ≤ acc - 1 ∧ v * 256 ≤ smooth k (some acc) v := by
  have hpow : (0 : Int) < 2 ^ k := by positivity
  have hneg : (v * 256 - acc) / 2 ^ k < 0 := Int.ediv_neg_of_neg_of_pos (by omega) hpow
  have hge : v * 256 - acc ≤ (v * 256 - acc) / 2 ^ k := by
    rw [Int.le_ediv_iff_mul_le hpow]
    exact mul_le_of_one_le_right (by omega) hpow
  rw [smooth_some]
  omega

/-- At a distance of 2^k or more below the value entering, the step is at least one unit (R21). -/
theorem lt_smooth_of_pow_le {k : Nat} {acc v : Int} (h : 2 ^ k ≤ v * 256 - acc) : acc < smooth k (some acc) v := by
  have hstep : 1 ≤ (v * 256 - acc) / 2 ^ k := by
    rw [Int.le_ediv_iff_mul_le (by positivity)]
    omega
  rw [smooth_some]
  omega

/-- The output is the value itself when the accumulator stands in the half-open unit around value × 256. -/
theorem smoothedOutput_eq_iff (a v : Int) : smoothedOutput a = v ↔ v * 256 - 128 ≤ a ∧ a < v * 256 + 128 := by
  unfold smoothedOutput
  omega

/-- A span of values is kept by the output of any accumulator that stands in it. -/
theorem smoothedOutput_mem_span {low high acc : Int} (h : low * 256 ≤ acc ∧ acc ≤ high * 256) :
    low ≤ smoothedOutput acc ∧ smoothedOutput acc ≤ high := by
  unfold smoothedOutput
  omega

theorem smooth_mem_span {k : Nat} {low high acc v : Int} (hacc : low * 256 ≤ acc ∧ acc ≤ high * 256)
    (hv : low ≤ v ∧ v ≤ high) :
    low * 256 ≤ smooth k (some acc) v ∧ smooth k (some acc) v ≤ high * 256 := by
  rcases le_or_gt acc (v * 256) with h | h
  · have := smooth_between_of_le (k := k) h
    omega
  · have := smooth_between_of_lt (k := k) h
    omega

theorem foldl_smooth_mem_span {k : Nat} {low high : Int} (vs : List Int) (hvs : ∀ u ∈ vs, low ≤ u ∧ u ≤ high)
    (acc : Int) (hacc : low * 256 ≤ acc ∧ acc ≤ high * 256) :
    low * 256 ≤ vs.foldl (fun a u => smooth k (some a) u) acc ∧
      vs.foldl (fun a u => smooth k (some a) u) acc ≤ high * 256 := by
  induction vs generalizing acc with
  | nil => exact hacc
  | cons u vs ih =>
    have hu := hvs u List.mem_cons_self
    exact ih (fun w hw => hvs w (List.mem_cons_of_mem u hw)) _ (smooth_mem_span hacc hu)

/-- Settles O13: the two directions of the step, and the span they keep carried along the run of values. -/
theorem smoothingStepNeverPassesItsValue : Obligations.SmoothingStepNeverPassesItsValue := by
  unfold Obligations.SmoothingStepNeverPassesItsValue
  refine ⟨fun k acc v => ⟨smooth_some k acc v, rfl, ?_, smooth_between_of_le, smooth_between_of_lt⟩,
    fun k low high v vs hspan => ?_⟩
  · rintro rfl
    rw [smooth_zero]
    exact ⟨rfl, (smoothedOutput_eq_iff _ _).2 (by omega)⟩
  · have hv := hspan v List.mem_cons_self
    have hacc := foldl_smooth_mem_span (k := k) vs (fun u hu => hspan u (List.mem_cons_of_mem v hu)) (v * 256) (by omega)
    obtain ⟨hlow, hhigh⟩ := smoothedOutput_mem_span hacc
    rw [smooth_none]
    exact ⟨_, rfl, hacc.1, hacc.2, hlow, hhigh⟩

/-! ### A steady value (R21) -/

/-- The accumulator after a number of sample events at each of which the same value enters. -/
def steadily (k : Nat) (v acc : Int) (n : Nat) : Int := (fun b => smooth k (some b) v)^[n] acc

@[simp] theorem steadily_zero (k : Nat) (v acc : Int) : steadily k v acc 0 = acc := rfl

theorem steadily_succ (k : Nat) (v acc : Int) (n : Nat) :
    steadily k v acc (n + 1) = smooth k (some (steadily k v acc n)) v :=
  Function.iterate_succ_apply' ..

/-- From below: each event gains a unit until the distance is less than 2^k, and it then stays so. -/
theorem steadily_of_le {k : Nat} {v acc : Int} (h : acc ≤ v * 256) (n : Nat) :
    steadily k v acc n ≤ v * 256 ∧ (v * 256 - 2 ^ k < steadily k v acc n ∨ acc + n ≤ steadily k v acc n) := by
  induction n with
  | zero => simp [h]
  | succ n ih =>
    obtain ⟨hle, hnear⟩ := ih
    obtain ⟨hge, hle'⟩ := smooth_between_of_le (k := k) hle
    rw [steadily_succ]
    refine ⟨hle', ?_⟩
    rcases lt_or_ge (v * 256 - 2 ^ k) (steadily k v acc n) with hclose | hfar
    · exact .inl (by omega)
    · have hgain := lt_smooth_of_pow_le (k := k) (acc := steadily k v acc n) (v := v) (by omega)
      exact .inr (by omega)

/-- From above: each event loses a unit until the accumulator stands at value × 256, and it then stays there. -/
theorem steadily_of_ge {k : Nat} {v acc : Int} (h : v * 256 ≤ acc) (n : Nat) :
    v * 256 ≤ steadily k v acc n ∧ (steadily k v acc n = v * 256 ∨ steadily k v acc n ≤ acc - n) := by
  induction n with
  | zero => simp [h]
  | succ n ih =>
    obtain ⟨hge, hnear⟩ := ih
    rw [steadily_succ]
    rcases hge.eq_or_lt with hat | habove
    · have := smooth_between_of_le (k := k) hat.ge
      omega
    · have := smooth_between_of_lt (k := k) habove
      omega

/-- As many events as the accumulator stood units away bring it below value × 256 by less than 2^k, or onto it from
above. -/
theorem steadily_settles {k n : Nat} {v acc : Int} (hn : (v * 256 - acc).natAbs ≤ n) :
    v * 256 - 2 ^ k < steadily k v acc n ∧ steadily k v acc n ≤ v * 256 ∧
      (v * 256 ≤ acc → steadily k v acc n = v * 256) := by
  have hpow : (0 : Int) < 2 ^ k := by positivity
  have habove : v * 256 ≤ acc → steadily k v acc n = v * 256 := fun h => by
    have := steadily_of_ge (k := k) h n
    omega
  rcases le_total acc (v * 256) with hle | hge
  · obtain ⟨hupper, hnear⟩ := steadily_of_le (k := k) hle n
    exact ⟨by omega, hupper, habove⟩
  · have := habove hge
    exact ⟨by omega, by omega, habove⟩

/-- Settles O14: the distance in units of the accumulator bounds the number of events, and 2^k is at most 128, the half
of an output step. -/
theorem steadyValueIsReachedExactly : Obligations.SteadyValueIsReachedExactly := by
  unfold Obligations.SteadyValueIsReachedExactly
  intro k acc v hk
  have hpow : (2 : Int) ^ k ≤ 2 ^ 7 := pow_le_pow_right₀ (by decide) hk
  refine ⟨(v * 256 - acc).natAbs, fun n hn => ?_⟩
  obtain ⟨hlower, hupper, habove⟩ := steadily_settles (k := k) hn
  exact ⟨steadily k v acc n, rfl, (smoothedOutput_eq_iff _ _).2 (by omega), hlower, hupper, habove⟩

/-! ### Interpolation in a segment (R18) -/

/-- The position of a raw value in a segment, in 4096ths (R18, step 1). -/
def segmentPhase (p q : Breakpoint) (x : Nat) : Int := ((x : Int) - p.raw) * 4096 / ((q.raw : Int) - p.raw)

theorem interpolate_eq (p q : Breakpoint) (x : Nat) :
    interpolate p q x = p.value + ((q.value - p.value) * segmentPhase p q x + 2048) / 4096 := rfl

theorem segmentPhase_range {p q : Breakpoint} {x : Nat} (hp : p.raw ≤ x) (hq : x < q.raw) :
    0 ≤ segmentPhase p q x ∧ segmentPhase p q x ≤ 4095 := by
  have hlength : 0 < (q.raw : Int) - p.raw := by omega
  have hlt : segmentPhase p q x < 4096 := Int.ediv_lt_of_lt_mul hlength (by omega)
  exact ⟨Int.ediv_nonneg (by omega) hlength.le, by omega⟩

@[simp] theorem segmentPhase_raw (p q : Breakpoint) : segmentPhase p q p.raw = 0 := by
  simp [segmentPhase]

@[simp] theorem interpolate_raw (p q : Breakpoint) : interpolate p q p.raw = p.value := by
  simp [interpolate_eq]

/-- Rounded to the nearest step, less than the whole of a rise is a part of it. -/
theorem roundedPart_of_nonneg {d phase : Int} (h0 : 0 ≤ phase) (h1 : phase ≤ 4095) (hd : 0 ≤ d) :
    0 ≤ (d * phase + 2048) / 4096 ∧ (d * phase + 2048) / 4096 ≤ d := by
  have hlow : 0 ≤ d * phase := mul_nonneg hd h0
  have hhigh : d * phase ≤ d * 4095 := mul_le_mul_of_nonneg_left h1 hd
  omega

/-- Rounded to the nearest step, less than the whole of a fall is a part of it. -/
theorem roundedPart_of_nonpos {d phase : Int} (h0 : 0 ≤ phase) (h1 : phase ≤ 4095) (hd : d ≤ 0) :
    d ≤ (d * phase + 2048) / 4096 ∧ (d * phase + 2048) / 4096 ≤ 0 := by
  have hlow : d * 4095 ≤ d * phase := mul_le_mul_of_nonpos_left h1 hd
  have hhigh : d * phase ≤ 0 := mul_nonpos_of_nonpos_of_nonneg hd h0
  omega

/-- The product of the second step is exact in 29 bits. -/
theorem natAbs_mul_phase_le {d phase : Int} (hd : d.natAbs ≤ 65535) (h0 : 0 ≤ phase) (h1 : phase ≤ 4095) :
    (d * phase).natAbs ≤ 268365825 := by
  rw [Int.natAbs_mul]
  exact Nat.mul_le_mul hd (show phase.natAbs ≤ 4095 by omega)

theorem interpolate_between {p q : Breakpoint} {x : Nat} (hp : p.raw ≤ x) (hq : x < q.raw) :
    min p.value q.value ≤ interpolate p q x ∧ interpolate p q x ≤ max p.value q.value := by
  obtain ⟨h0, h1⟩ := segmentPhase_range hp hq
  rw [interpolate_eq]
  rcases le_total p.value q.value with h | h
  · have := roundedPart_of_nonneg h0 h1 (sub_nonneg.2 h)
    omega
  · have := roundedPart_of_nonpos h0 h1 (sub_nonpos.2 h)
    omega

/-! ### The walk along the breakpoints (R17) -/

/-- The raws of a chain of breakpoints are strictly increasing (R4). -/
def RawsIncrease (l : List Breakpoint) : Prop := l.Pairwise fun p q => p.raw < q.raw

theorem RawsIncrease.raw_lt {l : List Breakpoint} (hl : RawsIncrease l) {i j : Nat} (hij : i < j) (hj : j < l.length) :
    l[i].raw < l[j].raw :=
  List.pairwise_iff_getElem.1 hl i j (hij.trans hj) hj hij

theorem RawsIncrease.raw_le {l : List Breakpoint} (hl : RawsIncrease l) {i j : Nat} (hij : i ≤ j) (hj : j < l.length) :
    l[i].raw ≤ l[j].raw := by
  rcases hij.eq_or_lt with rfl | hlt
  · exact le_rfl
  · exact (hl.raw_lt hlt hj).le

/-- A raw value stands in at most one segment. -/
theorem RawsIncrease.segment_unique {l : List Breakpoint} (hl : RawsIncrease l) {x i j : Nat} (hi : i + 1 < l.length)
    (hj : j + 1 < l.length) (hix : l[i].raw ≤ x) (hxi : x < l[i + 1].raw) (hjx : l[j].raw ≤ x)
    (hxj : x < l[j + 1].raw) : j = i := by
  rcases lt_trichotomy j i with h | h | h
  · have := hl.raw_le (show j + 1 ≤ i from h) (by omega)
    omega
  · exact h
  · have := hl.raw_le (show i + 1 ≤ j from h) (by omega)
    omega

/-- A raw value from the first breakpoint up to the last stands in a segment. -/
theorem exists_segment {x : Nat} : ∀ (l : List Breakpoint) (hl : 0 < l.length), l[0].raw ≤ x →
    x < l[l.length - 1].raw → ∃ (i : Nat) (h : i + 1 < l.length), l[i].raw ≤ x ∧ x < l[i + 1].raw
  | [p], _, hfirst, hlast => absurd hlast hfirst.not_gt
  | p :: q :: rest, _, hfirst, hlast => by
    rcases lt_or_ge x q.raw with hq | hq
    · exact ⟨0, by simp, hfirst, hq⟩
    · obtain ⟨i, hi, hsegment⟩ := exists_segment (q :: rest) (by simp) hq (by simpa using hlast)
      exact ⟨i + 1, by simpa using hi, by simpa using hsegment⟩

/-- The walk stops in the segment the raw value stands in. -/
theorem alongChain_of_segment {x : Nat} : ∀ (l : List Breakpoint) (_ : RawsIncrease l) (i : Nat) (h : i + 1 < l.length),
    l[i].raw ≤ x → x < l[i + 1].raw → alongChain x l = interpolate l[i] l[i + 1] x
  | p :: q :: rest, _, 0, _, _, hxi => if_pos hxi
  | p :: q :: rest, hl, i + 1, h, hix, hxi => by
    have hq : q.raw ≤ x := (hl.raw_le (i := 1) (j := i + 1) (by omega) (by omega)).trans hix
    have ih := alongChain_of_segment (q :: rest) hl.of_cons i (by simpa using h) hix hxi
    rw [alongChain, if_neg hq.not_gt, ih]
    rfl

/-- At and above the last breakpoint the walk ends with its value. -/
theorem alongChain_of_last_le {x : Nat} : ∀ (l : List Breakpoint) (_ : RawsIncrease l) (h : 0 < l.length),
    l[l.length - 1].raw ≤ x → alongChain x l = l[l.length - 1].value
  | [p], _, _, _ => rfl
  | p :: q :: rest, hl, _, hlast => by
    have hq : q.raw ≤ x := (hl.raw_le (i := 1) (j := rest.length + 1) (by omega) (by simp)).trans hlast
    have ih := alongChain_of_last_le (q :: rest) hl.of_cons (by simp) (by simpa using hlast)
    rw [alongChain, if_neg hq.not_gt, ih]
    simp

/-! ### The calibration of an entry (R4, R17) -/

theorem CalibrationEntry.length_chain {e : CalibrationEntry} (hc : e.count ≤ 8) : e.chain.length = e.count := by
  simp [CalibrationEntry.chain, hc]

theorem CalibrationEntry.length_chain_le (e : CalibrationEntry) : e.chain.length ≤ 8 := by
  simp [CalibrationEntry.chain]

theorem CalibrationEntry.getElem_chain {e : CalibrationEntry} {i : Nat} (h : i < e.chain.length) :
    e.chain[i] = e.points[i]'(h.trans_le e.length_chain_le) := by
  simp [CalibrationEntry.chain]

theorem CalibrationEntry.raw_lt_succ_of_increasing {e : CalibrationEntry} (hinc : e.increasing = true) {i : Nat}
    (h : i + 1 < e.count) (h8 : i + 1 < 8) : e.points[i].raw < e.points[i + 1].raw := by
  have hi := List.all_eq_true.1 hinc ⟨i, by omega⟩ (List.mem_finRange _)
  simpa [h.not_ge] using hi

theorem CalibrationEntry.rawsIncrease_chain {e : CalibrationEntry} (hc : e.count ≤ 8) (hinc : e.increasing = true) :
    RawsIncrease e.chain := by
  have htrans : Trans (fun p q : Breakpoint => p.raw < q.raw) (fun p q : Breakpoint => p.raw < q.raw)
      (fun p q : Breakpoint => p.raw < q.raw) := ⟨Nat.lt_trans⟩
  refine List.isChain_iff_pairwise.1 (List.isChain_iff_getElem.2 fun i hi => ?_)
  have hcount : i + 1 < e.count := by rwa [length_chain hc] at hi
  rw [getElem_chain, getElem_chain]
  exact raw_lt_succ_of_increasing hinc hcount (by omega)

theorem CalibrationEntry.calibrate_eq {e : CalibrationEntry} (h : 0 < e.chain.length) (x : Nat) :
    e.calibrate x = if x ≤ e.chain[0].raw then e.chain[0].value else alongChain x e.chain := by
  obtain ⟨p, rest, hchain⟩ := List.exists_cons_of_length_pos h
  simp [CalibrationEntry.calibrate, hchain]

/-- The three cases of R17, in the entry's own breakpoints. -/
theorem CalibrationEntry.calibrate_cases {e : CalibrationEntry} (h2 : 2 ≤ e.count) (hc : e.count ≤ 8)
    (hinc : e.increasing = true) (x : Nat) :
    (x ≤ e.points[0].raw → e.calibrate x = e.points[0].value) ∧
      (e.points[0].raw < x → e.points[e.count - 1].raw ≤ x → e.calibrate x = e.points[e.count - 1].value) ∧
      ∀ (i : Nat) (h : i + 1 < e.count), e.points[0].raw < x → e.points[i].raw ≤ x → x < e.points[i + 1].raw →
        e.calibrate x = interpolate e.points[i] e.points[i + 1] x := by
  have hl := rawsIncrease_chain hc hinc
  have hlength := length_chain hc
  have hcalibrate := calibrate_eq (e := e) (by omega) x
  have hlast := alongChain_of_last_le (x := x) _ hl (by omega)
  have hsegment := alongChain_of_segment (x := x) _ hl
  simp only [hlength, getElem_chain] at hcalibrate hlast hsegment
  refine ⟨fun hfirst => ?_, fun hfirst hx => ?_, fun i h hfirst hix hxi => ?_⟩
  · rw [hcalibrate, if_pos hfirst]
  · rw [hcalibrate, if_neg hfirst.not_ge, hlast hx]
  · rw [hcalibrate, if_neg hfirst.not_ge, hsegment i h hix hxi]

/-- Settles O12: the walk of R17 by the place of the raw value, and the range of each step of R18. -/
theorem calibrationFollowsItsBreakpoints : Obligations.CalibrationFollowsItsBreakpoints := by
  unfold Obligations.CalibrationFollowsItsBreakpoints
  refine ⟨fun e x h2 hc hinc => ?_, fun p q x hpx hxq hp hp' hq hq' => ?_⟩
  · have hl := CalibrationEntry.rawsIncrease_chain hc hinc
    have hlength := CalibrationEntry.length_chain hc
    have hends := hl.raw_lt (i := 0) (j := e.count - 1) (by omega) (by omega)
    have hexists := exists_segment (x := x) e.chain (by omega)
    have hunique := @RawsIncrease.segment_unique _ hl x
    obtain ⟨hbelow, habove, hinside⟩ := CalibrationEntry.calibrate_cases h2 hc hinc x
    simp only [hlength, CalibrationEntry.getElem_chain] at hends hexists hunique
    refine ⟨hends, hbelow, fun hx => habove (by omega) hx, fun hfirst hlast => ?_⟩
    obtain ⟨i, hi, hix, hxi⟩ := hexists hfirst.le hlast
    have hvalue := hinside i hi hfirst hix hxi
    refine ⟨i, hi, ⟨hix, hxi⟩, hvalue, fun hx => ?_, fun j hj hjx hxj => hunique hi hj hix hxi hjx hxj⟩
    rw [hvalue, hx, interpolate_raw]
  · obtain ⟨h0, h1⟩ := segmentPhase_range hpx hxq
    have hbetween := interpolate_between hpx hxq
    refine ⟨segmentPhase p q x, q.value - p.value, rfl, h0, h1, rfl, by omega, by omega,
      natAbs_mul_phase_le (by omega) h0 h1, interpolate_eq p q x, roundedPart_of_nonneg h0 h1,
      fun hd => roundedPart_of_nonpos h0 h1 hd.le, hbetween.1, hbetween.2, by omega, by omega, by omega⟩

end Sys2Proof.Machine
end

section
/-! Fan drives (chapter 2): what a ramp tick makes of the drives, the rule of the ramp value, and the obligation O19
settled from them. -/

namespace Sys2Proof.Machine

/-! ### The ramp tick (R49) -/

theorem exec_rampTick (s : State) : exec .rampTick s = .next (rampTickEffect s).settle := rfl

@[simp] theorem followed_fans (s : State) : s.followed.fans = s.fans := rfl

theorem rampTickEffect_keys (s : State) : (rampTickEffect s).keys = s.keys := by
  rw [rampTickEffect_eq]
  split <;> rfl

/-- Once the units have started, a tick reaches each drive by the rule of its state; with no key waiting nothing else
moves a drive. -/
theorem rampTick_fan {s t : State} (hkeys : s.keys = []) (hload : s.load = .running) (ht : exec .rampTick s = .next t)
    (f : Fin 6) : t.fans[f] = (s.fan f).tick (s.fanEntry f) := by
  have hstarted : s.started = true := decide_eq_true hload
  rw [exec_rampTick, settle_of_noKeys ((rampTickEffect_keys s).trans hkeys)] at ht
  cases ht
  rw [followed_fans, rampTickEffect_eq, if_pos hstarted]
  simp

theorem Fan.wantsSame_iff (x : Fan) :
    x.wantsSame = true ↔ 0 < x.target.speed ∧ x.target.direction = x.direction := by
  simp [Fan.wantsSame]

theorem Fan.tick_ramp_of_running {x : Fan} (e : FanEntry) (hmode : x.mode = .running) (hsame : x.wantsSame = true) :
    (x.tick e).ramp = rampToward (x.target.speed * 100) x.target.rate x.ramp := by
  simp [Fan.tick, hmode, hsame]

/-! ### The ramp value (R53) -/

/-- From below: the rate is added, but no more than to the target value. -/
theorem rampToward_of_le {target rate ramp : Nat} (h : ramp ≤ target) :
    rampToward target rate ramp = min target (ramp + rate) := by
  unfold rampToward
  split <;> omega

/-- From above: the rate is taken away, but no more than to the target value. -/
theorem rampToward_of_ge {target rate ramp : Nat} (h : target ≤ ramp) :
    rampToward target rate ramp = max target (ramp - rate) :=
  if_neg h.not_gt

theorem rampToward_le_max (target rate ramp : Nat) : rampToward target rate ramp ≤ max target ramp := by
  rcases le_total ramp target with h | h
  · rw [rampToward_of_le h]; omega
  · rw [rampToward_of_ge h]; omega

/-- Settles O19: the tick moves a RUNNING drive by the rule of the ramp value, whose two directions give the bounds. -/
theorem rampMovesTowardTheTargetWithoutPassingIt : Obligations.RampMovesTowardTheTargetWithoutPassingIt := by
  unfold Obligations.RampMovesTowardTheTargetWithoutPassingIt
  intro s t f x goal r hkeys hload hx hmode hdirection hspeed hmaximum hramp hgoal hr ht
  have hfan : t.fans[f] = x.tick (s.fanEntry f) := hx ▸ rampTick_fan hkeys hload ht f
  have hvalue : (t.fans[f]).ramp = rampToward goal r x.ramp := by
    rw [hfan, Fan.tick_ramp_of_running _ hmode (x.wantsSame_iff.2 ⟨hspeed, hdirection⟩), hgoal, hr]
  rw [hvalue]
  refine ⟨fun h => ?_, fun h hreach => ?_, fun h => ?_, fun h hreach => ?_, fun h => ?_, fun h => ?_, fun h => ?_, ?_⟩
  · exact (rampToward_of_le (by omega)).trans (min_eq_right h.le)
  · exact (rampToward_of_le h.le).trans (min_eq_left hreach)
  · exact (rampToward_of_le h.le).trans (by omega)
  · exact (rampToward_of_ge h.le).trans (max_eq_left (by omega))
  · exact (rampToward_of_ge (by omega)).trans (max_eq_right (by omega))
  · rw [rampToward_of_le h]; omega
  · rw [rampToward_of_ge h]; omega
  · exact (rampToward_le_max goal r x.ramp).trans (by omega)

end Sys2Proof.Machine
end

section
/-! Demand resolution (chapter 4): the tie order of a fan's demands, the winner as the best of a list, and the
obligation O20 settled from them. -/

namespace Sys2Proof.Machine

/-! ### Insertion by activation sequence -/

theorem mem_insertBySequence {p x : Fin 4 × ResponseDemand} {l : List (Fin 4 × ResponseDemand)} :
    p ∈ insertBySequence x l ↔ p = x ∨ p ∈ l := by
  induction l with
  | nil => simp [insertBySequence]
  | cons y ys ih =>
    rw [insertBySequence]
    split
    · exact List.mem_cons
    · rw [List.mem_cons, ih, List.mem_cons]
      exact or_left_comm

theorem pairwise_insertBySequence (x : Fin 4 × ResponseDemand) {l : List (Fin 4 × ResponseDemand)}
    (hl : l.Pairwise fun a b => a.2.sequence ≤ b.2.sequence) :
    (insertBySequence x l).Pairwise fun a b => a.2.sequence ≤ b.2.sequence := by
  induction l with
  | nil => exact List.pairwise_singleton _ _
  | cons y ys ih =>
    obtain ⟨hy, hys⟩ := List.pairwise_cons.1 hl
    rw [insertBySequence]
    split
    next hlt =>
      refine List.pairwise_cons.2 ⟨fun p hp => ?_, hl⟩
      rcases List.mem_cons.1 hp with rfl | hp
      · exact hlt.le
      · exact hlt.le.trans (hy p hp)
    next hge =>
      refine List.pairwise_cons.2 ⟨fun p hp => ?_, ih hys⟩
      rcases mem_insertBySequence.1 hp with rfl | hp
      · exact Nat.le_of_not_lt hge
      · exact hy p hp

theorem mem_foldr_insertBySequence {p : Fin 4 × ResponseDemand} {l : List (Fin 4 × ResponseDemand)} :
    p ∈ l.foldr insertBySequence [] ↔ p ∈ l := by
  induction l with
  | nil => rfl
  | cons x xs ih => rw [List.foldr_cons, mem_insertBySequence, ih, List.mem_cons]

theorem pairwise_foldr_insertBySequence (l : List (Fin 4 × ResponseDemand)) :
    (l.foldr insertBySequence []).Pairwise fun a b => a.2.sequence ≤ b.2.sequence := by
  induction l with
  | nil => exact List.Pairwise.nil
  | cons x xs ih => exact pairwise_insertBySequence x ih

/-! ### The demands of a fan in tie order (R67) -/

/-- The tie order sorts the present response slots. -/
theorem Fan.responseOrder_eq (x : Fan) :
    x.responseOrder =
      ((List.finRange 4).filterMap fun k => (x.responseSlots[k]).map (k, ·)).foldr insertBySequence [] := by
  rw [Fan.responseOrder, List.foldr_filterMap]
  congr 1
  funext k acc
  cases x.responseSlots[k] <;> rfl

theorem Fan.mem_responseOrder {x : Fan} {k : Fin 4} {b : ResponseDemand} :
    (k, b) ∈ x.responseOrder ↔ x.responseSlots[k] = some b := by
  rw [Fan.responseOrder_eq, mem_foldr_insertBySequence]
  simp

theorem Fan.pairwise_responseOrder (x : Fan) :
    x.responseOrder.Pairwise fun a b => a.2.sequence ≤ b.2.sequence := by
  rw [Fan.responseOrder_eq]
  exact pairwise_foldr_insertBySequence _

theorem Fan.mem_demands {x : Fan} {w : Source} {d : Demand} :
    (w, d) ∈ x.demands ↔
      (w = .line ∧ x.lineSlot = some d) ∨
        (∃ (k : Fin 4) (b : ResponseDemand), w = .response k ∧ x.responseSlots[k] = some b ∧ d = b.demand) ∨
        (w = .pressurisation ∧ x.pressurisationSlot = some d) := by
  simp only [Fan.demands, List.mem_append, List.mem_map, Option.mem_toList, Prod.exists, Fan.mem_responseOrder]
  constructor
  · rintro ((⟨_, h, ⟨⟩⟩ | ⟨k, b, h, ⟨⟩⟩) | ⟨_, h, ⟨⟩⟩)
    · exact .inl ⟨rfl, h⟩
    · exact .inr (.inl ⟨k, b, rfl, h, rfl⟩)
    · exact .inr (.inr ⟨rfl, h⟩)
  · rintro (⟨rfl, h⟩ | ⟨k, b, rfl, h, rfl⟩ | ⟨rfl, h⟩)
    · exact .inl (.inl ⟨d, h, rfl⟩)
    · exact .inl (.inr ⟨k, b, h, rfl⟩)
    · exact .inr ⟨d, h, rfl⟩

theorem Fan.line_mem_demands {x : Fan} {d : Demand} (h : x.lineSlot = some d) : (.line, d) ∈ x.demands :=
  mem_demands.2 (.inl ⟨rfl, h⟩)

theorem Fan.response_mem_demands {x : Fan} {k : Fin 4} {b : ResponseDemand} (h : x.responseSlots[k] = some b) :
    (.response k, b.demand) ∈ x.demands :=
  mem_demands.2 (.inr (.inl ⟨k, b, rfl, h, rfl⟩))

theorem Fan.pressurisation_mem_demands {x : Fan} {d : Demand} (h : x.pressurisationSlot = some d) :
    (.pressurisation, d) ∈ x.demands :=
  mem_demands.2 (.inr (.inr ⟨rfl, h⟩))

theorem Fan.demands_eq_nil_iff (x : Fan) :
    x.demands = [] ↔ x.lineSlot = none ∧ x.pressurisationSlot = none ∧ ∀ k : Fin 4, x.responseSlots[k] = none := by
  constructor
  · intro h
    have hnot (p : Source × Demand) : p ∉ x.demands := h ▸ List.not_mem_nil
    refine ⟨?_, ?_, fun k => ?_⟩ <;> refine Option.eq_none_iff_forall_ne_some.2 fun d hd => ?_
    · exact hnot _ (line_mem_demands hd)
    · exact hnot _ (pressurisation_mem_demands hd)
    · exact hnot _ (response_mem_demands hd)
  · rintro ⟨hline, hpress, hresponse⟩
    refine List.eq_nil_iff_forall_not_mem.2 fun ⟨w, d⟩ hp => ?_
    simp [mem_demands, hline, hpress, hresponse] at hp

/-- How a fan's slots break a tie (R67): whether one source may win over another at equal precedence. -/
def Fan.winsTie (x : Fan) : Source → Source → Prop
  | .line, .response _ => True
  | .line, .pressurisation => True
  | .response _, .pressurisation => True
  | .response j, .response k =>
    ∃ a b : ResponseDemand, x.responseSlots[j] = some a ∧ x.responseSlots[k] = some b ∧ a.sequence ≤ b.sequence
  | _, _ => False

theorem Fan.pairwise_demands (x : Fan) : x.demands.Pairwise fun p q => x.winsTie p.1 q.1 := by
  have hline : (x.lineSlot.toList.map fun d => (Source.line, d)).Pairwise fun p q => x.winsTie p.1 q.1 := by
    cases x.lineSlot <;> simp
  have hpress : (x.pressurisationSlot.toList.map fun d => (Source.pressurisation, d)).Pairwise
      fun p q => x.winsTie p.1 q.1 := by
    cases x.pressurisationSlot <;> simp
  have hresponse : (x.responseOrder.map fun p => (Source.response p.1, p.2.demand)).Pairwise
      fun p q => x.winsTie p.1 q.1 := by
    refine List.pairwise_map.2 (x.pairwise_responseOrder.imp_of_mem fun ha hb hle => ?_)
    exact ⟨_, _, mem_responseOrder.1 ha, mem_responseOrder.1 hb, hle⟩
  refine List.pairwise_append.2 ⟨List.pairwise_append.2 ⟨hline, hresponse, fun p hp q hq => ?_⟩, hpress,
    fun p hp q hq => ?_⟩
  · obtain ⟨_, -, rfl⟩ := List.mem_map.1 hp
    obtain ⟨_, -, rfl⟩ := List.mem_map.1 hq
    trivial
  · obtain ⟨_, -, rfl⟩ := List.mem_map.1 hq
    rcases List.mem_append.1 hp with hp | hp <;>
      · obtain ⟨_, -, rfl⟩ := List.mem_map.1 hp
        trivial

/-! ### The winner of a list of demands -/

theorem winnerOf_eq_none_iff (l : List (Source × Demand)) : winnerOf l = none ↔ l = [] := by
  cases l with
  | nil => simp [winnerOf]
  | cons d ds =>
    rw [winnerOf]
    split
    · simp
    · split <;> simp

theorem winnerOf_mem {l : List (Source × Demand)} {w : Source × Demand} (h : winnerOf l = some w) : w ∈ l := by
  induction l with
  | nil => cases h
  | cons d ds ih =>
    rw [winnerOf] at h
    split at h
    · cases h
      exact List.mem_cons_self
    next v hv =>
      split at h
      · exact List.mem_cons_of_mem d (ih (hv.trans h))
      · cases h
        exact List.mem_cons_self

/-- In a list that an order R sorts, every demand is of lower precedence than the winner, or is the winner, or is of
equal precedence and stands behind the winner in R. -/
theorem winnerOf_beats {R : Source × Demand → Source × Demand → Prop} {l : List (Source × Demand)} (hl : l.Pairwise R)
    {w : Source × Demand} (h : winnerOf l = some w) {p : Source × Demand} (hp : p ∈ l) :
    p.2.precedence < w.2.precedence ∨ p = w ∨ (p.2.precedence = w.2.precedence ∧ R w p) := by
  induction l generalizing w with
  | nil => cases h
  | cons d ds ih =>
    obtain ⟨hd, hds⟩ := List.pairwise_cons.1 hl
    rw [winnerOf] at h
    split at h
    next hnone =>
      cases h
      rw [(winnerOf_eq_none_iff ds).1 hnone, List.mem_singleton] at hp
      exact .inr (.inl hp)
    next v hv =>
      split at h
      next hlt =>
        cases h
        rcases List.mem_cons.1 hp with rfl | hp
        · exact .inl hlt
        · exact ih hds hv hp
      next hge =>
        cases h
        rcases List.mem_cons.1 hp with rfl | hp
        · exact .inr (.inl rfl)
        · have hle : p.2.precedence ≤ d.2.precedence := by
            rcases ih hds hv hp with hlt | rfl | ⟨heq, -⟩ <;> omega
          exact hle.lt_or_eq.imp_right fun heq => .inr ⟨heq, hd p hp⟩

/-- A present demand against the winner of its fan: lower precedence, the winner itself, or a tie the winner wins. -/
theorem Fan.winner_beats {x : Fan} {w v : Source} {d e : Demand} (h : winnerOf x.demands = some (w, d))
    (hp : (v, e) ∈ x.demands) :
    e.precedence < d.precedence ∨ (v = w ∧ e = d) ∨ (e.precedence = d.precedence ∧ x.winsTie w v) := by
  simpa using winnerOf_beats x.pairwise_demands h hp

/-- Settles O20: each present demand is set against the winner, and a tie is read off the sources' order. -/
theorem winnerHasTheHighestPrecedenceAndTieOrder : Obligations.WinnerHasTheHighestPrecedenceAndTieOrder := by
  unfold Obligations.WinnerHasTheHighestPrecedenceAndTieOrder
  refine fun x => ⟨(winnerOf_eq_none_iff _).trans x.demands_eq_nil_iff, fun w d h => ?_⟩
  have hw := Fan.mem_demands.1 (winnerOf_mem h)
  refine ⟨fun l hl => ?line, fun k b hb => ?response, fun p hpress => ?pressurisation, ?winner⟩
  case line =>
    rcases Fan.winner_beats h (Fan.line_mem_demands hl) with hlt | ⟨rfl, rfl⟩ | ⟨-, htie⟩
    · exact .inl hlt
    · exact .inr ⟨rfl, rfl⟩
    · cases w <;> exact htie.elim
  case response =>
    rcases Fan.winner_beats h (Fan.response_mem_demands hb) with hlt | ⟨rfl, rfl⟩ | ⟨heq, htie⟩
    · exact .inl hlt
    · exact .inr ⟨rfl, .inr ⟨k, b, rfl, hb, rfl, le_rfl⟩⟩
    · refine .inr ⟨heq, ?_⟩
      rcases hw with ⟨rfl, -⟩ | ⟨j, a, rfl, ha, rfl⟩ | ⟨rfl, -⟩
      · exact .inl rfl
      · obtain ⟨a', b', ha', hb', hle⟩ := htie
        cases ha.symm.trans ha'
        cases hb.symm.trans hb'
        exact .inr ⟨j, a, rfl, ha, rfl, hle⟩
      · exact htie.elim
  case pressurisation =>
    rcases Fan.winner_beats h (Fan.pressurisation_mem_demands hpress) with hlt | ⟨rfl, rfl⟩ | ⟨heq, htie⟩
    · exact .inl hlt
    · exact .inr ⟨rfl, .inr (.inr ⟨rfl, rfl⟩)⟩
    · refine .inr ⟨heq, ?_⟩
      rcases hw with ⟨rfl, -⟩ | ⟨j, a, rfl, -, -⟩ | ⟨rfl, -⟩
      · exact .inl rfl
      · exact .inr (.inl ⟨j, rfl⟩)
      · exact htie.elim
  case winner =>
    rcases hw with hline | hresponse | hpress
    · exact .inl hline
    · exact .inr (.inr hresponse)
    · exact .inr (.inl hpress)

end Sys2Proof.Machine
end

section
/-! What latching and queuing leave as it was, field by field, and what rests on the points alone (R194, R111, R181). -/

namespace Sys2Proof.Machine

@[simp] theorem address_latch (s : State) (k : EventKind) : (s.latch k).address = s.address := (congrArg State.address (latch_eq s k) :)
@[simp] theorem load_latch (s : State) (k : EventKind) : (s.latch k).load = s.load := (congrArg State.load (latch_eq s k) :)
@[simp] theorem nodeTable_latch (s : State) (k : EventKind) : (s.latch k).nodeTable = s.nodeTable := (congrArg State.nodeTable (latch_eq s k) :)
@[simp] theorem channelTable_latch (s : State) (k : EventKind) : (s.latch k).channelTable = s.channelTable := (congrArg State.channelTable (latch_eq s k) :)
@[simp] theorem calibrationTable_latch (s : State) (k : EventKind) : (s.latch k).calibrationTable = s.calibrationTable := (congrArg State.calibrationTable (latch_eq s k) :)
@[simp] theorem fanTable_latch (s : State) (k : EventKind) : (s.latch k).fanTable = s.fanTable := (congrArg State.fanTable (latch_eq s k) :)
@[simp] theorem doorTable_latch (s : State) (k : EventKind) : (s.latch k).doorTable = s.doorTable := (congrArg State.doorTable (latch_eq s k) :)
@[simp] theorem watchTable_latch (s : State) (k : EventKind) : (s.latch k).watchTable = s.watchTable := (congrArg State.watchTable (latch_eq s k) :)
@[simp] theorem neighbourTable_latch (s : State) (k : EventKind) : (s.latch k).neighbourTable = s.neighbourTable := (congrArg State.neighbourTable (latch_eq s k) :)
@[simp] theorem triggerTable_latch (s : State) (k : EventKind) : (s.latch k).triggerTable = s.triggerTable := (congrArg State.triggerTable (latch_eq s k) :)
@[simp] theorem pointTable_latch (s : State) (k : EventKind) : (s.latch k).pointTable = s.pointTable := (congrArg State.pointTable (latch_eq s k) :)
@[simp] theorem cycle_latch (s : State) (k : EventKind) : (s.latch k).cycle = s.cycle := (congrArg State.cycle (latch_eq s k) :)
@[simp] theorem channels_latch (s : State) (k : EventKind) : (s.latch k).channels = s.channels := (congrArg State.channels (latch_eq s k) :)
@[simp] theorem fans_latch (s : State) (k : EventKind) : (s.latch k).fans = s.fans := (congrArg State.fans (latch_eq s k) :)
@[simp] theorem doors_latch (s : State) (k : EventKind) : (s.latch k).doors = s.doors := (congrArg State.doors (latch_eq s k) :)
@[simp] theorem engine_latch (s : State) (k : EventKind) : (s.latch k).engine = s.engine := (congrArg State.engine (latch_eq s k) :)
@[simp] theorem store_latch (s : State) (k : EventKind) : (s.latch k).store = s.store := (congrArg State.store (latch_eq s k) :)
@[simp] theorem supplyOk_latch (s : State) (k : EventKind) : (s.latch k).supplyOk = s.supplyOk := (congrArg State.supplyOk (latch_eq s k) :)
@[simp] theorem points_latch (s : State) (k : EventKind) : (s.latch k).points = s.points := (congrArg State.points (latch_eq s k) :)
@[simp] theorem keys_latch (s : State) (k : EventKind) : (s.latch k).keys = s.keys := (congrArg State.keys (latch_eq s k) :)
@[simp] theorem freeCount_latch (s : State) (k : EventKind) : (s.latch k).freeCount = s.freeCount := (congrArg State.freeCount (latch_eq s k) :)
@[simp] theorem pending_latch (s : State) (k : EventKind) : (s.latch k).pending = s.pending := (congrArg State.pending (latch_eq s k) :)

@[simp] theorem address_notify (s : State) (c : Byte) : (s.notify c).address = s.address := (congrArg State.address (notify_eq s c) :)
@[simp] theorem load_notify (s : State) (c : Byte) : (s.notify c).load = s.load := (congrArg State.load (notify_eq s c) :)
@[simp] theorem nodeTable_notify (s : State) (c : Byte) : (s.notify c).nodeTable = s.nodeTable := (congrArg State.nodeTable (notify_eq s c) :)
@[simp] theorem channelTable_notify (s : State) (c : Byte) : (s.notify c).channelTable = s.channelTable := (congrArg State.channelTable (notify_eq s c) :)
@[simp] theorem calibrationTable_notify (s : State) (c : Byte) : (s.notify c).calibrationTable = s.calibrationTable := (congrArg State.calibrationTable (notify_eq s c) :)
@[simp] theorem fanTable_notify (s : State) (c : Byte) : (s.notify c).fanTable = s.fanTable := (congrArg State.fanTable (notify_eq s c) :)
@[simp] theorem doorTable_notify (s : State) (c : Byte) : (s.notify c).doorTable = s.doorTable := (congrArg State.doorTable (notify_eq s c) :)
@[simp] theorem watchTable_notify (s : State) (c : Byte) : (s.notify c).watchTable = s.watchTable := (congrArg State.watchTable (notify_eq s c) :)
@[simp] theorem neighbourTable_notify (s : State) (c : Byte) : (s.notify c).neighbourTable = s.neighbourTable := (congrArg State.neighbourTable (notify_eq s c) :)
@[simp] theorem triggerTable_notify (s : State) (c : Byte) : (s.notify c).triggerTable = s.triggerTable := (congrArg State.triggerTable (notify_eq s c) :)
@[simp] theorem pointTable_notify (s : State) (c : Byte) : (s.notify c).pointTable = s.pointTable := (congrArg State.pointTable (notify_eq s c) :)
@[simp] theorem cycle_notify (s : State) (c : Byte) : (s.notify c).cycle = s.cycle := (congrArg State.cycle (notify_eq s c) :)
@[simp] theorem channels_notify (s : State) (c : Byte) : (s.notify c).channels = s.channels := (congrArg State.channels (notify_eq s c) :)
@[simp] theorem fans_notify (s : State) (c : Byte) : (s.notify c).fans = s.fans := (congrArg State.fans (notify_eq s c) :)
@[simp] theorem doors_notify (s : State) (c : Byte) : (s.notify c).doors = s.doors := (congrArg State.doors (notify_eq s c) :)
@[simp] theorem engine_notify (s : State) (c : Byte) : (s.notify c).engine = s.engine := (congrArg State.engine (notify_eq s c) :)
@[simp] theorem store_notify (s : State) (c : Byte) : (s.notify c).store = s.store := (congrArg State.store (notify_eq s c) :)
@[simp] theorem supplyOk_notify (s : State) (c : Byte) : (s.notify c).supplyOk = s.supplyOk := (congrArg State.supplyOk (notify_eq s c) :)
@[simp] theorem points_notify (s : State) (c : Byte) : (s.notify c).points = s.points := (congrArg State.points (notify_eq s c) :)
@[simp] theorem keys_notify (s : State) (c : Byte) : (s.notify c).keys = s.keys := (congrArg State.keys (notify_eq s c) :)
@[simp] theorem freeCount_notify (s : State) (c : Byte) : (s.notify c).freeCount = s.freeCount := (congrArg State.freeCount (notify_eq s c) :)
@[simp] theorem pending_notify (s : State) (c : Byte) : (s.notify c).pending = s.pending := (congrArg State.pending (notify_eq s c) :)

@[simp] theorem address_queueTo (s : State) (p : Port) (f : Frame) : (s.queueTo p f).address = s.address := (congrArg State.address (queueTo_eq s p f) :)
@[simp] theorem load_queueTo (s : State) (p : Port) (f : Frame) : (s.queueTo p f).load = s.load := (congrArg State.load (queueTo_eq s p f) :)
@[simp] theorem nodeTable_queueTo (s : State) (p : Port) (f : Frame) : (s.queueTo p f).nodeTable = s.nodeTable := (congrArg State.nodeTable (queueTo_eq s p f) :)
@[simp] theorem channelTable_queueTo (s : State) (p : Port) (f : Frame) : (s.queueTo p f).channelTable = s.channelTable := (congrArg State.channelTable (queueTo_eq s p f) :)
@[simp] theorem calibrationTable_queueTo (s : State) (p : Port) (f : Frame) : (s.queueTo p f).calibrationTable = s.calibrationTable := (congrArg State.calibrationTable (queueTo_eq s p f) :)
@[simp] theorem fanTable_queueTo (s : State) (p : Port) (f : Frame) : (s.queueTo p f).fanTable = s.fanTable := (congrArg State.fanTable (queueTo_eq s p f) :)
@[simp] theorem doorTable_queueTo (s : State) (p : Port) (f : Frame) : (s.queueTo p f).doorTable = s.doorTable := (congrArg State.doorTable (queueTo_eq s p f) :)
@[simp] theorem watchTable_queueTo (s : State) (p : Port) (f : Frame) : (s.queueTo p f).watchTable = s.watchTable := (congrArg State.watchTable (queueTo_eq s p f) :)
@[simp] theorem neighbourTable_queueTo (s : State) (p : Port) (f : Frame) : (s.queueTo p f).neighbourTable = s.neighbourTable := (congrArg State.neighbourTable (queueTo_eq s p f) :)
@[simp] theorem triggerTable_queueTo (s : State) (p : Port) (f : Frame) : (s.queueTo p f).triggerTable = s.triggerTable := (congrArg State.triggerTable (queueTo_eq s p f) :)
@[simp] theorem pointTable_queueTo (s : State) (p : Port) (f : Frame) : (s.queueTo p f).pointTable = s.pointTable := (congrArg State.pointTable (queueTo_eq s p f) :)
@[simp] theorem cycle_queueTo (s : State) (p : Port) (f : Frame) : (s.queueTo p f).cycle = s.cycle := (congrArg State.cycle (queueTo_eq s p f) :)
@[simp] theorem channels_queueTo (s : State) (p : Port) (f : Frame) : (s.queueTo p f).channels = s.channels := (congrArg State.channels (queueTo_eq s p f) :)
@[simp] theorem fans_queueTo (s : State) (p : Port) (f : Frame) : (s.queueTo p f).fans = s.fans := (congrArg State.fans (queueTo_eq s p f) :)
@[simp] theorem doors_queueTo (s : State) (p : Port) (f : Frame) : (s.queueTo p f).doors = s.doors := (congrArg State.doors (queueTo_eq s p f) :)
@[simp] theorem engine_queueTo (s : State) (p : Port) (f : Frame) : (s.queueTo p f).engine = s.engine := (congrArg State.engine (queueTo_eq s p f) :)
@[simp] theorem store_queueTo (s : State) (p : Port) (f : Frame) : (s.queueTo p f).store = s.store := (congrArg State.store (queueTo_eq s p f) :)
@[simp] theorem supplyOk_queueTo (s : State) (p : Port) (f : Frame) : (s.queueTo p f).supplyOk = s.supplyOk := (congrArg State.supplyOk (queueTo_eq s p f) :)
@[simp] theorem points_queueTo (s : State) (p : Port) (f : Frame) : (s.queueTo p f).points = s.points := (congrArg State.points (queueTo_eq s p f) :)
@[simp] theorem keys_queueTo (s : State) (p : Port) (f : Frame) : (s.queueTo p f).keys = s.keys := (congrArg State.keys (queueTo_eq s p f) :)
@[simp] theorem freeCount_queueTo (s : State) (p : Port) (f : Frame) : (s.queueTo p f).freeCount = s.freeCount := (congrArg State.freeCount (queueTo_eq s p f) :)
@[simp] theorem pending_queueTo (s : State) (p : Port) (f : Frame) : (s.queueTo p f).pending = s.pending := (congrArg State.pending (queueTo_eq s p f) :)

@[simp] theorem address_queueToAll (s : State) (f : Frame) : (s.queueToAll f).address = s.address := (congrArg State.address (queueToAll_eq s f) :)
@[simp] theorem load_queueToAll (s : State) (f : Frame) : (s.queueToAll f).load = s.load := (congrArg State.load (queueToAll_eq s f) :)
@[simp] theorem nodeTable_queueToAll (s : State) (f : Frame) : (s.queueToAll f).nodeTable = s.nodeTable := (congrArg State.nodeTable (queueToAll_eq s f) :)
@[simp] theorem channelTable_queueToAll (s : State) (f : Frame) : (s.queueToAll f).channelTable = s.channelTable := (congrArg State.channelTable (queueToAll_eq s f) :)
@[simp] theorem calibrationTable_queueToAll (s : State) (f : Frame) : (s.queueToAll f).calibrationTable = s.calibrationTable := (congrArg State.calibrationTable (queueToAll_eq s f) :)
@[simp] theorem fanTable_queueToAll (s : State) (f : Frame) : (s.queueToAll f).fanTable = s.fanTable := (congrArg State.fanTable (queueToAll_eq s f) :)
@[simp] theorem doorTable_queueToAll (s : State) (f : Frame) : (s.queueToAll f).doorTable = s.doorTable := (congrArg State.doorTable (queueToAll_eq s f) :)
@[simp] theorem watchTable_queueToAll (s : State) (f : Frame) : (s.queueToAll f).watchTable = s.watchTable := (congrArg State.watchTable (queueToAll_eq s f) :)
@[simp] theorem neighbourTable_queueToAll (s : State) (f : Frame) : (s.queueToAll f).neighbourTable = s.neighbourTable := (congrArg State.neighbourTable (queueToAll_eq s f) :)
@[simp] theorem triggerTable_queueToAll (s : State) (f : Frame) : (s.queueToAll f).triggerTable = s.triggerTable := (congrArg State.triggerTable (queueToAll_eq s f) :)
@[simp] theorem pointTable_queueToAll (s : State) (f : Frame) : (s.queueToAll f).pointTable = s.pointTable := (congrArg State.pointTable (queueToAll_eq s f) :)
@[simp] theorem cycle_queueToAll (s : State) (f : Frame) : (s.queueToAll f).cycle = s.cycle := (congrArg State.cycle (queueToAll_eq s f) :)
@[simp] theorem channels_queueToAll (s : State) (f : Frame) : (s.queueToAll f).channels = s.channels := (congrArg State.channels (queueToAll_eq s f) :)
@[simp] theorem fans_queueToAll (s : State) (f : Frame) : (s.queueToAll f).fans = s.fans := (congrArg State.fans (queueToAll_eq s f) :)
@[simp] theorem doors_queueToAll (s : State) (f : Frame) : (s.queueToAll f).doors = s.doors := (congrArg State.doors (queueToAll_eq s f) :)
@[simp] theorem engine_queueToAll (s : State) (f : Frame) : (s.queueToAll f).engine = s.engine := (congrArg State.engine (queueToAll_eq s f) :)
@[simp] theorem store_queueToAll (s : State) (f : Frame) : (s.queueToAll f).store = s.store := (congrArg State.store (queueToAll_eq s f) :)
@[simp] theorem supplyOk_queueToAll (s : State) (f : Frame) : (s.queueToAll f).supplyOk = s.supplyOk := (congrArg State.supplyOk (queueToAll_eq s f) :)
@[simp] theorem points_queueToAll (s : State) (f : Frame) : (s.queueToAll f).points = s.points := (congrArg State.points (queueToAll_eq s f) :)
@[simp] theorem keys_queueToAll (s : State) (f : Frame) : (s.queueToAll f).keys = s.keys := (congrArg State.keys (queueToAll_eq s f) :)
@[simp] theorem freeCount_queueToAll (s : State) (f : Frame) : (s.queueToAll f).freeCount = s.freeCount := (congrArg State.freeCount (queueToAll_eq s f) :)
@[simp] theorem pending_queueToAll (s : State) (f : Frame) : (s.queueToAll f).pending = s.pending := (congrArg State.pending (queueToAll_eq s f) :)

/-! ### Signals -/

theorem holder_congr {s t : State} (h : t.pointTable = s.pointTable) (sig : Signal) : t.holder sig = s.holder sig := by
  simp [State.holder, h]

theorem assigned_congr {s t : State} (h : t.pointTable = s.pointTable) (sig : Signal) :
    t.assigned sig = s.assigned sig := by
  simp [State.assigned, holder_congr h]

theorem signalActive_congr {s t : State} (h : t.pointTable = s.pointTable) (hp : t.points = s.points) (sig : Signal) :
    t.signalActive sig = s.signalActive sig := by
  simp [State.signalActive, holder_congr h, State.pointActive, State.pointEntry, State.point, h, hp]

/-- What a pin is driven to rests on the Point Table, the latch, the outputs of the fans and those of the doors. -/
theorem driveLevel_congr {s t : State} (n : Fin 64) (h : t.pointTable = s.pointTable)
    (hl : (t.point n).latch = (s.point n).latch) (hu : ∀ sig, t.unitOutput sig = s.unitOutput sig) :
    t.driveLevel n = s.driveLevel n := by
  have hout : t.outputActive n = s.outputActive n := by
    simp [State.outputActive, State.pointEntry, h, hl, funext hu]
  simp [State.driveLevel, hout, State.pointEntry, h]

/-! ### Repetition over the units -/

/-- An event over each unit keeps what its body keeps. -/
theorem forEach_keeps {n : Nat} {P : State → Prop} {body : Fin n → State → State} (h : ∀ i s, P s → P (body i s))
    {s : State} (hs : P s) : P (forEach body s) := by
  unfold forEach
  generalize List.finRange n = l
  induction l generalizing s with
  | nil => exact hs
  | cons i l ih => exact ih (h i s hs)

/-- An event over each unit relates the states before and after it by every preorder that its body stays in. -/
theorem forEach_rel {n : Nat} {R : State → State → Prop} (hrefl : ∀ s, R s s) (htrans : ∀ s t u, R s t → R t u → R s u)
    {body : Fin n → State → State} (h : ∀ i s, R s (body i s)) (s : State) : R s (forEach body s) := by
  unfold forEach
  generalize List.finRange n = l
  induction l generalizing s with
  | nil => exact hrefl s
  | cons i l ih => exact htrans _ _ _ (h i s) (ih _)

theorem foldl_rel {α : Type} {R : State → State → Prop} (hrefl : ∀ s, R s s)
    (htrans : ∀ s t u, R s t → R t u → R s u) {body : State → α → State} (h : ∀ s a, R s (body s a)) (l : List α)
    (s : State) : R s (l.foldl body s) := by
  induction l generalizing s with
  | nil => exact hrefl s
  | cons a l ih => exact htrans _ _ _ (h s a) (ih _)

/-- What the body makes true of its own unit and leaves true of the others is true of every unit after the event. -/
theorem forEach_forall {n : Nat} {P : Fin n → State → Prop} {body : Fin n → State → State}
    (hown : ∀ i s, P i (body i s)) (hother : ∀ i j s, P j s → P j (body i s)) (s : State) (i : Fin n) :
    P i (forEach body s) := by
  have key (l : List (Fin n)) (s : State) (h : i ∈ l ∨ P i s) : P i (l.foldl (fun s j => body j s) s) := by
    induction l generalizing s with
    | nil => exact h.resolve_left List.not_mem_nil
    | cons j l ih =>
      refine ih _ ?_
      rcases h with h | h
      · rcases List.mem_cons.1 h with rfl | h
        · exact .inr (hown _ s)
        · exact .inl h
      · exact .inr (hother j i s h)
  exact key _ s (.inl (List.mem_finRange i))

end Sys2Proof.Machine
end

section
/-! Demands and the Active Table: no operation of the units or the engine leaves a response slot of a fan or a door behind
a slot of the Active Table that it frees, and none makes a ramp value or a speed too high (R66, R68, R70, R147, R151). -/

namespace Sys2Proof.Machine

/-! ### What is kept -/

/-- A fan's ramp value, target speed and demand speeds within their ranges (R41, R66, R68). -/
def Fan.speedsInRange (x : Fan) : Prop :=
  x.ramp ≤ 100000 ∧ x.target.speed ≤ 1000 ∧ ∀ p ∈ x.demands, p.2.speed ≤ 1000

theorem speedsInRange_iff (s : State) :
    s.speedsInRange ↔ ∀ f : Fin 6, (s.fan f).speedsInRange ∧ (s.fanEntry f).minimumSpeed ≤ 500 := by
  refine forall_congr' fun f => ?_
  constructor
  · rintro ⟨hramp, htarget, hminimum, hdemands⟩
    exact ⟨⟨hramp, htarget, hdemands⟩, hminimum⟩
  · rintro ⟨⟨hramp, htarget, hdemands⟩, hminimum⟩
    exact ⟨hramp, htarget, hminimum, hdemands⟩

/-- Demands stay behind active responses only, and speeds within their ranges. -/
structure KeepsDemands (s t : State) : Prop where
  demands : s.demandsActive → t.demandsActive
  speeds : s.speedsInRange → t.speedsInRange

theorem KeepsDemands.refl (s : State) : KeepsDemands s s := ⟨id, id⟩

theorem KeepsDemands.trans {s t u : State} (h : KeepsDemands s t) (h' : KeepsDemands t u) : KeepsDemands s u :=
  ⟨h'.demands ∘ h.demands, h'.speeds ∘ h.speeds⟩

theorem KeepsDemands.ite {s t u : State} (c : Prop) [Decidable c] (h : KeepsDemands s t) (h' : KeepsDemands s u) :
    KeepsDemands s (if c then t else u) := by split <;> assumption

theorem forEach_keepsDemands {n : Nat} {body : Fin n → State → State} (h : ∀ i s, KeepsDemands s (body i s)) (s : State) :
    KeepsDemands s (forEach body s) :=
  forEach_rel .refl (fun _ _ _ => .trans) h s

theorem foldl_keepsDemands {α : Type} {body : State → α → State} (h : ∀ s a, KeepsDemands s (body s a)) (l : List α)
    (s : State) : KeepsDemands s (l.foldl body s) :=
  foldl_rel .refl (fun _ _ _ => .trans) h l s

/-- A change of neither the fans, nor the doors, nor which slots of the Active Table are free. -/
theorem KeepsDemands.of_same {s t : State} (hfans : t.fans = s.fans) (hdoors : t.doors = s.doors)
    (htable : t.fanTable = s.fanTable) (hactive : ∀ k : Fin 4, t.engine.active[k] = none → s.engine.active[k] = none) :
    KeepsDemands s t where
  demands h k hk u := by
    rw [hfans, hdoors]
    exact h k (hactive k hk) u
  speeds h := by
    simpa only [State.speedsInRange, hfans, htable] using h

/-- A fan whose response slots are present only where they were, or where the Active Table holds a response. -/
theorem KeepsDemands.setFan (s : State) (f : Fin 6) (x : Fan)
    (hslots : ∀ k : Fin 4, s.engine.active[k] = none → (s.fan f).responseSlots[k] = none → x.responseSlots[k] = none)
    (hspeeds : (s.fanEntry f).minimumSpeed ≤ 500 → (s.fan f).speedsInRange → x.speedsInRange) :
    KeepsDemands s (s.setFan f x) where
  demands h k hk u := by
    refine ⟨?_, (h k hk u).2⟩
    change ((s.setFan f x).fan u).responseSlots[k] = none
    rw [fan_setFan]
    split
    next e => exact hslots k hk (h k hk f).1
    next => exact (h k hk u).1
  speeds h := by
    rw [speedsInRange_iff] at h ⊢
    intro g
    refine ⟨?_, (h g).2⟩
    rw [fan_setFan]
    split
    next e => exact hspeeds (h f).2 (h f).1
    next => exact (h g).1

theorem KeepsDemands.setDoor (s : State) (d : Fin 6) (x : Door)
    (hholds : ∀ k : Fin 4, s.engine.active[k] = none → (s.door d).responseHolds[k] = false → x.responseHolds[k] = false) :
    KeepsDemands s (s.setDoor d x) where
  demands h k hk u := by
    refine ⟨(h k hk u).1, ?_⟩
    change ((s.setDoor d x).door u).responseHolds[k] = false
    by_cases e : d = u
    · subst e
      rw [door_setDoor_same]
      exact hholds k hk (h k hk d).2
    · rw [door_setDoor_ne s d u x e]
      exact (h k hk u).2
  speeds h := h

/-- A door that keeps its response hold slots. -/
theorem KeepsDemands.door (s : State) (d : Fin 6) (x : Door) (h : x.responseHolds = (s.door d).responseHolds := by rfl) :
    KeepsDemands s (s.setDoor d x) :=
  .setDoor s d x fun k _ hk => by rw [h]; exact hk

theorem KeepsDemands.latch (s : State) (k : EventKind) : KeepsDemands s (s.latch k) :=
  .of_same (by simp) (by simp) (by simp) (by simp)

theorem KeepsDemands.notify (s : State) (c : Byte) : KeepsDemands s (s.notify c) :=
  .of_same (by simp) (by simp) (by simp) (by simp)

theorem KeepsDemands.offer (s : State) (k : Key) : KeepsDemands s (s.offer k) := .of_same rfl rfl rfl fun _ => id

/-- An engine whose Active Table is free only where it was. -/
theorem KeepsDemands.engine (s : State) (e : EngineState)
    (h : ∀ k : Fin 4, e.active[k] = none → s.engine.active[k] = none) : KeepsDemands s (s.setEngine e) :=
  .of_same rfl rfl rfl h

/-- An engine with the Active Table it had. -/
theorem KeepsDemands.sameActive (s : State) (e : EngineState) (h : e.active = s.engine.active := by rfl) :
    KeepsDemands s (s.setEngine e) :=
  .engine s e fun k hk => by rwa [h] at hk

theorem KeepsDemands.store (s : State) (x : StoreState) : KeepsDemands s (s.setStore x) :=
  .of_same rfl rfl rfl fun _ => id

/-! ### Fans and pressurisation -/

theorem Fan.forall_demands (x : Fan) (P : Demand → Prop) :
    (∀ p ∈ x.demands, P p.2) ↔
      (∀ d, x.lineSlot = some d → P d) ∧ (∀ (k : Fin 4) b, x.responseSlots[k] = some b → P b.demand) ∧
        ∀ d, x.pressurisationSlot = some d → P d := by
  simp only [Prod.forall, Fan.mem_demands]
  constructor
  · intro h
    exact ⟨fun d hd => h _ d (.inl ⟨rfl, hd⟩), fun k b hb => h _ _ (.inr (.inl ⟨k, b, rfl, hb, rfl⟩)),
      fun d hd => h _ d (.inr (.inr ⟨rfl, hd⟩))⟩
  · rintro ⟨hline, hresponse, hpress⟩ w d (⟨-, hd⟩ | ⟨k, b, -, hb, rfl⟩ | ⟨-, hd⟩)
    · exact hline d hd
    · exact hresponse k b hb
    · exact hpress d hd

theorem Fan.speedsInRange_iff (x : Fan) :
    x.speedsInRange ↔
      x.ramp ≤ 100000 ∧ x.target.speed ≤ 1000 ∧ (∀ d, x.lineSlot = some d → d.speed ≤ 1000) ∧
        (∀ (k : Fin 4) b, x.responseSlots[k] = some b → b.demand.speed ≤ 1000) ∧
        ∀ d, x.pressurisationSlot = some d → d.speed ≤ 1000 := by
  unfold Fan.speedsInRange
  rw [x.forall_demands fun d => d.speed ≤ 1000]

/-- A drive moves without its demand slots and its target, and its ramp value falls at most to 0. -/
structure Fan.sameDemands (x y : Fan) : Prop where
  line : y.lineSlot = x.lineSlot
  response : y.responseSlots = x.responseSlots
  pressurisation : y.pressurisationSlot = x.pressurisationSlot
  target : y.target = x.target
  ramp : y.ramp ≤ x.ramp

theorem Fan.sameDemands.speedsInRange {x y : Fan} (h : x.sameDemands y) (hx : x.speedsInRange) : y.speedsInRange := by
  rw [Fan.speedsInRange_iff] at hx ⊢
  rw [h.line, h.response, h.pressurisation, h.target]
  exact ⟨h.ramp.trans hx.1, hx.2⟩

theorem Fan.sameDemands_refl (x : Fan) : x.sameDemands x := ⟨rfl, rfl, rfl, rfl, le_rfl⟩

theorem Fan.sameDemands_start (e : FanEntry) (c : Bool) (x : Fan) : x.sameDemands (x.start e c) := by
  unfold Fan.start
  split <;> exact ⟨rfl, rfl, rfl, rfl, Nat.zero_le _⟩

theorem Fan.sameDemands_act (e : FanEntry) (c : Bool) (x : Fan) : x.sameDemands (x.act e c) := by
  have hmode (m : DriveMode) : x.sameDemands { x with mode := m } := ⟨rfl, rfl, rfl, rfl, le_rfl⟩
  have hcoast : x.sameDemands (x.coast e) := ⟨rfl, rfl, rfl, rfl, Nat.zero_le _⟩
  unfold Fan.act
  split
  · split
    · exact sameDemands_start e c x
    · exact sameDemands_refl x
  · split
    · exact sameDemands_refl x
    · exact hcoast
  · split
    · exact sameDemands_refl x
    · exact hmode _
  · split
    · exact hmode _
    · exact sameDemands_refl x
  all_goals exact sameDemands_refl x

theorem DriveMove.sameDemands {x y : Fan} (h : DriveMove x y) : x.sameDemands y := by
  cases h with
  | confirm e a =>
    unfold Fan.confirmChange
    split
    · split <;> exact ⟨rfl, rfl, rfl, rfl, le_rfl⟩
    all_goals exact ⟨rfl, rfl, rfl, rfl, le_rfl⟩
  | _ => exact ⟨rfl, rfl, rfl, rfl, Nat.zero_le _⟩

theorem KeepsDemands.fan (s : State) (f : Fin 6) (x : Fan) (h : (s.fan f).sameDemands x) : KeepsDemands s (s.setFan f x) :=
  .setFan s f x (fun k _ hk => by rw [h.response]; exact hk) fun _ => h.speedsInRange

theorem KeepsDemands.drive (s : State) (f : Fin 6) (x : Fan) (h : DriveMove (s.fan f) x) :
    KeepsDemands s (s.setFan f x) := .fan s f x h.sameDemands

/-- A target's speed is at most 1000, its demand's, raised to the minimum run speed at most (R68). -/
theorem Fan.resolved_speed_le {e : FanEntry} {x : Fan} (he : e.minimumSpeed ≤ 500) (hx : x.speedsInRange) :
    (x.resolved e).speed ≤ 1000 := by
  unfold Fan.resolved
  split
  · exact Nat.zero_le _
  next w d hw =>
    have hd : d.speed ≤ 1000 := hx.2.2 _ (winnerOf_mem hw)
    dsimp only
    split
    · exact Nat.zero_le _
    · omega

theorem resolveFan_keepsDemands (f : Fin 6) (s : State) : KeepsDemands s (s.resolveFan f) := by
  have hact := Fan.sameDemands_act (s.fanEntry f) (s.fanConfirmed f)
    { s.fan f with target := (s.fan f).resolved (s.fanEntry f) }
  refine .setFan s f _ (fun k _ hk => by rw [hact.response]; exact hk) fun he hx => hact.speedsInRange ?_
  rw [Fan.speedsInRange_iff] at hx ⊢
  exact ⟨hx.1, Fan.resolved_speed_le he ((Fan.speedsInRange_iff _).2 hx), hx.2.2⟩

theorem pressurisationDemand_speed_le {s : State} {f : Fin 6} {d : Demand} (h : s.pressurisationDemand f = some d) :
    d.speed ≤ 1000 := by
  simp only [State.pressurisationDemand, Option.ite_none_right_eq_some] at h
  obtain ⟨-, h⟩ := h
  cases h
  exact Nat.min_le_left ..

theorem writePressurisation_keepsDemands (f : Fin 6) (s : State) : KeepsDemands s (s.writePressurisation f) := by
  refine .setFan s f _ (fun k _ hk => hk) fun _ hx => ?_
  rw [Fan.speedsInRange_iff] at hx ⊢
  exact ⟨hx.1, hx.2.1, hx.2.2.1, hx.2.2.2.1, fun d hd => pressurisationDemand_speed_le hd⟩

theorem recomputePressurisation_keepsDemands (f : Fin 6) (s : State) : KeepsDemands s (s.recomputePressurisation f) := by
  unfold State.recomputePressurisation
  exact .ite _ (.refl s) (.trans (writePressurisation_keepsDemands f s) (resolveFan_keepsDemands f _))

theorem recomputeGallery_keepsDemands (s : State) : KeepsDemands s s.recomputeGallery :=
  forEach_keepsDemands (fun f s => .ite _ (recomputePressurisation_keepsDemands f s) (.refl s)) s

theorem recomputeFor_keepsDemands (fan : Option (Fin 6)) (s : State) : KeepsDemands s (s.recomputeFor fan) := by
  cases fan
  · exact .refl s
  · exact recomputePressurisation_keepsDemands _ s

theorem setLineSlot_keepsDemands (f : Fin 6) (d : Option Demand) (hd : ∀ x, d = some x → x.speed ≤ 1000) (s : State) :
    KeepsDemands s (s.setLineSlot f d) := by
  have hwrite : KeepsDemands s (s.setFan f { s.fan f with lineSlot := d }) := by
    refine .setFan s f _ (fun k _ hk => hk) fun _ hx => ?_
    rw [Fan.speedsInRange_iff] at hx ⊢
    exact ⟨hx.1, hx.2.1, hd, hx.2.2.2⟩
  exact .trans hwrite (resolveFan_keepsDemands f _)

theorem fanToFault_keepsDemands (f : Fin 6) (s : State) : KeepsDemands s (s.fanToFault f) :=
  .trans (.trans (.drive s f _ .fault) (.offer _ _)) (.latch _ _)

theorem fanToIsolated_keepsDemands (f : Fin 6) (s : State) : KeepsDemands s (s.fanToIsolated f) :=
  .trans (.trans (.drive s f _ .isolated) (.offer _ _)) (.latch _ _)

theorem fanConfirmChange_keepsDemands (f : Fin 6) (a : Bool) (s : State) : KeepsDemands s (s.fanConfirmChange f a) :=
  .drive s f _ (.confirm _ a)

theorem fanIsolatorChange_keepsDemands (f : Fin 6) (a : Bool) (s : State) :
    KeepsDemands s (s.fanIsolatorChange f a) := by
  unfold State.fanIsolatorChange
  split
  · exact .refl s
  · exact .refl s
  · exact .drive s f _ (.coast _)
  · exact fanToIsolated_keepsDemands f s
  · exact .refl s

theorem fanBecomesPresent_keepsDemands (f : Fin 6) (s : State) : KeepsDemands s (s.fanBecomesPresent f) := by
  unfold State.fanBecomesPresent
  exact .ite _ (fanToIsolated_keepsDemands f s) (.drive s f _ (.coast _))

theorem madeAbsent_keepsDemands (f : Fin 6) (s : State) : KeepsDemands s (s.setFan f (s.fan f).madeAbsent) := by
  refine .setFan s f _ (fun k _ _ => by simp [Fan.madeAbsent]) fun _ hx => ?_
  rw [Fan.speedsInRange_iff] at hx ⊢
  exact ⟨Nat.zero_le _, hx.2.1, by simp [Fan.madeAbsent], by simp [Fan.madeAbsent], hx.2.2.2.2⟩

theorem fanWritten_keepsDemands (f : Fin 6) (old : FanEntry) (s : State) : KeepsDemands s (s.fanWritten f old) := by
  unfold State.fanWritten
  refine .trans (.trans ?_ (writePressurisation_keepsDemands f _)) (resolveFan_keepsDemands f _)
  exact .ite _ (fanBecomesPresent_keepsDemands f s) (.ite _ (madeAbsent_keepsDemands f s) (.refl s))

/-! ### Doors -/

theorem doorOpens_keepsDemands (d : Fin 6) (s : State) : KeepsDemands s (s.doorOpens d) :=
  .trans (.door s d _) (.offer _ _)

theorem doorStartsOpening_keepsDemands (d : Fin 6) (s : State) : KeepsDemands s (s.doorStartsOpening d) := by
  unfold State.doorStartsOpening
  exact .ite _ (doorOpens_keepsDemands d s) (.door s d _)

theorem doorShuts_keepsDemands (d : Fin 6) (s : State) : KeepsDemands s (s.doorShuts d) := by
  unfold State.doorShuts
  have h : KeepsDemands s ((s.setDoor d ((s.door d).toRest .closed)).offer (plainKey .doorShut d.val)) :=
    .trans (.door s d _) (.offer _ _)
  exact .ite _ (.trans h (doorStartsOpening_keepsDemands d _)) h

theorem doorStartsClosing_keepsDemands (d : Fin 6) (s : State) : KeepsDemands s (s.doorStartsClosing d) := by
  unfold State.doorStartsClosing
  exact .ite _ (doorShuts_keepsDemands d s) (.door s d _)

theorem doorJams_keepsDemands (d : Fin 6) (s : State) : KeepsDemands s (s.doorJams d) :=
  .trans (.trans (.door s d _) (.offer _ _)) (.latch _ _)

theorem doorContactFaults_keepsDemands (d : Fin 6) (s : State) : KeepsDemands s (s.doorContactFaults d) :=
  .trans (.trans (.door s d _) (.offer _ _)) (.latch _ _)

theorem doorForced_keepsDemands (d : Fin 6) (s : State) : KeepsDemands s (s.doorForced d) :=
  .trans (.trans (.offer s _) (.latch _ _)) (doorStartsOpening_keepsDemands d _)

theorem deriveDoor_keepsDemands (d : Fin 6) (s : State) : KeepsDemands s (s.deriveDoor d) := by
  unfold State.deriveDoor
  refine .ite _ (doorContactFaults_keepsDemands d s) ?_
  split
  · exact doorContactFaults_keepsDemands d s
  · exact doorShuts_keepsDemands d s
  · exact doorOpens_keepsDemands d s
  · exact doorJams_keepsDemands d s

theorem doorTakesContact_keepsDemands (d : Fin 6) (w : Contact) (a : Bool) (s : State) :
    KeepsDemands s (s.doorTakesContact d w a) := by
  have hc := doorContactFaults_keepsDemands d s
  have hs := doorShuts_keepsDemands d s
  have ho := doorOpens_keepsDemands d s
  unfold State.doorTakesContact
  split
  · exact .refl s
  · exact .refl s
  · exact .ite _ (deriveDoor_keepsDemands d s) (.refl s)
  · exact .ite _ hc (.ite _ (doorForced_keepsDemands d s) (.refl s))
  · exact .ite _ hc (.ite _ ho (.refl s))
  · exact .ite _ hc (.ite _ hs (.refl s))
  · exact .ite _ hc (.ite _ hs (.refl s))
  · exact .ite _ hc (.ite _ hs (.ite _ ho (.refl s)))

theorem handClosedContact_keepsDemands (d : Fin 6) (w : Contact) (s : State) :
    KeepsDemands s (s.handClosedContact d w) := by
  cases w
  · exact recomputeFor_keepsDemands _ s
  · exact .refl s

theorem doorContactChange_keepsDemands (d : Fin 6) (w : Contact) (a : Bool) (s : State) :
    KeepsDemands s (s.doorContactChange d w a) :=
  .trans (doorTakesContact_keepsDemands d w a s) (handClosedContact_keepsDemands d w _)

theorem doorContactLost_keepsDemands (d : Fin 6) (w : Contact) (s : State) : KeepsDemands s (s.doorContactLost d w) := by
  unfold State.doorContactLost
  refine .trans ?_ (handClosedContact_keepsDemands d w _)
  split
  · exact .refl s
  · exact .refl s
  · exact .refl s
  · exact doorContactFaults_keepsDemands d s

theorem openRequest_keepsDemands (d : Fin 6) (s : State) : KeepsDemands s (s.openRequest d) := by
  have h := doorStartsOpening_keepsDemands d s
  unfold State.openRequest
  split
  · exact h
  · exact .refl s
  · exact .door s d _
  · exact h
  · exact h
  · exact .refl s
  · exact .refl s
  · exact .refl s

theorem Door.afterWithdrawal_responseHolds (e : DoorEntry) (x : Door) :
    (x.afterWithdrawal e).responseHolds = x.responseHolds := by
  unfold Door.afterWithdrawal
  split <;> rfl

theorem getElem_set_none {α : Type} (v : Vector (Option α) 4) (k j : Fin 4) (h : v[j] = none) :
    (v.set k none)[j] = none := by
  rw [Fin.getElem_fin, Vector.getElem_set]
  split
  · rfl
  · exact h

theorem getElem_set_false (v : Vector Bool 4) (k j : Fin 4) (h : v[j] = false) : (v.set k false)[j] = false := by
  rw [Fin.getElem_fin, Vector.getElem_set]
  split
  · rfl
  · exact h

theorem withdrawHold_keepsDemands (d : Fin 6) (k : Fin 4) (s : State) : KeepsDemands s (s.withdrawHold d k) := by
  unfold State.withdrawHold
  refine .ite _ (.setDoor s d _ fun j _ hj => ?_) (.refl s)
  rw [Door.afterWithdrawal_responseHolds]
  exact getElem_set_false _ k j hj

theorem writeLineHold_keepsDemands (d : Fin 6) (s : State) : KeepsDemands s (s.writeLineHold d) :=
  .trans (.door s d _) (openRequest_keepsDemands d _)

theorem withdrawLineHold_keepsDemands (d : Fin 6) (s : State) : KeepsDemands s (s.withdrawLineHold d) := by
  unfold State.withdrawLineHold
  exact .ite _ (.door s d _ (Door.afterWithdrawal_responseHolds _ _)) (.refl s)

theorem deriveDoorSilently_keepsDemands (d : Fin 6) (s : State) : KeepsDemands s (s.deriveDoorSilently d) := by
  refine .door s d _ ?_
  unfold State.derivedDoor
  split
  · rfl
  · split <;> rfl

theorem doorWritten_keepsDemands (d : Fin 6) (old : DoorEntry) (s : State) : KeepsDemands s (s.doorWritten d old) := by
  unfold State.doorWritten
  have hunheld (x : Door) : KeepsDemands s (s.setDoor d x.unheld) :=
    .setDoor s d _ fun k _ _ => by simp [Door.unheld]
  have h : KeepsDemands s
      (if old.present = false ∧ (s.doorEntry d).present = true then
        (s.setDoor d (s.door d).unheld).deriveDoorSilently d
      else if old.present = true ∧ (s.doorEntry d).present = false then
        s.setDoor d (((s.door d).toRest .disabled).unheld)
      else s) :=
    .ite _ (.trans (hunheld _) (deriveDoorSilently_keepsDemands d _)) (.ite _ (hunheld _) (.refl s))
  exact .ite _ h (.trans (.trans h (recomputeFor_keepsDemands _ _)) (recomputeFor_keepsDemands _ _))

end Sys2Proof.Machine
end

section
/-! Demands and the Active Table (continued): the engine, its activations and endings, and the units their signals reach. -/

namespace Sys2Proof.Machine

/-! ### Slot service and dispatch -/

theorem serve_keepsDemands (s : State) (r : SlotRequest) : KeepsDemands s (s.serve r) := by
  unfold State.serve
  split <;> exact .of_same rfl rfl rfl fun _ => id

theorem requestSlot_keepsDemands (s : State) (n : Fin 128) : KeepsDemands s (s.requestSlot n) := by
  unfold State.requestSlot
  split
  · exact serve_keepsDemands s _
  · exact .of_same rfl rfl rfl fun _ => id

theorem serveWaiting_keepsDemands (s : State) : KeepsDemands s s.serveWaiting := by
  unfold State.serveWaiting
  split
  · exact serve_keepsDemands s _
  · exact .refl s

theorem endRead_keepsDemands (s : State) : KeepsDemands s s.endRead := by
  refine .trans (.store s s.store.resumed) ?_
  unfold State.endRead State.serviceIdle
  split
  · exact .store _ _
  · exact .trans (.store _ _) (serve_keepsDemands _ _)

theorem examineFetch_keepsDemands (s : State) : KeepsDemands s s.examineFetch := by
  unfold State.examineFetch
  split
  · exact .ite _ (.trans (.sameActive s _) (requestSlot_keepsDemands _ _)) (.refl s)
  · exact .refl s

theorem absorb_active (e : EngineState) (n : Fin 128) : (e.absorb n).active = e.active := by
  unfold EngineState.absorb
  split
  · split <;> rfl
  · rfl

theorem dispatch_keepsDemands (n : Fin 128) (s : State) : KeepsDemands s (s.dispatch n).1 := by
  have hqueue (q : List Queued) : KeepsDemands s (s.setEngine { s.engine with queue := q }) := .sameActive s _
  unfold State.dispatch
  split
  · exact .latch s _
  · simp only
    split
    · exact .sameActive s _ (absorb_active _ _)
    · split
      · exact .trans (hqueue _) (examineFetch_keepsDemands _)
      · split
        · split
          · exact .trans (.trans (hqueue _) (.latch _ _)) (examineFetch_keepsDemands _)
          · exact .latch s _
        · exact .latch s _

/-! ### Endings -/

theorem withdrawFan_keepsDemands (k : Fin 4) (f : Fin 6) (s : State) :
    KeepsDemands s
      ((s.setFan f { s.fan f with responseSlots := (s.fan f).responseSlots.set k none }).resolveFan f) := by
  have hwrite : KeepsDemands s (s.setFan f { s.fan f with responseSlots := (s.fan f).responseSlots.set k none }) := by
    refine .setFan s f _ (fun j _ hj => getElem_set_none _ k j hj) fun _ hx => ?_
    rw [Fan.speedsInRange_iff] at hx ⊢
    refine ⟨hx.1, hx.2.1, hx.2.2.1, fun j b hb => hx.2.2.2.1 j b ?_, hx.2.2.2.2⟩
    dsimp only at hb
    rw [Fin.getElem_fin, Vector.getElem_set] at hb
    split at hb
    · cases hb
    · exact hb
  exact .trans hwrite (resolveFan_keepsDemands f _)

theorem withdrawSlot_keepsDemands (k : Fin 4) (s : State) : KeepsDemands s (s.withdrawSlot k) := by
  unfold State.withdrawSlot
  refine .trans (forEach_keepsDemands (fun f s => ?_) s) (forEach_keepsDemands (fun d s => withdrawHold_keepsDemands d k s) _)
  exact .ite _ (withdrawFan_keepsDemands k f s) (.refl s)

/-- Response slot k of every fan and response hold slot k of every door are absent. -/
def State.slotWithdrawn (k : Fin 4) (s : State) : Prop :=
  ∀ u : Fin 6, (s.fan u).responseSlots[k] = none ∧ (s.door u).responseHolds[k] = false

theorem Fan.resolved_act_responseSlots (e : FanEntry) (c : Bool) (x : Fan) (t : Target) :
    (({ x with target := t } : Fan).act e c).responseSlots = x.responseSlots :=
  (Fan.sameDemands_act e c { x with target := t }).response

theorem resolveFan_responseSlots (f g : Fin 6) (s : State) :
    ((s.resolveFan f).fan g).responseSlots = (s.fan g).responseSlots := by
  unfold State.resolveFan
  rw [fan_setFan]
  split
  next e => rw [Fan.resolved_act_responseSlots, e]
  next => rfl

theorem setFan_responseSlots_ne {f g : Fin 6} (h : f ≠ g) (s : State) (x : Fan) :
    ((s.setFan f x).fan g).responseSlots = (s.fan g).responseSlots := by rw [fan_setFan_ne s f g x h]

theorem forEach_fans {body : Fin 6 → State → State} (h : ∀ i s, (body i s).fans = s.fans) (s : State) :
    (forEach body s).fans = s.fans :=
  forEach_rel (R := fun s t => t.fans = s.fans) (fun _ => rfl) (fun _ _ _ h h' => h'.trans h) h s

/-- One fan's step of a withdrawal (R70). -/
def State.withdrawFan (k : Fin 4) (f : Fin 6) (s : State) : State :=
  if ((s.fan f).responseSlots[k]).isSome then
    (s.setFan f { s.fan f with responseSlots := (s.fan f).responseSlots.set k none }).resolveFan f
  else s

theorem withdrawSlot_eq (k : Fin 4) (s : State) :
    s.withdrawSlot k = forEach (fun d s => s.withdrawHold d k) (forEach (State.withdrawFan k) s) := rfl

theorem withdrawFan_own (k : Fin 4) (f : Fin 6) (s : State) : ((s.withdrawFan k f).fan f).responseSlots[k] = none := by
  unfold State.withdrawFan
  split
  · simp [resolveFan_responseSlots]
  next h => simpa using h

theorem withdrawFan_other (k : Fin 4) (f g : Fin 6) (s : State) (h : (s.fan g).responseSlots[k] = none) :
    ((s.withdrawFan k f).fan g).responseSlots[k] = none := by
  by_cases e : f = g
  · exact e ▸ withdrawFan_own k f s
  · unfold State.withdrawFan
    split
    · simpa only [resolveFan_responseSlots, setFan_responseSlots_ne e] using h
    · exact h

theorem withdrawHold_own (d : Fin 6) (k : Fin 4) (s : State) :
    ((s.withdrawHold d k).door d).responseHolds[k] = false := by
  unfold State.withdrawHold
  dsimp only
  split
  · simp [Door.afterWithdrawal_responseHolds]
  next h => simpa using h

theorem withdrawHold_other (d e : Fin 6) (k : Fin 4) (s : State) (h : (s.door e).responseHolds[k] = false) :
    ((s.withdrawHold d k).door e).responseHolds[k] = false := by
  by_cases he : d = e
  · exact he ▸ withdrawHold_own d k s
  · unfold State.withdrawHold
    dsimp only
    split
    · simpa only [door_setDoor_ne _ _ _ _ he] using h
    · exact h

theorem withdrawHold_fans (d : Fin 6) (k : Fin 4) (s : State) : (s.withdrawHold d k).fans = s.fans := by
  unfold State.withdrawHold
  dsimp only
  split <;> rfl

/-- A withdrawal leaves no demand of its slot (R70, R88). -/
theorem withdrawSlot_withdrawn (k : Fin 4) (s : State) : (s.withdrawSlot k).slotWithdrawn k := by
  rw [withdrawSlot_eq]
  intro u
  refine ⟨?_, forEach_forall (P := fun d s => (s.door d).responseHolds[k] = false)
    (fun d s => withdrawHold_own d k s) (fun d e s => withdrawHold_other d e k s) _ u⟩
  have hfans := forEach_fans (fun d s => withdrawHold_fans d k s) (forEach (State.withdrawFan k) s)
  rw [State.fan, hfans]
  exact forEach_forall (P := fun f s => (s.fan f).responseSlots[k] = none) (withdrawFan_own k) (withdrawFan_other k) s u

/-- Demands stand behind active responses in every slot of the Active Table but k. -/
def State.demandsActiveBut (k : Fin 4) (s : State) : Prop :=
  ∀ j : Fin 4, j ≠ k → s.engine.active[j] = none → s.slotWithdrawn j

theorem demandsActiveBut_of_demandsActive (k : Fin 4) {s : State} (h : s.demandsActive) : s.demandsActiveBut k :=
  fun j _ hj => h j hj

/-- A slot freed: the demands of the others stand as they did. -/
theorem freeSlot_demandsActiveBut (k : Fin 4) {s : State} (h : s.demandsActive) : (s.freeSlot k).demandsActiveBut k := by
  intro j hjk hj
  refine h j ?_
  have hne : k.val ≠ j.val := fun e => hjk (Fin.ext e.symm)
  simpa [State.freeSlot, Vector.getElem_set, hne] using hj

/-- A slot whose demands are withdrawn may be freed. -/
theorem freeSlot_demandsActive (k : Fin 4) {s : State} (hw : s.slotWithdrawn k) (h : s.demandsActive) :
    (s.freeSlot k).demandsActive := by
  intro j hj
  by_cases e : j = k
  · exact e ▸ hw
  · exact freeSlot_demandsActiveBut k h j e hj

theorem freeSlot_speedsInRange (k : Fin 4) {s : State} (h : s.speedsInRange) : (s.freeSlot k).speedsInRange := h

theorem endSlot_keepsDemands (k : Fin 4) (s : State) : KeepsDemands s ((s.withdrawSlot k).freeSlot k) where
  demands h := freeSlot_demandsActive k (withdrawSlot_withdrawn k s) ((withdrawSlot_keepsDemands k s).demands h)
  speeds h := freeSlot_speedsInRange k ((withdrawSlot_keepsDemands k s).speeds h)

theorem checkIdle_keepsDemands (s : State) : KeepsDemands s s.checkIdle := by
  unfold State.checkIdle
  exact .ite _ (.latch s _) (.refl s)

theorem cancel_keepsDemands (n : Fin 128) (s : State) : KeepsDemands s (s.cancel n) := by
  unfold State.cancel
  refine .ite _ (.trans (.sameActive s _) (examineFetch_keepsDemands _)) ?_
  split
  · exact .trans (.trans (endSlot_keepsDemands _ s) (checkIdle_keepsDemands _)) (examineFetch_keepsDemands _)
  · split
    · exact .ite _ (.sameActive s _) (.refl s)
    · exact .refl s

theorem holdTimerExpiry_keepsDemands (k : Fin 4) (s : State) : KeepsDemands s (holdTimerExpiryEffect k s) := by
  unfold holdTimerExpiryEffect
  split
  · refine .ite _ ?_ (.refl s)
    refine .trans (.trans (t := _) ?_ (checkIdle_keepsDemands _)) (examineFetch_keepsDemands _)
    split
    · exact .trans (endSlot_keepsDemands k s) (dispatch_keepsDemands _ _)
    · exact endSlot_keepsDemands k s
  · exact .refl s

/-! ### Trigger keys and node mode -/

theorem triggerRequest_keepsDemands (t : TriggerEntry) (s : State) : KeepsDemands s (s.triggerRequest t) := by
  unfold State.triggerRequest
  split
  · exact dispatch_keepsDemands _ s
  · exact cancel_keepsDemands _ s

theorem takeKey_keepsDemands (s : State) (k : Key) : KeepsDemands s (s.takeKey k) :=
  forEach_keepsDemands (fun _ s => .ite _ (triggerRequest_keepsDemands _ s) (.refl s)) s

theorem takeKeys_keepsDemands (s : State) : KeepsDemands s s.takeKeys :=
  .trans (t := { s with keys := [] }) (.of_same rfl rfl rfl fun _ => id)
    (foldl_keepsDemands takeKey_keepsDemands s.keys _)

theorem changeMode_keepsDemands (m : NodeMode) (s : State) : KeepsDemands s (s.changeMode m) := by
  unfold State.changeMode
  have h1 : KeepsDemands s ((s.setEngine { s.engine with mode := m }).recomputeGallery) :=
    .trans (.sameActive s _) (recomputeGallery_keepsDemands _)
  refine .trans (.trans (.trans (.ite _ (.trans (.trans h1 ?_) (takeKeys_keepsDemands _)) h1) (.latch _ _)) (.offer _ _))
    (takeKeys_keepsDemands _)
  exact forEach_keepsDemands (fun d s => .ite _ (deriveDoor_keepsDemands d s) (.refl s)) _

theorem enterIncident_keepsDemands (s : State) : KeepsDemands s s.enterIncident := by
  unfold State.enterIncident
  exact .ite _ (.refl s) (changeMode_keepsDemands _ s)

theorem maintKeyChange_keepsDemands (a : Bool) (s : State) : KeepsDemands s (s.maintKeyChange a) := by
  unfold State.maintKeyChange
  split
  · exact changeMode_keepsDemands _ s
  · exact changeMode_keepsDemands _ s
  · exact .refl s

/-! ### Activation -/

/-- The fan speeds a record asks for are within their range (R69, R138). -/
def ResponseRecord.speedsInRange (r : ResponseRecord) : Prop :=
  ∀ e f d, r.demandFor e f = some d → d.speed ≤ 1000

theorem clamp_mem {low high : Int} (h : low ≤ high) (v : Int) : low ≤ clamp low high v ∧ clamp low high v ≤ high := by
  unfold clamp
  split
  · omega
  · split <;> omega

theorem actionOf_fanRun_speed_le {kind target : Byte} {a b : Word} {f : Fin 6} {dir : Direction} {speed rate : Nat}
    (h : actionOf kind target a b = some (.fanRun f dir speed rate)) : speed ≤ 1000 := by
  have hclamp := (clamp_mem (low := 0) (high := 1000) (by decide) (signed a)).2
  unfold actionOf at h
  dsimp only at h
  split at h
  case h_1 | h_2 =>
    simp only [Option.map_eq_some_iff, Action.fanRun.injEq] at h
    obtain ⟨-, -, -, -, rfl, -⟩ := h
    omega
  case h_6 => split at h <;> cases h
  all_goals simp at h

theorem slotRecord_speedsInRange {slot : List Byte} {n : Fin 128} {r : ResponseRecord} (h : slotRecord slot n = some r) :
    r.speedsInRange := by
  simp only [slotRecord, Option.ite_none_right_eq_some, Option.some.injEq] at h
  obtain ⟨-, rfl⟩ := h
  intro e f d hd
  have hmem := List.mem_of_getLast? hd
  simp only [List.mem_filterMap] at hmem
  obtain ⟨act, ⟨i, -, hact⟩, hdemand⟩ := hmem
  cases act with
  | fanRun g dir speed rate =>
    have := actionOf_fanRun_speed_le hact
    simp only [Action.fanDemand, Option.ite_none_right_eq_some, Option.some.injEq] at hdemand
    obtain ⟨-, rfl⟩ := hdemand
    exact this
  | fanHoldStop g =>
    simp only [Action.fanDemand, Option.ite_none_right_eq_some, Option.some.injEq] at hdemand
    obtain ⟨-, rfl⟩ := hdemand
    exact Nat.zero_le _
  | _ => simp [Action.fanDemand] at hdemand

/-- The relation a part of an activation into slot k keeps: the Active Table stays, and demands are kept where slot k
holds a response. -/
structure KeepsDemandsIn (k : Fin 4) (s t : State) : Prop where
  active : t.engine.active = s.engine.active
  keeps : s.engine.active[k] ≠ none → KeepsDemands s t

theorem KeepsDemandsIn.refl (k : Fin 4) (s : State) : KeepsDemandsIn k s s := ⟨rfl, fun _ => .refl s⟩

theorem KeepsDemandsIn.trans {k : Fin 4} {s t u : State} (h : KeepsDemandsIn k s t) (h' : KeepsDemandsIn k t u) :
    KeepsDemandsIn k s u :=
  ⟨h'.active.trans h.active, fun hk => (h.keeps hk).trans (h'.keeps (by rwa [h.active]))⟩

theorem KeepsDemandsIn.of {k : Fin 4} {s t : State} (ha : t.engine.active = s.engine.active) (h : KeepsDemands s t) :
    KeepsDemandsIn k s t := ⟨ha, fun _ => h⟩

theorem captureFans_keepsDemandsIn (k : Fin 4) {r : ResponseRecord} (hr : r.speedsInRange) (n : Nat) (s : State) :
    KeepsDemandsIn k s (s.captureFans k r n) := by
  unfold State.captureFans
  refine forEach_rel (.refl k) (fun _ _ _ => .trans) (fun f s => ?_) s
  dsimp only
  split
  next d hd =>
    refine .trans (t := s.setFan f { s.fan f with responseSlots := (s.fan f).responseSlots.set k (some ⟨d, n⟩) }) ⟨rfl, fun hk => ?_⟩
      (.of rfl (resolveFan_keepsDemands f _))
    refine .setFan s f _ (fun j hj hnone => ?_) fun _ hx => ?_
    · have hne : k.val ≠ j.val := fun e => hk (Fin.ext e ▸ hj)
      simpa [Vector.getElem_set, hne] using hnone
    · have hspeed : d.speed ≤ 1000 := by
        split at hd
        · exact hr _ _ _ hd
        · cases hd
      rw [Fan.speedsInRange_iff] at hx ⊢
      refine ⟨hx.1, hx.2.1, hx.2.2.1, fun j b hb => ?_, hx.2.2.2.2⟩
      dsimp only at hb
      rw [Fin.getElem_fin, Vector.getElem_set] at hb
      split at hb
      · cases hb
        exact hspeed
      · exact hx.2.2.2.1 j b hb
  next =>
    split
    · exact .of rfl (withdrawFan_keepsDemands k f s)
    · exact .refl k s

theorem doorStartsOpening_engine (d : Fin 6) (s : State) : (s.doorStartsOpening d).engine = s.engine := by
  unfold State.doorStartsOpening State.doorOpens
  split <;> rfl

theorem openRequest_engine (d : Fin 6) (s : State) : (s.openRequest d).engine = s.engine := by
  unfold State.openRequest
  cases (s.door d).mode with
  | closed | closing | jammed => exact doorStartsOpening_engine d s
  | opening | opened | contactFault | outOfService | disabled => rfl

theorem withdrawHold_engine (d : Fin 6) (k : Fin 4) (s : State) : (s.withdrawHold d k).engine = s.engine := by
  unfold State.withdrawHold
  dsimp only
  split <;> rfl

theorem captureDoors_keepsDemandsIn (k : Fin 4) (r : ResponseRecord) (s : State) :
    KeepsDemandsIn k s (s.captureDoors k r) := by
  unfold State.captureDoors
  refine forEach_rel (.refl k) (fun _ _ _ => .trans) (fun d s => ?_) s
  have hwithdraw : KeepsDemandsIn k s (s.withdrawHold d k) :=
    .of (by rw [withdrawHold_engine]) (withdrawHold_keepsDemands d k s)
  have hopen (s : State) : KeepsDemandsIn k s (s.openRequest d) :=
    .of (by rw [openRequest_engine]) (openRequest_keepsDemands d s)
  dsimp only
  split
  · refine .trans (t := s.setDoor d { s.door d with responseHolds := (s.door d).responseHolds.set k true }) ⟨rfl, fun hk => ?_⟩
      (hopen _)
    refine .setDoor s d _ fun j hj hfalse => ?_
    have hne : k.val ≠ j.val := fun e => hk (Fin.ext e ▸ hj)
    simpa [Vector.getElem_set, hne] using hfalse
  · split
    · exact .trans hwithdraw (hopen _)
    · exact hwithdraw

theorem renumber_slotWithdrawn {k : Fin 4} {s : State} (h : s.slotWithdrawn k) : s.renumber.slotWithdrawn k := by
  intro u
  refine ⟨?_, (h u).2⟩
  have hnone : (s.fan u).responseSlots[k.val] = none := (h u).1
  simp [State.renumber, State.fan] at hnone ⊢
  simp [hnone]

theorem readySequence_demandsActiveBut {k : Fin 4} {s : State} (h : s.demandsActiveBut k) :
    s.readySequence.demandsActiveBut k := by
  unfold State.readySequence
  split
  · exact h
  · intro j hjk hj
    refine renumber_slotWithdrawn (h j hjk ?_)
    simpa [State.renumber] using hj

theorem occupySlot_demandsActive {k : Fin 4} {n : Fin 128} {r : ResponseRecord} {s : State} (h : s.demandsActiveBut k) :
    (s.occupySlot k n r).demandsActive := by
  intro j hj
  have hjk : j ≠ k := by
    rintro rfl
    simp [State.occupySlot] at hj
  refine h j hjk ?_
  have hne : k.val ≠ j.val := fun e => hjk (Fin.ext e.symm)
  simpa [State.occupySlot, Vector.getElem_set, hne] using hj

theorem renumber_speedsInRange {s : State} (h : s.speedsInRange) : s.renumber.speedsInRange := by
  rw [speedsInRange_iff] at h ⊢
  intro f
  obtain ⟨hx, he⟩ := h f
  refine ⟨?_, he⟩
  rw [Fan.speedsInRange_iff] at hx ⊢
  obtain ⟨hramp, htarget, hline, hresponse, hpress⟩ := hx
  simp only [State.renumber, State.fan, Fin.getElem_fin, getElem_tabulate]
  refine ⟨hramp, htarget, hline, fun k b hb => ?_, hpress⟩
  split at hb
  next d r hd _ =>
    cases hb
    exact hresponse k d hd
  next => exact hresponse k b hb

theorem activateIn_keepsDemands {k : Fin 4} (n : Fin 128) {r : ResponseRecord} (hr : r.speedsInRange) {s t : State}
    (hs : s.speedsInRange → t.speedsInRange) (hd : s.demandsActive → t.demandsActiveBut k) :
    KeepsDemands s (t.activateIn k n r) := by
  unfold State.activateIn
  have h1 : KeepsDemands s (t.readySequence.occupySlot k n r) := by
    refine ⟨fun h => occupySlot_demandsActive (readySequence_demandsActiveBut (hd h)), fun h => ?_⟩
    have hready : t.readySequence.speedsInRange := by
      unfold State.readySequence
      split
      · exact hs h
      · exact renumber_speedsInRange (hs h)
    exact hready
  have hactive : (t.readySequence.occupySlot k n r).engine.active[k] ≠ none := by simp [State.occupySlot]
  generalize t.readySequence.occupySlot k n r = u at h1 hactive ⊢
  have h2 : KeepsDemandsIn k u ((u.captureFans k r u.engine.sequence).captureDoors k r) :=
    .trans (captureFans_keepsDemandsIn k hr _ u) (captureDoors_keepsDemandsIn k r _)
  have h3 := ((h1.trans (h2.keeps hactive)).trans (takeKeys_keepsDemands _)).trans
    (foldl_keepsDemands (fun s c => KeepsDemands.notify s c) r.notices _)
  exact .ite _ (.trans h3 (enterIncident_keepsDemands _)) h3

theorem activate_keepsDemands (n : Fin 128) {r : ResponseRecord} (hr : r.speedsInRange) (s : State) :
    KeepsDemands s (s.activate n r) := by
  unfold State.activate
  split
  · exact activateIn_keepsDemands n hr id (demandsActiveBut_of_demandsActive _)
  · split
    · refine activateIn_keepsDemands n hr (fun h => (KeepsDemands.latch _ _).speeds h) fun h => ?_
      intro j hjk hj
      have := freeSlot_demandsActiveBut _ h j hjk (by simpa using hj)
      simpa [State.slotWithdrawn, State.fan, State.door] using this
    · exact .refl s

theorem completeFetch_keepsDemands (f : Fetch) (page : List Byte) (s : State) : KeepsDemands s (s.completeFetch f page) := by
  have hidle : KeepsDemands s (s.setEngine { s.engine with fetch := none }) := .sameActive s _
  unfold State.completeFetch
  refine .trans ?_ (examineFetch_keepsDemands _)
  dsimp only
  split
  next r _ hr =>
    have hspeeds : r.speedsInRange := by
      split at hr
      · exact slotRecord_speedsInRange hr
      · cases hr
    exact .ite _ hidle (.ite _ (.trans hidle (activate_keepsDemands _ hspeeds _)) (.trans hidle (.latch _ _)))
  · exact .trans hidle (.latch _ _)

theorem fetchCompletion_keepsDemands (s : State) : KeepsDemands s (fetchCompletionEffect s) := by
  unfold fetchCompletionEffect
  split
  · dsimp only
    split
    · exact .trans (endRead_keepsDemands s) (completeFetch_keepsDemands _ _ _)
    · exact endRead_keepsDemands s
  · exact .refl s

theorem confirmTold_keepsDemands (p : Fin 48) (s : State) : KeepsDemands s (s.confirmTold p) := by
  unfold State.confirmTold
  refine .ite _ ?_ (.refl s)
  refine .trans (.sameActive s (s.engine.clearIndex p)) ?_
  generalize s.setEngine (s.engine.clearIndex p) = u
  refine .trans (.trans (t := u.unqueuePage p) ?_ ?_) (examineFetch_keepsDemands _)
  · exact .trans (.sameActive _ _) (foldl_keepsDemands (fun s _ => KeepsDemands.latch s _) _ _)
  · unfold State.disturbPage
    split
    · exact .ite _ (.sameActive _ _) (.refl _)
    · exact .refl _

/-! ### Units reached by their signals -/

theorem unitTakes_keepsDemands (sig : Signal) (a : Bool) (s : State) : KeepsDemands s (s.unitTakes sig a) := by
  cases sig <;> simp only [State.unitTakes]
  case fanConfirm f => exact fanConfirmChange_keepsDemands f a s
  case fanIsolator f => exact fanIsolatorChange_keepsDemands f a s
  case doorClosed d => exact doorContactChange_keepsDemands d _ a s
  case doorOpen d => exact doorContactChange_keepsDemands d _ a s
  case doorButton d => exact .ite _ (openRequest_keepsDemands d s) (.refl s)
  case maintKey => exact maintKeyChange_keepsDemands a s
  all_goals exact .refl s

theorem reach_keepsDemands (sig : Signal) (a : Bool) (s : State) : KeepsDemands s (s.reach sig a) := by
  unfold State.reach
  exact .ite _ (.trans (unitTakes_keepsDemands sig a s) (takeKeys_keepsDemands _)) (.refl s)

theorem unitGains_keepsDemands (sig : Signal) (a : Bool) (s : State) : KeepsDemands s (s.unitGains sig a) := by
  cases sig <;> simp only [State.unitGains]
  case doorButton d => exact .refl s
  case doorClosed d =>
    exact .ite _ (doorContactChange_keepsDemands d _ _ s)
      (.ite _ (doorContactChange_keepsDemands d _ _ s) (handClosedContact_keepsDemands d _ s))
  case doorOpen d =>
    exact .ite _ (doorContactChange_keepsDemands d _ _ s) (.ite _ (doorContactChange_keepsDemands d _ _ s) (.refl s))
  all_goals exact .ite _ (unitTakes_keepsDemands _ _ s) (.refl s)

theorem unitLoses_keepsDemands (sig : Signal) (a : Bool) (s : State) : KeepsDemands s (s.unitLoses sig a) := by
  cases sig <;> simp only [State.unitLoses]
  case doorClosed d => exact doorContactLost_keepsDemands d _ s
  case doorOpen d => exact doorContactLost_keepsDemands d _ s
  case fanConfirm f => exact .refl s
  case doorButton d => exact .refl s
  all_goals exact .ite _ (unitTakes_keepsDemands _ _ s) (.refl s)

theorem unitMoves_keepsDemands (sig : Signal) (a : Bool) (s : State) : KeepsDemands s (s.unitMoves sig a) := by
  unfold State.unitMoves
  split
  · exact .refl s
  · exact unitTakes_keepsDemands sig a s

theorem handLoss_keepsDemands (before : State) (n : Fin 64) (s : State) : KeepsDemands s (State.handLoss before n s) := by
  unfold State.handLoss
  split
  · exact .ite _ (.refl s) (.trans (unitLoses_keepsDemands _ _ s) (takeKeys_keepsDemands _))
  · exact .refl s

theorem handNow_keepsDemands (before : State) (n : Fin 64) (s : State) : KeepsDemands s (State.handNow before n s) := by
  unfold State.handNow
  split
  · exact .ite _ (.trans (unitGains_keepsDemands _ _ s) (takeKeys_keepsDemands _))
      (.ite _ (.refl s)
        (.ite _ (.trans (unitTakes_keepsDemands _ _ s) (takeKeys_keepsDemands _))
          (.trans (unitMoves_keepsDemands _ _ s) (takeKeys_keepsDemands _))))
  · exact .refl s

end Sys2Proof.Machine
end

section
/-! What every command keeps: the invariants of the part, the pages outside an operation, and, apart from the commands
that are meant to change them, the direction outputs, INCIDENT and the operation page. -/

namespace Sys2Proof.Machine

/-- What a command is not meant to do: to turn a direction output of a drive that is not STOPPED, to leave INCIDENT, or to
begin an operation of the store. -/
structure Limits where
  direction : Prop
  incident : Prop
  operation : Prop

/-- A change of the machine that keeps every invariant, changes no page but the operation page, and stays within the
limits. -/
structure Keeps (L : Limits) (s t : State) : Prop where
  memories : s.memoriesCanonical → t.memoriesCanonical := by exact id
  coherent : s.store.coherent → t.store.coherent := by exact id
  queues : s.queuesBounded → t.queuesBounded := by exact id
  ramps : s.rampsAtRest → t.rampsAtRest := by exact id
  orderly : s.engine.orderly → t.engine.orderly := by exact id
  demands : KeepsDemands s t := by exact ⟨id, id⟩
  tables : s.tablesInRange → t.tablesInRange := by exact id
  direction : L.direction → ∀ f : Fin 6, (s.fan f).keepsDirection (t.fan f) := by
    exact fun _ f => Fan.keepsDirection_refl _
  incident : L.incident → s.engine.mode = .incident → t.engine.mode = .incident := by exact fun _ => id
  pages : L.operation → ∀ p, t.store.page p ≠ s.store.page p → s.store.operationPage = some p := by
    exact fun _ _ h => (h rfl).elim
  operation : L.operation → ∀ p, t.store.operationPage = some p → s.store.operationPage = some p := by
    exact fun _ _ => id

variable {L : Limits}

theorem Keeps.refl (s : State) : Keeps L s s := {}

theorem Fan.keepsDirection_trans {x y z : Fan} (h : x.keepsDirection y) (h' : y.keepsDirection z) : x.keepsDirection z :=
  fun hx => ⟨(h' (h hx).1).1, (h' (h hx).1).2.trans (h hx).2⟩

theorem Keeps.trans {s t u : State} (h : Keeps L s t) (h' : Keeps L t u) : Keeps L s u where
  memories := h'.memories ∘ h.memories
  coherent := h'.coherent ∘ h.coherent
  queues := h'.queues ∘ h.queues
  ramps := h'.ramps ∘ h.ramps
  orderly := h'.orderly ∘ h.orderly
  demands := h.demands.trans h'.demands
  tables := h'.tables ∘ h.tables
  direction hL f := Fan.keepsDirection_trans (h.direction hL f) (h'.direction hL f)
  incident hL := h'.incident hL ∘ h.incident hL
  pages hL p hp := by
    by_cases e : t.store.page p = s.store.page p
    · exact h.operation hL p (h'.pages hL p fun e' => hp (e'.trans e))
    · exact h.pages hL p e
  operation hL p := h.operation hL p ∘ h'.operation hL p

theorem Keeps.ite {s t u : State} (c : Prop) [Decidable c] (h : c → Keeps L s t) (h' : ¬c → Keeps L s u) :
    Keeps L s (if c then t else u) := by
  split
  next hc => exact h hc
  next hc => exact h' hc

theorem forEach_keepsAll {n : Nat} {body : Fin n → State → State} (h : ∀ i s, Keeps L s (body i s)) (s : State) :
    Keeps L s (forEach body s) :=
  forEach_rel .refl (fun _ _ _ => .trans) h s

theorem foldl_keepsAll {α : Type} {body : State → α → State} (h : ∀ s a, Keeps L s (body s a)) (l : List α) (s : State) :
    Keeps L s (l.foldl body s) :=
  foldl_rel .refl (fun _ _ _ => .trans) h l s

/-! ### Changes of one part of the state -/

theorem tablesInRange_congr {s t : State} (hn : t.nodeTable = s.nodeTable) (hc : t.channelTable = s.channelTable)
    (hk : t.calibrationTable = s.calibrationTable) (hx : t.channels = s.channels) (hf : t.fanTable = s.fanTable)
    (hd : t.doorTable = s.doorTable) (hw : t.watchTable = s.watchTable) (hb : t.neighbourTable = s.neighbourTable)
    (hg : t.triggerTable = s.triggerTable) (hp : t.pointTable = s.pointTable) (h : s.tablesInRange) :
    t.tablesInRange := by
  simpa only [State.tablesInRange, State.claimsDistinct, hn, hc, hk, hx, hf, hd, hw, hb, hg, hp] using h

/-- A chain of moves that keeps the demands. -/
theorem Moves.keeps {s t : State} (h : Moves s.engine.orderly s t) (hd : KeepsDemands s t) : Keeps L s t where
  memories := h.memoriesCanonical
  coherent := h.coherent
  queues := h.queuesBounded
  ramps := h.rampsAtRest
  orderly ho := h.orderly ho ho
  demands := hd
  tables := tablesInRange_congr h.nodeTable h.channelTable h.calibrationTable h.channels h.fanTable h.doorTable
    h.watchTable h.neighbourTable h.triggerTable h.pointTable
  direction _ := h.keepsDirection
  incident _ := h.incident
  pages _ p hp := by
    unfold StoreState.page at hp
    rw [h.cells] at hp
    exact absurd rfl hp
  operation _ p hp := h.operationPage ▸ hp

theorem Keeps.points (s : State) (v : Vector Point 64) : Keeps L s { s with points := v } := {}

theorem Keeps.setPoint (s : State) (n : Fin 64) (x : Point) : Keeps L s (s.setPoint n x) := {}

theorem Keeps.cycle (s : State) (c : CycleState) : Keeps L s (s.setCycle c) := {}

theorem Keeps.events (s : State) (e : BitVec 24) : Keeps L s { s with events := e } := {}

theorem Keeps.keys (s : State) (ks : List Key) : Keeps L s { s with keys := ks } := {}

theorem Keeps.offer (s : State) (k : Key) : Keeps L s (s.offer k) := {}

theorem Keeps.load (s : State) (l : LoadPhase) : Keeps L s { s with load := l } := {}

theorem Keeps.supply (s : State) (b : Bool) : Keeps L s { s with supplyOk := b } := {}

theorem Keeps.pending (s : State) (q : List Instr) : Keeps L s { s with pending := q } := {}

/-- A port given a state whose queues are bounded where the old one's were. -/
theorem Keeps.port (s : State) (p : Port) (x : PortState) (h : (s.port p).bounded → x.bounded) :
    Keeps L s (s.setPort p x) := by
  have hq : s.queuesBounded → (s.setPort p x).queuesBounded := fun hs =>
    State.queuesBounded_setPort hs p (h (State.queuesBounded_port hs p))
  cases p <;> exact { queues := hq }

/-- A change of the event latch and the ports, the queues staying bounded. -/
theorem Keeps.line {s t : State} (h : t.sansLine = s.sansLine) (hq : s.queuesBounded → t.queuesBounded) : Keeps L s t := by
  have ht := State.eq_of_sansLine h
  generalize t.events = e, t.portA = a, t.portB = b at ht
  subst ht
  exact { queues := hq }

theorem Keeps.latch (s : State) (k : EventKind) : Keeps L s (s.latch k) := .line (sansLine_latch s k) (queuesBounded_latch k)

theorem Keeps.notify (s : State) (c : Byte) : Keeps L s (s.notify c) := .line (sansLine_notify s c) (queuesBounded_notify c)

theorem Keeps.queueToAll (s : State) (f : Frame) : Keeps L s (s.queueToAll f) :=
  .line (sansLine_queueToAll s f) (queuesBounded_queueToAll f)

theorem Keeps.queueTo (s : State) (p : Port) (f : Frame) : Keeps L s (s.queueTo p f) :=
  .line (sansLine_queueTo s p f) (queuesBounded_queueTo p f)

theorem Keeps.sendReport (s : State) : Keeps L s s.sendReport := by
  unfold State.sendReport
  exact .ite _ (fun _ => .queueToAll s _) fun _ => .refl s

theorem Keeps.loadReport (s : State) : Keeps L s s.loadReport := by
  unfold State.loadReport
  exact .ite _ (fun _ => .trans (.cycle s _) (.sendReport _)) fun _ => .refl s

theorem Keeps.answerOrder (s : State) (req : Request) (kind : Word) (r : OrderResult) :
    Keeps L s (s.answerOrder req kind r) := by
  unfold State.answerOrder
  exact .ite _ (fun _ => .queueTo s _ _) fun _ => .refl s

theorem Keeps.answerAccess (s : State) (req : Request) (op a b : Word) (x : Answer) :
    Keeps L s (s.answerAccess req op a b x) := by
  unfold State.answerAccess
  exact .ite _ (fun _ => .queueTo s _ _) fun _ => .refl s

theorem Keeps.takeKeys (s : State) : Keeps L s s.takeKeys := (takeKeys_moves s).keeps (takeKeys_keepsDemands s)

theorem Keeps.followPins (s : State) : Keeps L s s.followPins := by
  rw [followPins_eq]
  exact .points s _

theorem Keeps.settle (s : State) : Keeps L s s.settle := .trans (.takeKeys s) (.followPins _)

/-- A channel given a state of level 3 or less. -/
theorem Keeps.setChannel (s : State) (n : Fin 12) (x : Channel)
    (h : (s.channelEntry n).failLevel ≤ 3 → (s.channel n).level ≤ 3 → x.level ≤ 3) : Keeps L s (s.setChannel n x) where
  tables := by
    rintro ⟨hnode, hchannels, hrest⟩
    refine ⟨hnode, fun m => ⟨(hchannels m).1, (hchannels m).2.1, ?_⟩, hrest⟩
    change ((s.setChannel n x).channel m).level ≤ 3
    by_cases e : n = m
    · subst e
      rw [channel_setChannel_same]
      exact h (hchannels n).1.2.2.2.2.2.2.2.2.2.2.2.2.2.2 (hchannels n).2.2
    · rw [channel_setChannel_ne s n m x e]
      exact (hchannels m).2.2

/-- The store given a state: its memories canonical, its items coherent, and its pages as the operation lets them be. -/
theorem Keeps.store (s : State) (x : StoreState)
    (hm : Mem.wf s.store.cells = true → Mem.wf s.store.staging = true → Mem.wf s.store.programData = true →
      Mem.wf x.cells = true ∧ Mem.wf x.staging = true ∧ Mem.wf x.programData = true)
    (hc : s.store.coherent → x.coherent)
    (hp : L.operation → ∀ p, x.page p ≠ s.store.page p → s.store.operationPage = some p)
    (ho : L.operation → ∀ p, x.operationPage = some p → s.store.operationPage = some p) : Keeps L s (s.setStore x) where
  memories := fun ⟨h1, h2, h3⟩ => hm h1 h2 h3
  coherent := hc
  pages := hp
  operation := ho

/-- A change of the store outside its cells, which begins no operation. -/
theorem Keeps.storeItems (s : State) (x : StoreState) (hcells : x.cells = s.store.cells)
    (hm : Mem.wf s.store.staging = true → Mem.wf s.store.programData = true →
      Mem.wf x.staging = true ∧ Mem.wf x.programData = true)
    (hc : s.store.coherent → x.coherent)
    (ho : ∀ p, x.operationPage = some p → s.store.operationPage = some p) : Keeps L s (s.setStore x) := by
  refine .store s x (fun h1 h2 h3 => ⟨hcells ▸ h1, hm h2 h3⟩) hc (fun _ p hp => ?_) fun _ => ho
  exact absurd (by rw [StoreState.page, StoreState.page, hcells]) hp

/-- An operation page given new bytes, and the draw of free bytes. -/
theorem Keeps.setPage (s : State) (p : Fin 48) (bytes : List Byte) (n : Nat) (hop : s.store.operationPage = some p)
    (hlen : bytes.length = 512) : Keeps L s { s with store := s.store.setPage p bytes, freeCount := n } where
  memories := fun ⟨h1, h2, h3⟩ => ⟨StoreState.wf_setPage p bytes h1, h2, h3⟩
  pages _ q hq := by
    by_cases e : p = q
    · exact e ▸ hop
    · exact absurd (StoreState.page_setPage_ne s.store p q bytes hlen e) hq

end Sys2Proof.Machine
end

section
/-! The entries of the writable tables (R2 to R4, R42, R81, R120, R129, R135, R178, R193): what the clamps make of the words
of a request, what an entry parsed from clamped words holds, and that entries read back as they are written. -/

namespace Sys2Proof.Machine

/-! ### Clamps (R3) -/

theorem clamp_of_mem {low high v : Int} (h : within low high v) : clamp low high v = v := by
  obtain ⟨hlow, hhigh⟩ := h
  unfold clamp
  rw [if_neg (by omega), if_neg (by omega)]

theorem getElem?_clampFields (rs : List (Option (Int × Int))) (vs : List Int) (i : Nat) :
    (clampFields rs vs)[i]? =
      (vs[i]?).map fun v => match (rs[i]?).join with | some (low, high) => clamp low high v | none => v := by
  induction rs generalizing vs i with
  | nil => simp [clampFields]
  | cons r rs ih =>
    cases vs with
    | nil => rcases r with _ | ⟨low, high⟩ <;> simp [clampFields]
    | cons v vs =>
      rcases r with _ | ⟨low, high⟩ <;> cases i <;> simp [clampFields, ih]

/-- Field values that are signed words, each within its range where it has one. -/
def fieldsWithin : List (Option (Int × Int)) → List Int → Prop
  | some (low, high) :: rs, v :: vs => fitsWord v ∧ within low high v ∧ fieldsWithin rs vs
  | none :: rs, v :: vs => fitsWord v ∧ fieldsWithin rs vs
  | [], v :: vs => fitsWord v ∧ fieldsWithin [] vs
  | _, [] => True

/-- Ranges that a field word can hold. -/
def rangesFit (rs : List (Option (Int × Int))) : Bool :=
  rs.all fun r => match r with | some (low, high) => decide (-32768 ≤ low ∧ low ≤ high ∧ high ≤ 32767) | none => true

theorem TableId.rangesFit_ranges (t : TableId) : rangesFit t.ranges = true := by cases t <;> rfl

theorem fieldsWithin_clampFields {rs : List (Option (Int × Int))} (hr : rangesFit rs = true) {vs : List Int}
    (hv : ∀ v ∈ vs, fitsWord v) : fieldsWithin rs (clampFields rs vs) := by
  induction vs generalizing rs with
  | nil => rcases rs with _ | ⟨_ | ⟨low, high⟩, rs⟩ <;> exact trivial
  | cons v vs ih =>
    obtain ⟨hvv, hvs⟩ := List.forall_mem_cons.1 hv
    rcases rs with _ | ⟨_ | ⟨low, high⟩, rs⟩
    · exact ⟨hvv, by simpa [clampFields] using ih (rs := []) rfl hvs⟩
    · have hrs : rangesFit rs = true := by simpa [rangesFit] using hr
      exact ⟨hvv, ih hrs hvs⟩
    · simp only [rangesFit, List.all_cons, Bool.and_eq_true, decide_eq_true_eq] at hr
      obtain ⟨⟨h1, h2, h3⟩, hrs⟩ := hr
      have hc := clamp_mem h2 v
      exact ⟨⟨by omega, by omega⟩, hc, ih hrs hvs⟩

theorem clampFields_of_fieldsWithin {rs : List (Option (Int × Int))} {vs : List Int} (h : fieldsWithin rs vs) :
    clampFields rs vs = vs := by
  induction vs generalizing rs with
  | nil => rcases rs with _ | ⟨_ | ⟨low, high⟩, rs⟩ <;> rfl
  | cons v vs ih =>
    rcases rs with _ | ⟨_ | ⟨low, high⟩, rs⟩
    · rfl
    · exact congrArg (v :: ·) (ih h.2)
    · obtain ⟨-, hin, hrest⟩ := h
      rw [clampFields, clamp_of_mem hin, ih hrest]

theorem fieldsWithin_fitsWord {rs : List (Option (Int × Int))} {vs : List Int} (h : fieldsWithin rs vs) :
    ∀ v ∈ vs, fitsWord v := by
  induction vs generalizing rs with
  | nil => simp
  | cons v vs ih =>
    rcases rs with _ | ⟨_ | ⟨low, high⟩, rs⟩
    · exact List.forall_mem_cons.2 ⟨h.1, ih h.2⟩
    · exact List.forall_mem_cons.2 ⟨h.1, ih h.2⟩
    · exact List.forall_mem_cons.2 ⟨h.1, ih h.2.2⟩

theorem fitsWord_signed (w : Word) : fitsWord (signed w) := by
  have := w.toInt_lt
  have := w.le_toInt
  exact ⟨by simp [signed] at *; omega, by simp [signed] at *; omega⟩

theorem signed_ofInt {v : Int} (h : fitsWord v) : signed (BitVec.ofInt 16 v) = v := by
  obtain ⟨hlow, hhigh⟩ := h
  rw [signed, BitVec.toInt_ofInt, Int.bmod_def]
  simp
  omega

theorem getElem?_offeredValues (t : TableId) (ws : List Word) (k i : Nat) :
    (offeredValues t ws k)[i]? = if i < t.length then (ws[t.length * k + i]?).map BitVec.toInt else none := by
  rw [offeredValues, List.getElem?_map, List.getElem?_take, List.getElem?_drop]
  split
  · rfl
  · rfl

theorem fitsWord_offeredValues (t : TableId) (ws : List Word) (k : Nat) : ∀ v ∈ offeredValues t ws k, fitsWord v := by
  intro v hv
  obtain ⟨w, -, rfl⟩ := List.mem_map.1 hv
  exact fitsWord_signed w

/-- The clamped words of a request hold values within the ranges of their table. -/
theorem clampedValues_fieldsWithin (t : TableId) (ws : List Word) (k : Nat) :
    fieldsWithin t.ranges (clampedValues t ws k) :=
  fieldsWithin_clampFields t.rangesFit_ranges (fitsWord_offeredValues t ws k)

/-! ### Codes -/

theorem byCode_eq_some {α : Type} {names : List α} {code : α → Nat} {v : Int} {a : α}
    (h : byCode names code v = some a) : (code a : Int) = v := by
  simpa using List.find?_some h

theorem flagOf_eq_some {v : Int} {b : Bool} (h : flagOf v = some b) : v = flagCode b := by
  unfold flagOf at h
  split at h
  · cases h; assumption
  · split at h
    · cases h; assumption
    · cases h

@[simp] theorem flagOf_flagCode (b : Bool) : flagOf (flagCode b) = some b := by cases b <;> rfl

theorem indexOf_eq_some {n : Nat} {v : Int} {i : Fin n} (h : indexOf n v = some i) : v = i.val := by
  unfold indexOf at h
  split at h
  · split at h
    · cases h
      simp only
      omega
    · cases h
  · cases h

@[simp] theorem indexOf_val {n : Nat} (i : Fin n) : indexOf n (i.val : Int) = some i := by
  simp [indexOf]

@[simp] theorem byCode_sensorClass (c : SensorClass) : byCode SensorClass.all SensorClass.code (c.code : Int) = some c := by
  cases c <;> rfl
@[simp] theorem byCode_fillPolicy (c : FillPolicy) : byCode [.hold, .fallback] FillPolicy.code (c.code : Int) = some c := by
  cases c <;> rfl
@[simp] theorem byCode_evaluateOn (c : EvaluateOn) :
    byCode [.mean, .max, .meanAbs, .peakAbs] EvaluateOn.code (c.code : Int) = some c := by cases c <;> rfl
@[simp] theorem byCode_direction (c : Direction) : byCode [.fwd, .rev] Direction.code (c.code : Int) = some c := by
  cases c <;> rfl
@[simp] theorem byCode_watchKind (c : WatchKind) : byCode [.report, .notice] WatchKind.code (c.code : Int) = some c := by
  cases c <;> rfl
@[simp] theorem byCode_testField (c : TestField) :
    byCode [.classLevel, .fanState, .openDoors, .mode, .activeResponse, .noticeCode] TestField.code (c.code : Int) = some c := by
  cases c <;> rfl
@[simp] theorem byCode_comparison (c : Comparison) :
    byCode [.atOrAbove, .equal, .below] Comparison.code (c.code : Int) = some c := by cases c <;> rfl
@[simp] theorem byCode_keyKind (c : KeyKind) : byCode KeyKind.all KeyKind.code (c.code : Int) = some c := by
  cases c <;> rfl
@[simp] theorem byCode_selector (c : SelectorMode) :
    byCode [.index, .cls, .any] SelectorMode.code (c.code : Int) = some c := by cases c <;> rfl
@[simp] theorem byCode_triggerAction (c : TriggerAction) :
    byCode [.dispatch, .cancel] TriggerAction.code (c.code : Int) = some c := by cases c <;> rfl
@[simp] theorem byCode_pointFunction (c : PointFunction) :
    byCode PointFunction.all PointFunction.code (c.code : Int) = some c := by cases c <;> rfl
@[simp] theorem byCode_polarity (c : Polarity) : byCode [.activeHigh, .activeLow] Polarity.code (c.code : Int) = some c := by
  cases c <;> rfl

end Sys2Proof.Machine
end

section
/-! The entries of the writable tables (continued): what each table's parse and words have to do with each other. -/

namespace Sys2Proof.Machine

theorem fitsWord_flagCode (b : Bool) : fitsWord (flagCode b) := by cases b <;> exact ⟨by decide, by decide⟩

theorem fitsWord_natCast {n : Nat} (h : n ≤ 32767) : fitsWord n := ⟨by omega, by omega⟩

/-! ### Channel Table (R2, R3) -/

theorem ChannelEntry.parse_spec {ws : List Int} {e : ChannelEntry} (h : ChannelEntry.parse ws = some e)
    (hw : fieldsWithin ChannelEntry.ranges ws) : e.inRange ∧ e.words = ws := by
  unfold ChannelEntry.parse at h
  split at h
  · simp only [Option.bind_eq_bind, Option.bind_eq_some_iff, Option.ite_none_right_eq_some, Option.some.injEq] at h
    obtain ⟨cls, hcls, enabled, henabled, policy, hpolicy, on, hon, ⟨hlimits, h12, h23⟩, rfl⟩ := h
    simp only [ChannelEntry.ranges, fieldsWithin, within] at hw
    obtain ⟨-, -, -, hdivider, -, hlow, -, hhigh, -, hfallback, -, hk, -, hwindow, -, hwarm, -, ht1, -, ht3, -, hhyst, -,
      hp, -, hf, -, hl, -⟩ := hw
    refine ⟨⟨by constructor <;> dsimp only <;> omega, by dsimp only; omega, by dsimp only; omega, hfallback, by dsimp only; omega,
      by constructor <;> dsimp only <;> omega, by dsimp only; omega, ht1, h12, h23, ht3, by dsimp only; omega,
      by constructor <;> dsimp only <;> omega, by constructor <;> dsimp only <;> omega, by dsimp only; omega⟩, ?_⟩
    simp only [ChannelEntry.words, byCode_eq_some hcls, flagOf_eq_some henabled, byCode_eq_some hpolicy, byCode_eq_some hon,
      List.cons.injEq, and_true, true_and]
    omega
  · cases h

theorem ChannelEntry.words_spec {e : ChannelEntry} (h : e.inRange) :
    fieldsWithin ChannelEntry.ranges e.words ∧ ChannelEntry.parse e.words = some e := by
  obtain ⟨hdivider, hlimits, hhigh, hfallback, hk, hwindow, hwarm, ht1, h12, h23, ht3, hhyst, hp, hf, hl⟩ := h
  have hcls : e.cls.code ≤ 6 := by cases e.cls <;> decide
  have hpolicy : e.fillPolicy.code ≤ 1 := by cases e.fillPolicy <;> decide
  have hon : e.evaluateOn.code ≤ 3 := by cases e.evaluateOn <;> decide
  constructor
  · have hflag := fitsWord_flagCode e.enabled
    simp only [within, fitsWord] at *
    simp only [ChannelEntry.ranges, ChannelEntry.words, fieldsWithin, within, fitsWord, and_true]
    omega
  · have hlimits' : (e.lowLimit : Int) < e.highLimit := by omega
    simp [ChannelEntry.parse, ChannelEntry.words, hlimits', h12, h23]

/-! ### Fan Table (R42, R43) -/

theorem FanEntry.parse_spec {ws : List Int} {e : FanEntry} (h : FanEntry.parse ws = some e)
    (hw : fieldsWithin FanEntry.ranges ws) : e.inRange ∧ e.words = ws := by
  unfold FanEntry.parse at h
  split at h
  · simp only [Option.bind_eq_bind, Option.bind_eq_some_iff, Option.some.injEq] at h
    obtain ⟨present, hpresent, role, hrole, direction, hdirection, rfl⟩ := h
    simp only [FanEntry.ranges, fieldsWithin, within] at hw
    simp only [FanEntry.inRange, within, FanEntry.words, byCode_eq_some hdirection, flagOf_eq_some hpresent,
      flagOf_eq_some hrole, List.cons.injEq, and_true, true_and]
    omega
  · cases h

theorem FanEntry.words_spec {e : FanEntry} (h : e.inRange) :
    fieldsWithin FanEntry.ranges e.words ∧ FanEntry.parse e.words = some e := by
  have hdirection : e.pressurisationDirection.code ≤ 1 := by cases e.pressurisationDirection <;> decide
  constructor
  · have hpresent := fitsWord_flagCode e.present
    have hgallery := fitsWord_flagCode e.gallery
    simp only [FanEntry.inRange, within, fitsWord] at *
    simp only [FanEntry.ranges, FanEntry.words, fieldsWithin, within, fitsWord, and_true]
    omega
  · simp [FanEntry.parse, FanEntry.words]

/-! ### Door Table (R81, R82) -/

theorem DoorEntry.parse_spec {ws : List Int} {e : DoorEntry} (h : DoorEntry.parse ws = some e)
    (hw : fieldsWithin DoorEntry.ranges ws) : e.inRange ∧ e.words = ws := by
  unfold DoorEntry.parse at h
  split at h
  · simp only [Option.bind_eq_bind, Option.bind_eq_some_iff, Option.some.injEq] at h
    obtain ⟨present, hpresent, fan, hfan, rfl⟩ := h
    have hfan := indexOf_eq_some hfan
    simp only [DoorEntry.ranges, fieldsWithin, within] at hw
    refine ⟨by simp only [DoorEntry.inRange, within]; omega, ?_⟩
    simp only [DoorEntry.words, flagOf_eq_some hpresent, List.cons.injEq, and_true, true_and]
    refine ⟨by omega, by omega, ?_, by omega⟩
    by_cases h6 : fan.val < 6
    · simp [h6, hfan]
    · simp only [h6, dite_false]
      omega
  · cases h

theorem DoorEntry.words_spec {e : DoorEntry} (h : e.inRange) :
    fieldsWithin DoorEntry.ranges e.words ∧ DoorEntry.parse e.words = some e := by
  have hpresent := fitsWord_flagCode e.present
  obtain ⟨present, travel, dwell, fan, boost⟩ := e
  simp only [DoorEntry.inRange, within] at h
  cases fan with
  | none =>
    have hindex : indexOf 7 6 = some 6 := rfl
    constructor
    · simp only [fitsWord, within] at hpresent
      simp only [DoorEntry.ranges, DoorEntry.words, fieldsWithin, within, fitsWord, and_true]
      omega
    · simp [DoorEntry.parse, DoorEntry.words, hindex]
  | some f =>
    have hindex : indexOf 7 (f.val : Int) = some (f.castLE (by decide)) := indexOf_val (f.castLE (by decide : 6 ≤ 7))
    constructor
    · simp only [fitsWord, within] at hpresent
      simp only [DoorEntry.ranges, DoorEntry.words, fieldsWithin, within, fitsWord, and_true]
      omega
    · simp [DoorEntry.parse, DoorEntry.words, hindex]

/-! ### Watch Table (R120, R121) -/

theorem toNat_ofInt_of_lt {n : Nat} {v : Int} (h0 : 0 ≤ v) (h : v < 2 ^ n) : ((BitVec.ofInt n v).toNat : Int) = v := by
  rw [BitVec.toNat_ofInt]
  have := Int.emod_eq_of_lt h0 (b := ((2 ^ n : Nat) : Int)) (by exact_mod_cast h)
  omega

theorem WatchEntry.parse_spec {ws : List Int} {e : WatchEntry} (h : WatchEntry.parse ws = some e)
    (hw : fieldsWithin WatchEntry.ranges ws) :
    (e.inRange ∧ e.latch = none) ∧ ws.length = 9 ∧ e.words = ws.take 7 ++ [0, 0] := by
  unfold WatchEntry.parse at h
  split at h
  next enable source kind test index comparison operand _ _ =>
    simp only [Option.bind_eq_bind, Option.bind_eq_some_iff, Option.ite_none_right_eq_some, Option.some.injEq] at h
    obtain ⟨enabled, henabled, kind', hkind, test', htest, comparison', hcomparison, ⟨hsource, hmatch, hindex⟩, rfl⟩ := h
    simp only [WatchEntry.ranges, fieldsWithin] at hw
    obtain ⟨-, -, -, -, hfits, -, hoperand, -⟩ := hw
    have hs : ((BitVec.ofInt 8 source).toNat : Int) = source := toNat_ofInt_of_lt (by omega) (by omega)
    refine ⟨⟨⟨?_, hmatch, hindex, hfits, hoperand, fun _ => rfl⟩, rfl⟩, rfl, ?_⟩
    · rcases hsource with hsource | rfl
      · exact .inl (by dsimp only; rw [hs]; exact hsource)
      · exact .inr rfl
    · simp only [WatchEntry.words, flagOf_eq_some henabled, byCode_eq_some hkind, byCode_eq_some htest,
        byCode_eq_some hcomparison, hs]
      rfl
  · cases h

theorem ofInt_toNat {n : Nat} (b : BitVec n) : BitVec.ofInt n (b.toNat : Int) = b := by
  simp

theorem WatchEntry.words_spec {e : WatchEntry} (h : e.inRange) (hlatch : e.latch = none) :
    fieldsWithin WatchEntry.ranges e.words ∧ WatchEntry.parse e.words = some e := by
  obtain ⟨hsource, hmatch, hindex, hfits, hoperand, -⟩ := h
  have hkind : e.kind.code ≤ 1 := by cases e.kind <;> decide
  have htest : e.test.code ≤ 5 := by cases e.test <;> decide
  have hcomparison : e.comparison.code ≤ 2 := by cases e.comparison <;> decide
  have hlt := e.source.isLt
  constructor
  · have hflag := fitsWord_flagCode e.enabled
    simp only [WatchEntry.ranges, WatchEntry.words, fieldsWithin, hlatch, and_true]
    refine ⟨hflag, fitsWord_natCast (by omega), fitsWord_natCast (by omega), fitsWord_natCast (by omega), hfits,
      fitsWord_natCast (by omega), hoperand, fitsWord_flagCode _, ⟨by decide, by decide⟩⟩
  · have hs : (1 ≤ (e.source.toNat : Int) ∧ (e.source.toNat : Int) ≤ 250) ∨ (e.source.toNat : Int) = 255 :=
      hsource.imp id fun h => by rw [h]; rfl
    simp only [WatchEntry.parse, WatchEntry.words, hlatch, flagOf_flagCode, byCode_watchKind, byCode_testField,
      byCode_comparison, Option.bind_eq_bind, Option.bind_some, ofInt_toNat]
    rw [if_pos ⟨hs, hmatch, hindex⟩]
    simp [← hlatch]

/-! ### Neighbour Table (R129) -/

theorem NeighbourRecord.parse_spec {ws : List Int} {e : NeighbourRecord} (h : NeighbourRecord.parse ws = some e)
    (hw : fieldsWithin NeighbourRecord.ranges ws) :
    (e.inRange ∧ e.state = .unknown ∧ e.silenceCount = 0) ∧ ws.length = 4 ∧ e.words = ws.take 2 ++ [0, 0] := by
  unfold NeighbourRecord.parse at h
  split at h
  next address limit _ _ =>
    simp only [Option.ite_none_right_eq_some, Option.some.injEq] at h
    obtain ⟨haddress, rfl⟩ := h
    simp only [NeighbourRecord.ranges, fieldsWithin, within] at hw
    have ha : ((BitVec.ofInt 8 address).toNat : Int) = address := toNat_ofInt_of_lt (by omega) (by omega)
    refine ⟨⟨⟨?_, ⟨?_, ?_⟩, Nat.zero_le _, ⟨by simp, ?_⟩, fun _ => ⟨rfl, rfl⟩⟩, rfl, rfl⟩, rfl, ?_⟩
    · dsimp only; omega
    · dsimp only; omega
    · dsimp only; omega
    · dsimp only; omega
    · simp only [NeighbourRecord.words, ha, List.take_succ_cons, List.take_zero, List.cons_append, List.nil_append,
        Presence.code, List.cons.injEq, and_true, true_and]
      omega
  · cases h

theorem NeighbourRecord.words_spec {e : NeighbourRecord} (h : e.inRange) (hstate : e.state = .unknown)
    (hcount : e.silenceCount = 0) :
    fieldsWithin NeighbourRecord.ranges e.words ∧ NeighbourRecord.parse e.words = some e := by
  obtain ⟨haddress, hlimit, -⟩ := h
  simp only [within] at hlimit
  obtain ⟨address, limit, state, count⟩ := e
  cases hstate
  cases hcount
  constructor
  · simp only [NeighbourRecord.ranges, NeighbourRecord.words, fieldsWithin, within, fitsWord, Presence.code, and_true]
    dsimp only at *
    omega
  · have ha : (0 : Int) ≤ address.toNat ∧ (address.toNat : Int) ≤ 250 := by dsimp only at *; omega
    simp only [NeighbourRecord.parse, NeighbourRecord.words, ofInt_toNat]
    rw [if_pos ha]
    simp

/-! ### Trigger Table (R135, R136) -/

theorem TriggerEntry.parse_spec {ws : List Int} {e : TriggerEntry} (h : TriggerEntry.parse ws = some e)
    (hw : fieldsWithin TriggerEntry.ranges ws) : e.inRange ∧ e.words = ws := by
  unfold TriggerEntry.parse at h
  split at h
  · simp only [Option.bind_eq_bind, Option.bind_eq_some_iff, Option.ite_none_right_eq_some, Option.some.injEq] at h
    obtain ⟨enabled, henabled, kind, hkind, selector, hselector, filter, hfilter, action, haction, response, hresponse,
      hok, rfl⟩ := h
    have hfilter := indexOf_eq_some hfilter
    have hresponse := indexOf_eq_some hresponse
    simp only [TriggerEntry.ranges, fieldsWithin, within] at hw
    obtain ⟨-, -, -, hvalue, -, hlevel, -⟩ := hw
    refine ⟨⟨by dsimp only; omega, hok, hvalue⟩, ?_⟩
    have hlt := filter.isLt
    simp only [TriggerEntry.words, flagOf_eq_some henabled, byCode_eq_some hkind, byCode_eq_some hselector,
      byCode_eq_some haction, BitVec.toNat_ofNat, List.cons.injEq, and_true, true_and]
    omega
  · cases h

theorem TriggerEntry.words_spec {e : TriggerEntry} (h : e.inRange) :
    fieldsWithin TriggerEntry.ranges e.words ∧ TriggerEntry.parse e.words = some e := by
  obtain ⟨hlevel, hok, hvalue⟩ := h
  have hkind : e.kind.code ≤ 15 := by cases e.kind <;> decide
  have hselector : e.selector.code ≤ 2 := by cases e.selector <;> decide
  have haction : e.action.code ≤ 1 := by cases e.action <;> decide
  have hfilter := e.modeFilter.isLt
  constructor
  · have hflag := fitsWord_flagCode e.enabled
    simp only [fitsWord, within] at *
    simp only [TriggerEntry.ranges, TriggerEntry.words, fieldsWithin, within, fitsWord, and_true]
    omega
  · have hindex : indexOf 8 (e.modeFilter.toNat : Int) = some ⟨e.modeFilter.toNat, hfilter⟩ :=
      indexOf_val (⟨e.modeFilter.toNat, hfilter⟩ : Fin 8)
    simp [TriggerEntry.parse, TriggerEntry.words, hindex, hok]

/-! ### Point Table (R178, R179) -/

theorem PointEntry.parse_spec {ws : List Int} {e : PointEntry} (h : PointEntry.parse ws = some e)
    (hw : fieldsWithin PointEntry.ranges ws) : e.inRange ∧ e.words = ws := by
  unfold PointEntry.parse at h
  split at h
  · simp only [Option.bind_eq_bind, Option.bind_eq_some_iff, Option.ite_none_right_eq_some, Option.some.injEq] at h
    obtain ⟨function, hfunction, polarity, hpolarity, hindex, rfl⟩ := h
    simp only [PointEntry.ranges, fieldsWithin, within] at hw
    obtain ⟨-, hfits, -, -, hfilter, -⟩ := hw
    refine ⟨⟨by dsimp only; omega, fun hi => ?_, hfits⟩, ?_⟩
    · exact hindex.resolve_left (by simpa using hi)
    · simp only [PointEntry.words, byCode_eq_some hfunction, byCode_eq_some hpolarity, List.cons.injEq, and_true, true_and]
      omega
  · cases h

theorem PointEntry.words_spec {e : PointEntry} (h : e.inRange) :
    fieldsWithin PointEntry.ranges e.words ∧ PointEntry.parse e.words = some e := by
  obtain ⟨hfilter, hindex, hfits⟩ := h
  have hfunction : e.function.code ≤ 12 := by cases e.function <;> decide
  have hpolarity : e.polarity.code ≤ 1 := by cases e.polarity <;> decide
  constructor
  · simp only [fitsWord, within] at *
    simp only [PointEntry.ranges, PointEntry.words, fieldsWithin, within, fitsWord, and_true]
    omega
  · have hok : e.function.indexed = false ∨ (0 ≤ e.functionIndex ∧ e.functionIndex ≤ 5) := by
      by_cases hi : e.function.indexed = true
      · exact .inr (hindex hi)
      · exact .inl (by simpa using hi)
    simp only [PointEntry.parse, PointEntry.words, byCode_pointFunction, byCode_polarity, Option.bind_eq_bind,
      Option.bind_some]
    rw [if_pos hok]
    simp

/-! ### Calibration Table (R4) -/

theorem CalibrationEntry.ranges_eq : CalibrationEntry.ranges =
    [some (2, 8), some (0, 4095), none, some (0, 4095), none, some (0, 4095), none, some (0, 4095), none, some (0, 4095),
      none, some (0, 4095), none, some (0, 4095), none, some (0, 4095), none] := rfl

theorem CalibrationEntry.words_eq (e : CalibrationEntry) :
    e.words = [(e.count : Int), e.points[0].raw, e.points[0].value, e.points[1].raw, e.points[1].value, e.points[2].raw,
      e.points[2].value, e.points[3].raw, e.points[3].value, e.points[4].raw, e.points[4].value, e.points[5].raw,
      e.points[5].value, e.points[6].raw, e.points[6].value, e.points[7].raw, e.points[7].value] := by
  obtain ⟨count, ⟨⟨points⟩, hlen⟩⟩ := e
  match points, hlen with
  | [_, _, _, _, _, _, _, _], _ => rfl

theorem CalibrationEntry.parse_spec {ws : List Int} {e : CalibrationEntry} (h : CalibrationEntry.parse ws = some e)
    (hw : fieldsWithin CalibrationEntry.ranges ws) : e.inRange ∧ e.words = ws := by
  simp only [CalibrationEntry.parse, Option.ite_none_right_eq_some, Option.some.injEq] at h
  obtain ⟨hlen, hinc, rfl⟩ := h
  match ws, hlen with
  | [c, r0, v0, r1, v1, r2, v2, r3, v3, r4, v4, r5, v5, r6, v6, r7, v7], _ =>
    simp only [CalibrationEntry.ranges_eq, fieldsWithin, within, and_true] at hw
    obtain ⟨-, hc, -, h0, f0, -, h1, f1, -, h2, f2, -, h3, f3, -, h4, f4, -, h5, f5, -, h6, f6, -, h7, f7⟩ := hw
    refine ⟨⟨⟨?_, ?_⟩, hinc, fun i => ?_⟩, ?_⟩
    · simp; omega
    · simp; omega
    · simp only [Fin.getElem_fin, getElem_tabulate]
      match i with
      | 0 => exact ⟨by simp; omega, f0⟩
      | 1 => exact ⟨by simp; omega, f1⟩
      | 2 => exact ⟨by simp; omega, f2⟩
      | 3 => exact ⟨by simp; omega, f3⟩
      | 4 => exact ⟨by simp; omega, f4⟩
      | 5 => exact ⟨by simp; omega, f5⟩
      | 6 => exact ⟨by simp; omega, f6⟩
      | 7 => exact ⟨by simp; omega, f7⟩
    · simp [CalibrationEntry.words_eq]
      omega

theorem CalibrationEntry.words_spec {e : CalibrationEntry} (h : e.inRange) :
    fieldsWithin CalibrationEntry.ranges e.words ∧ CalibrationEntry.parse e.words = some e := by
  obtain ⟨hcount, hinc, hpoints⟩ := h
  have hpoint (i : Nat) (hi : i < 8) : e.points[i].raw ≤ 4095 ∧ fitsWord e.points[i].value := hpoints ⟨i, hi⟩
  constructor
  · have h0 := hpoint 0 (by decide)
    have h1 := hpoint 1 (by decide)
    have h2 := hpoint 2 (by decide)
    have h3 := hpoint 3 (by decide)
    have h4 := hpoint 4 (by decide)
    have h5 := hpoint 5 (by decide)
    have h6 := hpoint 6 (by decide)
    have h7 := hpoint 7 (by decide)
    rw [CalibrationEntry.words_eq]
    simp only [within, fitsWord] at *
    simp only [CalibrationEntry.ranges_eq, fieldsWithin, within, fitsWord, and_true]
    omega
  · have hentry : ({ count := (e.words.getD 0 0).toNat
                     points := tabulate fun i => ⟨(e.words.getD (1 + 2 * i) 0).toNat, e.words.getD (2 + 2 * i) 0⟩ }
        : CalibrationEntry) = e := by
      rw [CalibrationEntry.words_eq]
      obtain ⟨count, ⟨⟨points⟩, hlen⟩⟩ := e
      match points, hlen with
      | [_, _, _, _, _, _, _, _], _ => rfl
    have hlen : e.words.length = 17 := by rw [CalibrationEntry.words_eq]; rfl
    simp only [CalibrationEntry.parse, hlen, if_true, hentry, hinc]

/-! ### Node Table (R193) -/

/-- A bit of the event mask made of its two words (R193, R195). -/
theorem getLsbD_mask (a : BitVec 8) (b : BitVec 16) (i : Nat) :
    BitVec.getLsbD (w := 24) (a ++ b) i = if i < 16 then b.getLsbD i else a.getLsbD (i - 16) :=
  (BitVec.getLsbD_append (x := a) (y := b) (i := i)).trans (by split <;> rfl)

theorem extractLsb'_append_low (a : BitVec 8) (b : BitVec 16) : BitVec.extractLsb' (n := 24) 0 16 (a ++ b) = b := by
  refine BitVec.eq_of_getLsbD_eq fun i hi => ?_
  simp [getLsbD_mask, hi]

theorem extractLsb'_append_high (a : BitVec 8) (b : BitVec 16) : BitVec.extractLsb' (n := 24) 16 8 (a ++ b) = a := by
  refine BitVec.eq_of_getLsbD_eq fun i hi => ?_
  simp [getLsbD_mask, hi]

theorem append_extractLsb' (m : BitVec 24) : (m.extractLsb' 16 8 ++ m.extractLsb' 0 16 : BitVec 24) = m := by
  refine BitVec.eq_of_getLsbD_eq fun i hi => ?_
  rw [getLsbD_mask]
  split
  next h => simp [h]
  next h => simp [show 16 + (i - 16) = i by omega, show i - 16 < 8 by omega]

theorem NodeEntry.parse_spec {ws : List Int} {e : NodeEntry} (h : NodeEntry.parse ws = some e)
    (hw : fieldsWithin NodeEntry.ranges ws) :
    e.inRange ∧ ∃ interval timeout stale groups precedence low high,
      ws = [interval, timeout, stale, groups, precedence, low, high] ∧
        e.words = [interval, timeout, stale, ((BitVec.ofInt 4 groups).toNat : Int), precedence,
          ((BitVec.ofInt 16 low).toNat : Int), ((BitVec.ofInt 8 high).toNat : Int)] := by
  unfold NodeEntry.parse at h
  split at h
  next interval timeout stale groups precedence low high =>
    cases h
    simp only [NodeEntry.ranges, fieldsWithin, within] at hw
    refine ⟨?_, _, _, _, _, _, _, _, rfl, ?_⟩
    · simp only [NodeEntry.inRange, within]
      omega
    · have hlow := extractLsb'_append_low (BitVec.ofInt 8 high) (BitVec.ofInt 16 low)
      have hhigh := extractLsb'_append_high (BitVec.ofInt 8 high) (BitVec.ofInt 16 low)
      simp only [NodeEntry.words, hlow, hhigh, List.cons.injEq, and_true, true_and]
      omega
  · cases h

theorem NodeEntry.words_spec {e : NodeEntry} (h : e.inRange) :
    fieldsWithin NodeEntry.ranges (e.words.map fun v => signed (BitVec.ofInt 16 v)) ∧
      NodeEntry.parse (e.words.map fun v => signed (BitVec.ofInt 16 v)) = some e := by
  obtain ⟨hinterval, htimeout, hstale, hprecedence⟩ := h
  simp only [within] at hinterval htimeout hprecedence
  have hgroups := e.groups.isLt
  have hhigh := (e.noticeMask.extractLsb' 16 8).isLt
  have hwords : (e.words.map fun v => signed (BitVec.ofInt 16 v)) =
      [(e.reportInterval : Int), e.markTimeout, e.staleLimit, e.groups.toNat, e.pressurisationPrecedence,
        signed (e.noticeMask.extractLsb' 0 16), (e.noticeMask.extractLsb' 16 8).toNat] := by
    simp only [NodeEntry.words, List.map_cons, List.map_nil]
    rw [ofInt_toNat (e.noticeMask.extractLsb' 0 16)]
    congr 1
    all_goals simp only [signed_ofInt (fitsWord_natCast (by omega : e.reportInterval ≤ 32767)),
      signed_ofInt (fitsWord_natCast (by omega : e.markTimeout ≤ 32767)),
      signed_ofInt (fitsWord_natCast (by omega : e.staleLimit ≤ 32767)),
      signed_ofInt (fitsWord_natCast (by omega : e.groups.toNat ≤ 32767)),
      signed_ofInt (fitsWord_natCast (by omega : e.pressurisationPrecedence ≤ 32767)),
      signed_ofInt (fitsWord_natCast (by omega : (e.noticeMask.extractLsb' 16 8).toNat ≤ 32767))]
  rw [hwords]
  constructor
  · have hlow := fitsWord_signed (e.noticeMask.extractLsb' 0 16)
    simp only [fitsWord, within] at hlow
    simp only [NodeEntry.ranges, fieldsWithin, within, fitsWord, and_true]
    omega
  · simp only [NodeEntry.parse, signed, BitVec.ofInt_toInt, ofInt_toNat, append_extractLsb', Int.toNat_natCast]

end Sys2Proof.Machine
end

section
/-! The entries of the writable tables (continued): any table's entries and words, and O51. -/

namespace Sys2Proof.Machine

/-- An entry's field values as READ ENTRIES returns them, before they are made words. -/
def TableEntry.values : TableEntry → List Int
  | .node e => e.words | .channel e => e.words | .calibration e => e.words | .fan e => e.words | .door e => e.words
  | .watch e => e.words | .neighbour e => e.words | .trigger e => e.words | .point e => e.words

theorem TableEntry.words_eq (e : TableEntry) : e.words = e.values.map (BitVec.ofInt 16) := by cases e <;> rfl

theorem TableEntry.length_values (e : TableEntry) : e.values.length = e.table.length := by
  cases e with
  | calibration e => simp [TableEntry.values, CalibrationEntry.words_eq, TableEntry.table, TableId.length]
  | _ => rfl

/-- What the parse of clamped words makes is an entry of the table as a request can hold it. -/
theorem TableId.parse_spec {t : TableId} {ws : List Int} {e : TableEntry} (h : t.parse ws = some e)
    (hw : fieldsWithin t.ranges ws) : e.table = t ∧ e.offerable := by
  cases t <;> simp only [TableId.parse, Option.map_eq_some_iff, reduceCtorEq] at h <;> obtain ⟨e, h, rfl⟩ := h
  case node => exact ⟨rfl, (NodeEntry.parse_spec h hw).1⟩
  case channel => exact ⟨rfl, (ChannelEntry.parse_spec h hw).1⟩
  case calibration => exact ⟨rfl, (CalibrationEntry.parse_spec h hw).1⟩
  case fan => exact ⟨rfl, (FanEntry.parse_spec h hw).1⟩
  case door => exact ⟨rfl, (DoorEntry.parse_spec h hw).1⟩
  case watch => exact ⟨rfl, (WatchEntry.parse_spec h hw).1⟩
  case neighbour => exact ⟨rfl, (NeighbourRecord.parse_spec h hw).1⟩
  case trigger => exact ⟨rfl, (TriggerEntry.parse_spec h hw).1⟩
  case point => exact ⟨rfl, (PointEntry.parse_spec h hw).1⟩

theorem parse_clampedValues_spec {t : TableId} {ws : List Word} {k : Nat} {e : TableEntry}
    (h : t.parse (clampedValues t ws k) = some e) : e.table = t ∧ e.offerable :=
  TableId.parse_spec h (clampedValues_fieldsWithin t ws k)

/-- The values of a request that carries the words of an entry. -/
def TableEntry.carried (e : TableEntry) : List Int := e.values.map fun v => signed (BitVec.ofInt 16 v)

theorem TableEntry.carried_eq {e : TableEntry} (h : ∀ v ∈ e.values, fitsWord v) : e.carried = e.values :=
  (List.map_congr_left (g := id) fun v hv => signed_ofInt (h v hv)).trans (List.map_id _)

theorem TableEntry.carried_spec {e : TableEntry} (h : e.offerable) :
    fieldsWithin e.table.ranges e.carried ∧ e.table.parse e.carried = some e := by
  have hvalues (hf : fieldsWithin e.table.ranges e.values ∧ e.table.parse e.values = some e) :
      fieldsWithin e.table.ranges e.carried ∧ e.table.parse e.carried = some e := by
    rwa [TableEntry.carried_eq (fieldsWithin_fitsWord hf.1)]
  cases e with
  | node e =>
    obtain ⟨hw, hp⟩ := NodeEntry.words_spec h
    exact ⟨hw, congrArg (Option.map TableEntry.node) hp⟩
  | channel e =>
    obtain ⟨hw, hp⟩ := ChannelEntry.words_spec h
    exact hvalues ⟨hw, congrArg (Option.map TableEntry.channel) hp⟩
  | calibration e =>
    obtain ⟨hw, hp⟩ := CalibrationEntry.words_spec h
    exact hvalues ⟨hw, congrArg (Option.map TableEntry.calibration) hp⟩
  | fan e =>
    obtain ⟨hw, hp⟩ := FanEntry.words_spec h
    exact hvalues ⟨hw, congrArg (Option.map TableEntry.fan) hp⟩
  | door e =>
    obtain ⟨hw, hp⟩ := DoorEntry.words_spec h
    exact hvalues ⟨hw, congrArg (Option.map TableEntry.door) hp⟩
  | watch e =>
    obtain ⟨hw, hp⟩ := WatchEntry.words_spec h.1 h.2
    exact hvalues ⟨hw, congrArg (Option.map TableEntry.watch) hp⟩
  | neighbour e =>
    obtain ⟨hr, hstate, hcount⟩ := h
    obtain ⟨hw, hp⟩ := NeighbourRecord.words_spec hr hstate hcount
    exact hvalues ⟨hw, congrArg (Option.map TableEntry.neighbour) hp⟩
  | trigger e =>
    obtain ⟨hw, hp⟩ := TriggerEntry.words_spec h
    exact hvalues ⟨hw, congrArg (Option.map TableEntry.trigger) hp⟩
  | point e =>
    obtain ⟨hw, hp⟩ := PointEntry.words_spec h
    exact hvalues ⟨hw, congrArg (Option.map TableEntry.point) hp⟩

theorem offeredValues_words (e : TableEntry) : offeredValues e.table e.words 0 = e.carried := by
  rw [offeredValues, Nat.mul_zero, List.drop_zero, TableEntry.words_eq,
    List.take_of_length_le (by simp [TableEntry.length_values]), List.map_map]
  rfl

/-- A word's value as the word again. -/
theorem ofInt_signed (w : Word) : BitVec.ofInt 16 (signed w) = w := BitVec.ofInt_toInt

/-- The low bits of a word, kept (R193). -/
theorem ofInt_ofInt_toInt_low {n : Nat} (hn : n ≤ 16) (w : Word) :
    BitVec.ofInt 16 ((BitVec.ofInt n w.toInt).toNat : Int) = w &&& BitVec.ofNat 16 (2 ^ n - 1) := by
  refine BitVec.eq_of_toNat_eq ?_
  have hlt : (2 : Nat) ^ n ≤ 2 ^ 16 := Nat.pow_le_pow_right (by decide) hn
  have hmod : (BitVec.ofInt n w.toInt).toNat = w.toNat % 2 ^ n := by
    rw [BitVec.toNat_ofInt, BitVec.toInt_eq_toNat_bmod]
    have hdvd : ((2 ^ n : Nat) : Int) ∣ ((2 ^ 16 : Nat) : Int) := by exact_mod_cast Nat.pow_dvd_pow 2 hn
    have h : Int.bmod (w.toNat : Int) (2 ^ 16) % ((2 ^ n : Nat) : Int) = (w.toNat : Int) % ((2 ^ n : Nat) : Int) := by
      rw [← Int.emod_emod_of_dvd _ hdvd, Int.bmod_emod, Int.emod_emod_of_dvd _ hdvd]
    rw [h, ← Int.natCast_emod, Int.toNat_natCast]
  have hpos : 0 < 2 ^ n := Nat.two_pow_pos n
  have hw := w.isLt
  rw [hmod, BitVec.toNat_ofInt, BitVec.toNat_and, BitVec.toNat_ofNat,
    Nat.mod_eq_of_lt (show 2 ^ n - 1 < 2 ^ 16 by omega), Nat.and_two_pow_sub_one_eq_mod, ← Int.natCast_emod,
    Int.toNat_natCast]
  exact Nat.mod_eq_of_lt ((Nat.mod_le _ _).trans_lt hw)

/-- The clamp of each field of each table (R3, R4, R43, R82, R129, R136, R179, R193): the ranges in the order of the
fields. -/
theorem TableId.ranges_getElem? (range : TableId → Nat → Option (Int × Int))
    (hrange : ∀ u j, range u j =
      match u, j with
      | .node, 0 => some (1, 10)
      | .node, 1 => some (3, 20)
      | .node, 2 => some (0, 5)
      | .node, 4 => some (1, 15)
      | .channel, 2 => some (1, 100)
      | .channel, 3 | .channel, 4 => some (0, 4095)
      | .channel, 7 => some (0, 7)
      | .channel, 8 => some (1, 255)
      | .channel, 9 => some (0, 600)
      | .channel, 14 => some (0, 32767)
      | .channel, 15 | .channel, 16 => some (1, 15)
      | .channel, 17 => some (0, 3)
      | .calibration, 0 => some (2, 8)
      | .calibration, n => if n % 2 = 1 then some (0, 4095) else none
      | .fan, 1 => some (1, 500)
      | .fan, 2 => some (5, 600)
      | .fan, 3 => some (1, 30)
      | .fan, 4 => some (1, 100)
      | .fan, 5 => some (0, 500)
      | .fan, 8 => some (0, 1000)
      | .door, 1 => some (2, 30)
      | .door, 2 => some (5, 600)
      | .door, 4 => some (0, 1000)
      | .neighbour, 1 => some (2, 50)
      | .trigger, 4 => some (0, 3)
      | .point, 3 => some (0, 255)
      | _, _ => none)
    (t : TableId) {i : Nat} (hi : i < t.length) : (t.ranges[i]?).join = range t i := by
  rw [hrange]
  cases t <;> simp only [TableId.length] at hi <;> interval_cases i <;> rfl

/-- What the words of a parsed entry show of the request's (R120, R129, R193). -/
theorem TableId.words_of_parse {t : TableId} {ws : List Int} {e : TableEntry} (h : t.parse ws = some e)
    (hw : fieldsWithin t.ranges ws) {i : Nat} {w : Word} (hi : ws[i]? = some w.toInt) :
    e.words[i]? =
      some
        (if (t = .watch ∧ 7 ≤ i) ∨ (t = .neighbour ∧ 2 ≤ i) then 0
        else if t = .node ∧ i = 3 then w &&& 0xF
        else if t = .node ∧ i = 6 then w &&& 0xFF
        else w) := by
  have hsame (heq : e.values = ws) : e.words[i]? = some w := by
    rw [TableEntry.words_eq, heq, List.getElem?_map, hi]
    exact congrArg some (ofInt_signed w)
  cases t <;> simp only [TableId.parse, Option.map_eq_some_iff, reduceCtorEq] at h <;> obtain ⟨e, h, rfl⟩ := h
  case channel => simpa using hsame (ChannelEntry.parse_spec h hw).2
  case calibration => simpa using hsame (CalibrationEntry.parse_spec h hw).2
  case fan => simpa using hsame (FanEntry.parse_spec h hw).2
  case door => simpa using hsame (DoorEntry.parse_spec h hw).2
  case trigger => simpa using hsame (TriggerEntry.parse_spec h hw).2
  case point => simpa using hsame (PointEntry.parse_spec h hw).2
  case watch =>
    obtain ⟨-, hlen, hwords⟩ := WatchEntry.parse_spec h hw
    have hlt : i < 9 := hlen ▸ (List.getElem?_eq_some_iff.1 hi).1
    rw [TableEntry.words_eq, TableEntry.values, hwords, List.getElem?_map]
    by_cases h7 : 7 ≤ i
    · rcases (show i = 7 ∨ i = 8 by omega) with rfl | rfl <;> simp [hlen]
    · rw [List.getElem?_append_left (by simp [hlen]; omega), List.getElem?_take, if_pos (by omega), hi]
      simp [h7]
  case neighbour =>
    obtain ⟨-, hlen, hwords⟩ := NeighbourRecord.parse_spec h hw
    have hlt : i < 4 := hlen ▸ (List.getElem?_eq_some_iff.1 hi).1
    rw [TableEntry.words_eq, TableEntry.values, hwords, List.getElem?_map]
    by_cases h2 : 2 ≤ i
    · rcases (show i = 2 ∨ i = 3 by omega) with rfl | rfl <;> simp [hlen]
    · rw [List.getElem?_append_left (by simp [hlen]; omega), List.getElem?_take, if_pos (by omega), hi]
      simp [h2]
  case node =>
    obtain ⟨-, interval, timeout, stale, groups, precedence, low, high, rfl, hwords⟩ := NodeEntry.parse_spec h hw
    have hlt : i < 7 := (List.getElem?_eq_some_iff.1 hi).1
    rw [TableEntry.words_eq, TableEntry.values, hwords, List.getElem?_map]
    interval_cases i <;> simp only [List.getElem?_cons_succ, List.getElem?_cons_zero, Option.some.injEq] at hi <;> subst hi
    · simp
    · simp
    · simp
    · exact congrArg some (ofInt_ofInt_toInt_low (n := 4) (by decide) w)
    · simp
    · exact congrArg some ((ofInt_ofInt_toInt_low (n := 16) (by decide) w).trans BitVec.and_allOnes)
    · exact congrArg some (ofInt_ofInt_toInt_low (n := 8) (by decide) w)

/-- Settles O51, from the clamps field by field and from each table's parse and words. -/
theorem writtenEntriesReadBack : Obligations.WrittenEntriesReadBack := by
  unfold Obligations.WrittenEntriesReadBack
  refine ⟨fun t ws k i range hrange => ⟨getElem?_offeredValues t ws k i, ?_⟩, fun e he => ?_, fun t ws e hlen h => ?_⟩
  · rw [clampedValues, getElem?_clampFields]
    by_cases hi : i < t.length
    · rw [TableId.ranges_getElem? range hrange t hi]
      rfl
    · rw [getElem?_offeredValues, if_neg hi]
      rfl
  · obtain ⟨hw, hp⟩ := TableEntry.carried_spec he
    have hclamp : clampedValues e.table e.words 0 = e.carried := by
      rw [clampedValues, offeredValues_words, clampFields_of_fieldsWithin hw]
    refine ⟨by rw [TableEntry.words_eq, List.length_map, TableEntry.length_values], ?_, ?_⟩
    · rw [hclamp, offeredValues_words]
    · rw [hclamp, hp]
  · obtain ⟨htable, he⟩ := parse_clampedValues_spec h
    refine ⟨htable, he, ?_, fun i w hi => TableId.words_of_parse h (clampedValues_fieldsWithin t ws 0) hi⟩
    rw [TableEntry.words_eq, List.length_map, TableEntry.length_values, htable]

end Sys2Proof.Machine
end

section
/-! The rows of a table, and what storing the entries of a request makes of them (R192). -/

namespace Sys2Proof.Machine

/-- A table of the machine, read and written together with the keys offered meanwhile. -/
structure Rows (α : Type) (n : Nat) where
  get : State → Vector α n
  put : State → Vector α n → List Key → State
  get_put : ∀ s v ks, get (put s v ks) = v := by intros; rfl
  keys_put : ∀ s v ks, (put s v ks).keys = ks := by intros; rfl
  put_put : ∀ s v ks w ls, put (put s v ks) w ls = put s w ls := by intros; rfl
  put_get : ∀ s, put s (get s) s.keys = s := by intros; rfl

variable {α : Type} {n : Nat}

/-- A change of each row of a run by its own old value, each offering its keys. -/
theorem Rows.foldl_eq (R : Rows α n) {body : Fin n → State → State} {m : Fin n → α → α} {k : Fin n → α → List Key}
    (hbody : ∀ i s, body i s = R.put s ((R.get s).set i (m i (R.get s)[i])) (s.keys ++ k i (R.get s)[i]))
    (l : List (Fin n)) (hl : l.Nodup) (s : State) :
    l.foldl (fun s i => body i s) s =
      R.put s (tabulate fun i => if i ∈ l then m i (R.get s)[i] else (R.get s)[i])
        (s.keys ++ l.flatMap fun i => k i (R.get s)[i]) := by
  induction l generalizing s with
  | nil =>
    have hv : (tabulate fun i => (R.get s)[i.val]) = R.get s := by ext i hi; simp
    simp only [List.foldl_nil, List.not_mem_nil, if_false, List.flatMap_nil, List.append_nil, Fin.getElem_fin, hv, R.put_get]
  | cons i l ih =>
    obtain ⟨hi, hl⟩ := List.nodup_cons.mp hl
    have hother : ∀ j ∈ l, ((R.get s).set i (m i (R.get s)[i]))[j] = (R.get s)[j] := fun j hj =>
      Vector.getElem_set_ne _ _ fun e => hi (Fin.ext e ▸ hj)
    rw [List.foldl_cons, ih hl, hbody, R.put_put, R.get_put, R.keys_put]
    congr 1
    · ext j hj
      simp only [getElem_tabulate, List.mem_cons]
      by_cases e : i = ⟨j, hj⟩
      · subst e
        simp [hi]
      · have e' : (⟨j, hj⟩ : Fin n) ≠ i := Ne.symm e
        have hne : i.val ≠ j := fun e'' => e (Fin.ext e'')
        simp [e', hne]
    · rw [List.flatMap_cons, List.append_assoc]
      congr 2
      exact List.flatMap_congr fun j hj => by rw [hother j hj]

theorem Rows.forEach_eq (R : Rows α n) {body : Fin n → State → State} {m : Fin n → α → α} {k : Fin n → α → List Key}
    (hbody : ∀ i s, body i s = R.put s ((R.get s).set i (m i (R.get s)[i])) (s.keys ++ k i (R.get s)[i])) (s : State) :
    forEach body s =
      R.put s (tabulate fun i => m i (R.get s)[i]) (s.keys ++ (List.finRange n).flatMap fun i => k i (R.get s)[i]) := by
  unfold forEach
  rw [R.foldl_eq hbody _ (List.nodup_finRange n)]
  simp only [List.mem_finRange, if_true]

/-! ### A run of entries -/

theorem runFrom_cons (first : Nat) (e : TableEntry) (es : List TableEntry) :
    runFrom first (e :: es) = (first, e) :: runFrom (first + 1) es := by
  simp only [runFrom, List.zipIdx_cons, List.map_cons, Nat.add_zero, List.cons.injEq, true_and, Nat.zero_add]
  rw [List.zipIdx_succ, List.map_map]
  refine List.map_congr_left fun p _ => ?_
  simp only [Function.comp]
  rw [Nat.add_assoc, Nat.add_comm 1]

/-- The entry a run holds for a row. -/
def runEntry {β : Type} (first : Nat) (es : List β) (i : Nat) : Option β := if first ≤ i then es[i - first]? else none

theorem getElem_overlaid (old : Vector α n) (first : Nat) (es : List α) (i : Nat) (h : i < n) :
    (overlaid old first es)[i] = (runEntry first es i).getD old[i] := by
  simp only [overlaid, getElem_tabulate, runEntry, List.getD_eq_getElem?_getD, Fin.getElem_fin]
  split <;> rfl

theorem runEntry_cons {β : Type} (first : Nat) (e : β) (es : List β) (i : Nat) :
    runEntry first (e :: es) i = if i = first then some e else runEntry (first + 1) es i := by
  unfold runEntry
  by_cases h : i = first
  · simp [h]
  · by_cases h' : first ≤ i
    · have : i - first = (i - (first + 1)) + 1 := by omega
      rw [if_pos h', if_neg h, if_pos (by omega), this, List.getElem?_cons_succ]
    · rw [if_neg h', if_neg h, if_neg (by omega)]

theorem runEntry_of_lt {β : Type} {first i : Nat} (es : List β) (h : i < first) : runEntry first es i = none :=
  if_neg (by omega)

/-- A run of entries taken one after another is its rows taken in row order. -/
theorem foldl_runFrom (n : Nat) {σ : Type} (g : σ → Nat × TableEntry → σ) (first : Nat) (es : List TableEntry)
    (h : first + es.length ≤ n) (s : σ) :
    (runFrom first es).foldl g s =
      (List.finRange n).foldl (fun s i => ((runEntry first es i.val).map fun e => g s (i.val, e)).getD s) s := by
  have hlist : ∀ (es : List TableEntry) (first : Nat), first + es.length ≤ n →
      runFrom first es = (List.range n).filterMap fun i => (runEntry first es i).map fun e => (i, e) := by
    intro es first hn
    induction es generalizing first with
    | nil =>
      symm
      refine List.filterMap_eq_nil_iff.mpr fun i _ => ?_
      simp [runEntry]
    | cons e es ih =>
      rw [List.length_cons] at hn
      obtain ⟨m, rfl⟩ : ∃ m, n = first + (1 + m) := ⟨n - first - 1, by omega⟩
      have hlow : ∀ (es : List TableEntry) (b : Nat), first ≤ b →
          (List.range first).filterMap (fun i => (runEntry b es i).map fun e => (i, e)) = [] := fun es b hb =>
        List.filterMap_eq_nil_iff.mpr fun i hi => by
          rw [runEntry_of_lt es (Nat.lt_of_lt_of_le (List.mem_range.mp hi) hb)]
          rfl
      rw [runFrom_cons, ih (first + 1) (by omega), List.range_add, List.range_add, List.filterMap_append,
        List.filterMap_append, hlow _ _ (Nat.le_succ _), hlow _ _ le_rfl]
      simp only [List.range_one, List.map_cons, List.nil_append, List.filterMap_cons, Nat.add_zero, runEntry_cons, if_true, Option.map_some,
        runEntry_of_lt es (Nat.lt_succ_self first), Option.map_none, List.cons_append, List.cons.injEq, true_and]
      refine List.filterMap_congr fun i hi => ?_
      have hne : i ≠ first := by
        simp only [List.mem_map] at hi
        obtain ⟨_, ⟨j, _, rfl⟩, rfl⟩ := hi
        omega
      rw [if_neg hne]
  rw [hlist es first h, List.foldl_filterMap, ← List.map_coe_finRange_eq_range, List.foldl_map]
  refine List.foldl_ext _ _ s fun s i _ => ?_
  cases runEntry first es i.val <;> rfl

theorem runEntry_map {β γ : Type} (f : β → γ) (first : Nat) (es : List β) (i : Nat) :
    runEntry first (es.map f) i = (runEntry first es i).map f := by
  unfold runEntry
  split
  · exact List.getElem?_map ..
  · rfl

/-- A run of entries stored in a table whose rows each merge with the entry offered for them. -/
theorem Rows.storeBatch_eq (R : Rows α n) {wrap : α → TableEntry} {m : α → α → α} {k : Fin n → α → α → List Key}
    (hstore : ∀ s (i : Fin n) e,
      s.storeEntry i.val (wrap e) = R.put s ((R.get s).set i (m (R.get s)[i] e)) (s.keys ++ k i (R.get s)[i] e))
    (s : State) (first : Nat) (es : List α) (h : first + es.length ≤ n) :
    s.storeBatch (runFrom first (es.map wrap)) =
      R.put s (tabulate fun i => ((runEntry first es i.val).map (m (R.get s)[i])).getD (R.get s)[i])
        (s.keys ++ (List.finRange n).flatMap fun i => ((runEntry first es i.val).map (k i (R.get s)[i])).getD []) := by
  have hbody : ∀ (i : Fin n) (s : State),
      (((runEntry first (es.map wrap) i.val).map fun e => s.storeEntry i.val e).getD s) =
        R.put s ((R.get s).set i (((runEntry first es i.val).map (m (R.get s)[i])).getD (R.get s)[i]))
          (s.keys ++ ((runEntry first es i.val).map (k i (R.get s)[i])).getD []) := by
    intro i s
    rw [runEntry_map]
    cases runEntry first es i.val with
    | some e => exact hstore s i e
    | none =>
      have hset : (R.get s).set i.val (R.get s)[i] = R.get s := Vector.set_getElem_self ..
      simp only [Option.map_none, Option.getD_none, List.append_nil, hset]
      exact (R.put_get s).symm
  unfold State.storeBatch
  rw [foldl_runFrom n _ first (es.map wrap) (by simpa using h)]
  exact R.forEach_eq (m := fun i x => ((runEntry first es i.val).map (m x)).getD x)
    (k := fun i x => ((runEntry first es i.val).map (k i x)).getD []) hbody s

/-- A run of entries stored in a table that takes each as it stands. -/
theorem Rows.storeBatch_plain (R : Rows α n) {wrap : α → TableEntry}
    (hstore : ∀ s (i : Fin n) e, s.storeEntry i.val (wrap e) = R.put s ((R.get s).set i e) s.keys)
    (s : State) (first : Nat) (es : List α) (h : first + es.length ≤ n) :
    s.storeBatch (runFrom first (es.map wrap)) = R.put s (overlaid (R.get s) first es) s.keys := by
  have hrows : (tabulate fun i : Fin n => ((runEntry first es i.val).map fun e => e).getD (R.get s)[i]) =
      overlaid (R.get s) first es := by
    ext i hi
    simp [getElem_overlaid]
  have hkeys : ((List.finRange n).flatMap fun i => ((runEntry first es i.val).map fun _ => []).getD []) = ([] : List Key) :=
    List.flatMap_eq_nil_iff.mpr fun i _ => by cases runEntry first es i.val <;> rfl
  rw [R.storeBatch_eq (m := fun _ e => e) (k := fun _ _ _ => []) (by simpa using hstore) s first es h, hrows, hkeys,
    List.append_nil]

end Sys2Proof.Machine
end

section
/-! What storing a run of entries makes of each writable table (R192). -/

namespace Sys2Proof.Machine

def channelRows : Rows ChannelEntry 12 where
  get := State.channelTable
  put s v ks := { s with channelTable := v, keys := ks }

def calibrationRows : Rows CalibrationEntry 12 where
  get := State.calibrationTable
  put s v ks := { s with calibrationTable := v, keys := ks }

def fanRows : Rows FanEntry 6 where
  get := State.fanTable
  put s v ks := { s with fanTable := v, keys := ks }

def doorRows : Rows DoorEntry 6 where
  get := State.doorTable
  put s v ks := { s with doorTable := v, keys := ks }

def triggerRows : Rows TriggerEntry 64 where
  get := State.triggerTable
  put s v ks := { s with triggerTable := v, keys := ks }

def pointRows : Rows PointEntry 64 where
  get := State.pointTable
  put s v ks := { s with pointTable := v, keys := ks }

def watchRows : Rows WatchEntry 32 where
  get := State.watchTable
  put s v ks := { s with watchTable := v, keys := ks }

def neighbourRows : Rows NeighbourRecord 16 where
  get := State.neighbourTable
  put s v ks := { s with neighbourTable := v, keys := ks }

variable (s : State) (first : Nat)

theorem storeBatch_channel (es : List ChannelEntry) (h : first + es.length ≤ 12) :
    s.storeBatch (runFrom first (es.map .channel)) = { s with channelTable := overlaid s.channelTable first es } :=
  channelRows.storeBatch_plain (fun s i e => by simp only [State.storeEntry, i.isLt, dif_pos]; rfl) s first es h

theorem storeBatch_calibration (es : List CalibrationEntry) (h : first + es.length ≤ 12) :
    s.storeBatch (runFrom first (es.map .calibration)) =
      { s with calibrationTable := overlaid s.calibrationTable first es } :=
  calibrationRows.storeBatch_plain (fun s i e => by simp only [State.storeEntry, i.isLt, dif_pos]; rfl) s first es h

theorem storeBatch_fan (es : List FanEntry) (h : first + es.length ≤ 6) :
    s.storeBatch (runFrom first (es.map .fan)) = { s with fanTable := overlaid s.fanTable first es } :=
  fanRows.storeBatch_plain (fun s i e => by simp only [State.storeEntry, i.isLt, dif_pos]; rfl) s first es h

theorem storeBatch_door (es : List DoorEntry) (h : first + es.length ≤ 6) :
    s.storeBatch (runFrom first (es.map .door)) = { s with doorTable := overlaid s.doorTable first es } :=
  doorRows.storeBatch_plain (fun s i e => by simp only [State.storeEntry, i.isLt, dif_pos]; rfl) s first es h

theorem storeBatch_trigger (es : List TriggerEntry) (h : first + es.length ≤ 64) :
    s.storeBatch (runFrom first (es.map .trigger)) = { s with triggerTable := overlaid s.triggerTable first es } :=
  triggerRows.storeBatch_plain (fun s i e => by simp only [State.storeEntry, i.isLt, dif_pos]; rfl) s first es h

theorem storeBatch_point (es : List PointEntry) (h : first + es.length ≤ 64) :
    s.storeBatch (runFrom first (es.map .point)) = { s with pointTable := overlaid s.pointTable first es } :=
  pointRows.storeBatch_plain (fun s i e => by simp only [State.storeEntry, i.isLt, dif_pos]; rfl) s first es h

/-- A watch entry after a taken write of an entry (R121). -/
def WatchEntry.rewritten (old new : WatchEntry) : WatchEntry := if { old with latch := none } = new then old else new

/-- The key a taken write of watch entry i offers, if any (R121). -/
def WatchEntry.clearKeys (i : Fin 32) (old new : WatchEntry) : List Key :=
  if { old with latch := none } = new then [] else (old.latch.map (nodeKey .watchClear i.val)).toList

theorem writeWatchEntry_eq (i : Fin 32) (e : WatchEntry) :
    s.writeWatchEntry i e =
      { s with
        watchTable := s.watchTable.set i ((s.watchTable[i]).rewritten e)
        keys := s.keys ++ WatchEntry.clearKeys i s.watchTable[i] e } := by
  have hself : s.watchTable.set i s.watchTable[i] = s.watchTable := Vector.set_getElem_self ..
  unfold State.writeWatchEntry WatchEntry.rewritten WatchEntry.clearKeys
  generalize s.watchTable[i] = old at hself ⊢
  by_cases hc : { old with latch := none } = e
  · simp only [hc, if_true, hself, List.append_nil]
  · simp only [hc, if_false]
    cases old.latch with
    | none => simp
    | some a => rfl

theorem storeBatch_watch (es : List WatchEntry) (h : first + es.length ≤ 32) :
    s.storeBatch (runFrom first (es.map .watch)) =
      { s with
        watchTable :=
          tabulate fun i => ((runEntry first es i.val).map (s.watchTable[i]).rewritten).getD s.watchTable[i]
        keys :=
          s.keys ++ (List.finRange 32).flatMap fun i =>
            ((runEntry first es i.val).map (WatchEntry.clearKeys i s.watchTable[i])).getD [] } := by
  refine watchRows.storeBatch_eq (m := WatchEntry.rewritten) (k := WatchEntry.clearKeys) (fun s i e => ?_) s first es h
  simp only [State.storeEntry, i.isLt, dif_pos]
  exact writeWatchEntry_eq s i e

/-- A neighbour record after a taken write of a record (R129). -/
def NeighbourRecord.rewritten (old new : NeighbourRecord) : NeighbourRecord :=
  if old.address = new.address ∧ old.silenceLimit = new.silenceLimit then old else new

theorem writeNeighbour_eq (i : Fin 16) (e : NeighbourRecord) :
    s.writeNeighbour i e =
      { s with neighbourTable := s.neighbourTable.set i ((s.neighbourTable[i]).rewritten e) } := by
  have hself : s.neighbourTable.set i s.neighbourTable[i] = s.neighbourTable := Vector.set_getElem_self ..
  unfold State.writeNeighbour NeighbourRecord.rewritten
  generalize s.neighbourTable[i] = old at hself ⊢
  by_cases hc : old.address = e.address ∧ old.silenceLimit = e.silenceLimit
  · simp only [hc, and_self, if_true, hself]
  · simp only [hc, if_false]

theorem storeBatch_neighbour (es : List NeighbourRecord) (h : first + es.length ≤ 16) :
    s.storeBatch (runFrom first (es.map .neighbour)) =
      { s with
        neighbourTable :=
          tabulate fun i => ((runEntry first es i.val).map (s.neighbourTable[i]).rewritten).getD s.neighbourTable[i] } := by
  have hkeys : ((List.finRange 16).flatMap fun i => ((runEntry first es i.val).map fun _ => []).getD []) = ([] : List Key) :=
    List.flatMap_eq_nil_iff.mpr fun i _ => by cases runEntry first es i.val <;> rfl
  rw [neighbourRows.storeBatch_eq (m := NeighbourRecord.rewritten) (k := fun _ _ _ => []) (fun s i e => ?_) s first es h,
    hkeys, List.append_nil]
  · rfl
  · simp only [State.storeEntry, i.isLt, dif_pos, List.append_nil]
    exact writeNeighbour_eq s i e

/-! ### The entries of a request -/

/-- The entries of a request whose every entry parses are a run. -/
theorem offeredBatch_eq_runFrom (t : TableId) (count : Nat) (ws : List Word) (es : List TableEntry)
    (hlen : es.length = count) (hes : ∀ k < count, t.parse (clampedValues t ws k) = es[k]?) :
    offeredBatch t first count ws = runFrom first es := by
  subst hlen
  refine List.ext_getElem? fun k => ?_
  have hmap : offeredBatch t first es.length ws =
      (List.range es.length).filterMap fun k => (es[k]?).map fun e => (first + k, e) :=
    List.filterMap_congr fun k hk => by rw [hes k (List.mem_range.mp hk)]
  have hrun : runFrom first es = (List.range es.length).filterMap fun k => (es[k]?).map fun e => (first + k, e) := by
    clear hes hmap
    induction es generalizing first with
    | nil => rfl
    | cons e es ih =>
      rw [runFrom_cons, ih (first + 1), List.length_cons, List.range_succ_eq_map, List.filterMap_cons]
      simp only [List.getElem?_cons_zero, Option.map_some, Nat.add_zero, List.filterMap_map, List.cons.injEq, true_and]
      refine List.filterMap_congr fun i _ => ?_
      simp only [Function.comp, List.getElem?_cons_succ]
      rw [show first + 1 + i = first + i.succ by omega]
  rw [hmap, hrun]

/-- A request without a fault of its own holds an entry for each of its rows. -/
theorem exists_entries_of_firstFault_none {t : TableId} {count : Nat} {ws : List Word}
    (h : s.firstFault t first count ws = none) :
    ∃ es : List TableEntry, es.length = count ∧ ∀ k < count, t.parse (clampedValues t ws k) = es[k]? := by
  refine ⟨(List.range count).map fun k => (t.parse (clampedValues t ws k)).getD (.node .default), by simp, fun k hk => ?_⟩
  have hk' := List.find?_eq_none.mp h k (List.mem_range.mpr hk)
  rw [List.getElem?_map, List.getElem?_range hk]
  unfold State.entryFaulty at hk'
  cases hp : t.parse (clampedValues t ws k) with
  | none => simp [hp] at hk'
  | some e => simp [hp]

theorem exists_map_of_table {α : Type} {wrap : α → TableEntry} {t : TableId}
    (hwrap : ∀ e : TableEntry, e.table = t → ∃ x, e = wrap x) {es : List TableEntry} (h : ∀ e ∈ es, e.table = t) :
    ∃ xs : List α, es = xs.map wrap := by
  induction es with
  | nil => exact ⟨[], rfl⟩
  | cons e es ih =>
    obtain ⟨x, rfl⟩ := hwrap e (h e List.mem_cons_self)
    obtain ⟨xs, rfl⟩ := ih fun e' he' => h e' (List.mem_cons_of_mem _ he')
    exact ⟨x :: xs, rfl⟩

end Sys2Proof.Machine
end

section
/-! What a taken write keeps: every entry stays within its ranges, and no signal or address is held twice (R129, R178,
R192). -/

namespace Sys2Proof.Machine

variable {L : Limits} {s : State} {first count : Nat} {ws : List Word}

/-! ### The checks passed -/

/-- What a request that is taken has passed. -/
structure State.admits (s : State) (t : TableId) (first count : Nat) (ws : List Word) (es : List TableEntry) : Prop where
  limit : first + count ≤ t.limit
  faultless : s.firstFault t first count ws = none
  length : es.length = count
  parsed : ∀ k < count, t.parse (clampedValues t ws k) = es[k]?

theorem checkWrite_taken {image : Bool} {table : Nat} {c : Bool} {b : Batch}
    (h : s.checkWrite image table first count ws = .taken c b) :
    ∃ t es, s.admits t first count ws es ∧ b = runFrom first es := by
  unfold State.checkWrite at h
  split at h
  · cases h
  next t _ =>
    split_ifs at h with h1 h2 h3 h4
    unfold State.checkBatch at h
    cases hf : s.firstFault t first count ws with
    | some k => simp [hf] at h
    | none =>
      obtain ⟨es, hlen, hes⟩ := exists_entries_of_firstFault_none s first hf
      simp only [hf] at h
      split_ifs at h with h5
      simp only [WriteCheck.taken.injEq] at h
      exact ⟨t, es, ⟨by omega, hf, hlen, hes⟩, by rw [← h.2, offeredBatch_eq_runFrom first t count ws es hlen hes]⟩

theorem State.admits.entry {t : TableId} {es : List TableEntry} (h : s.admits t first count ws es) :
    ∀ e ∈ es, e.table = t ∧ e.offerable := by
  intro e he
  obtain ⟨k, hk, rfl⟩ := List.getElem_of_mem he
  have hp := h.parsed k (h.length ▸ hk)
  rw [List.getElem?_eq_getElem hk] at hp
  exact parse_clampedValues_spec hp

theorem State.admits.fits {t : TableId} {es : List TableEntry} (h : s.admits t first count ws es) :
    first + es.length ≤ t.limit := h.length ▸ h.limit

/-- No entry of a row that a request leaves alone, or of another row it writes, claims what an entry of it claims. -/
theorem State.admits.claim_ne {t : TableId} {es : List TableEntry} (h : s.admits t first count ws es) {i j : Nat}
    {e : TableEntry} (he : runEntry first es i = some e) {c : Claim} (hc : e.claim = some c) (hj : j < t.limit)
    (hij : j ≠ i) : s.claimAfter t first count ws j ≠ some c := by
  intro hclaim
  unfold runEntry at he
  split_ifs at he with hi
  obtain ⟨hk, rfl⟩ := List.getElem?_eq_some_iff.mp he
  have hk' : i - first < count := h.length ▸ hk
  have hnone := List.find?_eq_none.mp h.faultless (i - first) (List.mem_range.mpr hk')
  refine hnone ?_
  unfold State.entryFaulty
  rw [h.parsed _ hk', List.getElem?_eq_getElem hk]
  simp only [hc, Option.isSome_some, Bool.true_and, List.any_eq_true, List.mem_range, Bool.and_eq_true, decide_eq_true_eq]
  exact ⟨j, hj, by omega, hclaim⟩

/-! ### The rows after a run -/

theorem overlaid_forall {α : Type} {n : Nat} {P : α → Prop} {old : Vector α n} {es : List α} (first : Nat)
    (hold : ∀ i : Fin n, P old[i]) (hes : ∀ e ∈ es, P e) (i : Fin n) : P (overlaid old first es)[i] := by
  rw [Fin.getElem_fin, getElem_overlaid]
  unfold runEntry
  split_ifs with hi
  · cases he : es[i.val - first]? with
    | none => exact hold i
    | some e => exact hes e (List.mem_of_getElem? he)
  · exact hold i

theorem runEntry_mem {α : Type} {first i : Nat} {es : List α} {e : α} (h : runEntry first es i = some e) : e ∈ es := by
  unfold runEntry at h
  split_ifs at h
  exact List.mem_of_getElem? h

/-- The polarity offered for a point takes no part in its signal. -/
theorem PointEntry.parse_set_polarity {vs : List Int} {e : PointEntry} (h : PointEntry.parse vs = some e) :
    PointEntry.parse (vs.set 2 0) = some { e with polarity := .activeHigh } := by
  match vs with
  | [a, b, c, d] =>
    simp only [PointEntry.parse, Option.bind_eq_bind, Option.bind_eq_some_iff] at h
    obtain ⟨f, hf, p, -, h⟩ := h
    split_ifs at h with hi
    obtain rfl := Option.some.inj h
    simp only [PointEntry.parse, List.set_cons_succ, List.set_cons_zero, Option.bind_eq_bind, hf, Option.bind_some, hi,
      if_true]
    rfl
  | [] | [_] | [_, _] | [_, _, _] | _ :: _ :: _ :: _ :: _ :: _ => simp [PointEntry.parse] at h

theorem State.admits.claimAfter_of_run {t : TableId} {es : List TableEntry} (h : s.admits t first count ws es) {i : Nat}
    {e : TableEntry} (he : runEntry first es i = some e) (ht : t = .point ∨ t = .neighbour) :
    s.claimAfter t first count ws i = e.claim := by
  unfold runEntry at he
  split_ifs at he with hi
  obtain ⟨hk, hee⟩ := List.getElem?_eq_some_iff.mp he
  have hk' : i - first < count := h.length ▸ hk
  have hp := h.parsed _ hk'
  rw [List.getElem?_eq_getElem hk, hee] at hp
  unfold State.claimAfter TableId.offeredClaim
  rw [if_pos ⟨hi, by omega⟩]
  rcases ht with rfl | rfl
  · rw [if_pos rfl]
    simp only [TableId.parse, Option.map_eq_some_iff] at hp ⊢
    obtain ⟨x, hx, rfl⟩ := hp
    rw [PointEntry.parse_set_polarity hx]
    rfl
  · rw [if_neg (by decide), hp]
    rfl

theorem State.admits.claimAfter_of_not_run {t : TableId} {es : List TableEntry} (h : s.admits t first count ws es) {i : Nat}
    (he : runEntry first es i = none) : s.claimAfter t first count ws i = s.standingClaim t i := by
  unfold State.claimAfter
  refine if_neg fun ⟨h1, h2⟩ => ?_
  rw [runEntry, if_pos h1, List.getElem?_eq_none_iff, h.length] at he
  omega

/-- The signals that stand after a taken write are held once each. -/
theorem State.admits.signals_distinct {xs : List PointEntry} (h : s.admits .point first count ws (xs.map .point))
    (hs : s.claimsDistinct) (i j : Fin 64) (hi : ((overlaid s.pointTable first xs)[i]).signal.isSome = true)
    (hij : ((overlaid s.pointTable first xs)[i]).signal = ((overlaid s.pointTable first xs)[j]).signal) : i = j := by
  by_contra hne
  have hclaim : ∀ k : Fin 64, s.claimAfter .point first count ws k.val =
      ((overlaid s.pointTable first xs)[k]).signal.map .signal := fun k => by
    rw [Fin.getElem_fin, getElem_overlaid]
    cases hk : runEntry first xs k.val with
    | some e => exact h.claimAfter_of_run (by rw [runEntry_map, hk]; rfl) (.inl rfl)
    | none =>
      rw [h.claimAfter_of_not_run (by rw [runEntry_map, hk]; rfl), State.standingClaim, dif_pos k.isLt]
      rfl
  have hne' : i.val ≠ j.val := fun e => hne (Fin.ext e)
  obtain ⟨sig, hsig⟩ := Option.isSome_iff_exists.mp hi
  have hci := hclaim i
  have hcj := hclaim j
  rw [← hij, hsig] at hcj
  rw [hsig] at hci
  cases hri : runEntry first xs i.val with
  | some e =>
    have he : runEntry first (xs.map TableEntry.point) i.val = some (.point e) := by rw [runEntry_map, hri]; rfl
    exact h.claim_ne he ((h.claimAfter_of_run he (.inl rfl)).symm.trans hci) j.isLt hne'.symm hcj
  | none =>
    cases hrj : runEntry first xs j.val with
    | some e =>
      have he : runEntry first (xs.map TableEntry.point) j.val = some (.point e) := by rw [runEntry_map, hrj]; rfl
      exact h.claim_ne he ((h.claimAfter_of_run he (.inl rfl)).symm.trans hcj) i.isLt hne' hci
    | none =>
      rw [Fin.getElem_fin, Fin.getElem_fin, getElem_overlaid, getElem_overlaid, hri, hrj] at hij
      rw [Fin.getElem_fin, getElem_overlaid, hri] at hi
      exact hne (hs.1 i j hi hij)

/-- The addresses that stand after a taken write are held once each. -/
theorem State.admits.addresses_distinct {xs : List NeighbourRecord}
    (h : s.admits .neighbour first count ws (xs.map .neighbour)) (hs : s.claimsDistinct) (address : Fin 16 → Byte)
    (ha : ∀ i, address i = ((runEntry first xs i.val).getD s.neighbourTable[i]).address) (i j : Fin 16)
    (hi : address i ≠ 0) (hij : address i = address j) : i = j := by
  by_contra hne
  have hclaim : ∀ k : Fin 16, address k ≠ 0 → s.claimAfter .neighbour first count ws k.val = some (.address (address k)) := by
    intro k hk
    rw [ha] at hk ⊢
    cases hr : runEntry first xs k.val with
    | some e =>
      rw [hr] at hk
      rw [h.claimAfter_of_run (by rw [runEntry_map, hr]; rfl) (.inr rfl)]
      exact if_neg hk
    | none =>
      rw [hr] at hk
      rw [h.claimAfter_of_not_run (by rw [runEntry_map, hr]; rfl), State.standingClaim, dif_pos k.isLt]
      exact if_neg hk
  have hne' : i.val ≠ j.val := fun e => hne (Fin.ext e)
  have hci := hclaim i hi
  have hcj := hclaim j (hij ▸ hi)
  rw [← hij] at hcj
  cases hri : runEntry first xs i.val with
  | some e =>
    have he : runEntry first (xs.map TableEntry.neighbour) i.val = some (.neighbour e) := by rw [runEntry_map, hri]; rfl
    exact h.claim_ne he ((h.claimAfter_of_run he (.inr rfl)).symm.trans hci) j.isLt hne'.symm hcj
  | none =>
    cases hrj : runEntry first xs j.val with
    | some e =>
      have he : runEntry first (xs.map TableEntry.neighbour) j.val = some (.neighbour e) := by rw [runEntry_map, hrj]; rfl
      exact h.claim_ne he ((h.claimAfter_of_run he (.inr rfl)).symm.trans hcj) i.isLt hne' hci
    | none =>
      rw [ha, ha, hri, hrj] at hij
      rw [ha, hri] at hi
      exact hne (hs.2 i j hi hij)

/-! ### The store of a run -/

theorem WatchEntry.rewritten_inRange {x e : WatchEntry} (hx : x.inRange) (he : e.inRange) : (x.rewritten e).inRange := by
  unfold WatchEntry.rewritten
  split_ifs
  · exact hx
  · exact he

theorem NeighbourRecord.rewritten_inRange {x e : NeighbourRecord} (hx : x.inRange) (he : e.inRange) :
    (x.rewritten e).inRange := by
  unfold NeighbourRecord.rewritten
  split_ifs
  · exact hx
  · exact he

theorem NeighbourRecord.rewritten_address (x e : NeighbourRecord) : (x.rewritten e).address = e.address := by
  unfold NeighbourRecord.rewritten
  split_ifs with h
  · exact h.1
  · rfl

/-- A row merged with the entry a run holds for it. -/
theorem merged_forall {α : Type} {P : α → Prop} {first i : Nat} {es : List α} {old : α} {m : α → α → α} (hold : P old)
    (hes : ∀ e ∈ es, P (m old e)) : P (((runEntry first es i).map (m old)).getD old) := by
  cases he : runEntry first es i with
  | none => exact hold
  | some e => exact hes e (runEntry_mem he)

theorem storeBatch_keeps {t : TableId} {es : List TableEntry} (h : s.admits t first count ws es) :
    Keeps L s (s.storeBatch (runFrom first es)) := by
  have hentry := h.entry
  have hfits := h.fits
  have hoffer : ∀ {α : Type} {wrap : α → TableEntry} {xs : List α}, es = xs.map wrap → ∀ x ∈ xs, (wrap x).offerable :=
    fun he x hx => (hentry _ (he ▸ List.mem_map_of_mem hx)).2
  have htable : ∀ e ∈ es, e.table = t := fun e he => (hentry e he).1
  cases t with
  | node =>
    obtain ⟨xs, rfl⟩ := exists_map_of_table (wrap := .node) (fun e he => by cases e <;> cases he; exact ⟨_, rfl⟩) htable
    rw [List.length_map] at hfits
    match xs, hfits with
    | [], _ => exact .refl s
    | [x], hfits =>
      have hx : x.inRange := hoffer rfl x (List.mem_singleton_self x)
      have hkeep : Keeps L s { s with nodeTable := x } := { tables := fun hs => ⟨hx, hs.2⟩ }
      rw [show first = 0 from by simp only [List.length_singleton, TableId.limit] at hfits; omega]
      exact hkeep
    | _ :: _ :: _, hfits => exact absurd hfits (by simp only [List.length_cons, TableId.limit]; omega)
  | channel =>
    obtain ⟨xs, rfl⟩ := exists_map_of_table (wrap := .channel) (fun e he => by cases e <;> cases he; exact ⟨_, rfl⟩) htable
    rw [storeBatch_channel s first xs (List.length_map _ ▸ hfits)]
    have hrows := fun hs => overlaid_forall (P := ChannelEntry.inRange) (old := s.channelTable) first hs (hoffer rfl)
    exact { tables := fun ⟨h1, h2, h3⟩ => ⟨h1, fun n => ⟨hrows (fun n => (h2 n).1) n, (h2 n).2⟩, h3⟩ }
  | calibration =>
    obtain ⟨xs, rfl⟩ := exists_map_of_table (wrap := .calibration) (fun e he => by cases e <;> cases he; exact ⟨_, rfl⟩) htable
    rw [storeBatch_calibration s first xs (List.length_map _ ▸ hfits)]
    have hrows := fun hs => overlaid_forall (P := CalibrationEntry.inRange) (old := s.calibrationTable) first hs (hoffer rfl)
    exact { tables := fun ⟨h1, h2, h3⟩ => ⟨h1, fun n => ⟨(h2 n).1, hrows (fun n => (h2 n).2.1) n, (h2 n).2.2⟩, h3⟩ }
  | fan =>
    obtain ⟨xs, rfl⟩ := exists_map_of_table (wrap := .fan) (fun e he => by cases e <;> cases he; exact ⟨_, rfl⟩) htable
    rw [storeBatch_fan s first xs (List.length_map _ ▸ hfits)]
    have hrows := fun hs => overlaid_forall (P := FanEntry.inRange) (old := s.fanTable) first hs (hoffer rfl)
    have hspeeds := fun hs => overlaid_forall (P := fun e => e.minimumSpeed ≤ 500) (old := s.fanTable) first hs fun x hx =>
      (hoffer rfl x hx).2.2.2.2.1
    exact
      { tables := fun ⟨h1, h2, h3, h4⟩ => ⟨h1, h2, fun f => ⟨hrows (fun f => (h3 f).1) f, (h3 f).2⟩, h4⟩
        demands :=
          ⟨id, fun hs f => ⟨(hs f).1, (hs f).2.1, hspeeds (fun f => (hs f).2.2.1) f, (hs f).2.2.2⟩⟩ }
  | door =>
    obtain ⟨xs, rfl⟩ := exists_map_of_table (wrap := .door) (fun e he => by cases e <;> cases he; exact ⟨_, rfl⟩) htable
    rw [storeBatch_door s first xs (List.length_map _ ▸ hfits)]
    have hrows := fun hs => overlaid_forall (P := DoorEntry.inRange) (old := s.doorTable) first hs (hoffer rfl)
    exact { tables := fun ⟨h1, h2, h3, h4⟩ => ⟨h1, h2, fun f => ⟨(h3 f).1, hrows (fun f => (h3 f).2) f⟩, h4⟩ }
  | watch =>
    obtain ⟨xs, rfl⟩ := exists_map_of_table (wrap := .watch) (fun e he => by cases e <;> cases he; exact ⟨_, rfl⟩) htable
    rw [storeBatch_watch s first xs (List.length_map _ ▸ hfits)]
    refine { tables := fun ⟨h1, h2, h3, h4, h5⟩ => ⟨h1, h2, h3, fun i => ?_, h5⟩ }
    simp only [Fin.getElem_fin, getElem_tabulate]
    exact merged_forall (h4 i) fun e he => WatchEntry.rewritten_inRange (h4 i) (hoffer rfl e he).1
  | neighbour =>
    obtain ⟨xs, rfl⟩ := exists_map_of_table (wrap := .neighbour) (fun e he => by cases e <;> cases he; exact ⟨_, rfl⟩) htable
    rw [storeBatch_neighbour s first xs (List.length_map _ ▸ hfits)]
    refine { tables := fun ⟨h1, h2, h3, h4, h5, h6, h7⟩ => ⟨h1, h2, h3, h4, fun i => ?_, h6, h7.1, ?_⟩ }
    · simp only [Fin.getElem_fin, getElem_tabulate]
      exact merged_forall (h5 i) fun e he => NeighbourRecord.rewritten_inRange (h5 i) (hoffer rfl e he).1
    · refine h.addresses_distinct h7 _ fun i => ?_
      simp only [Fin.getElem_fin, getElem_tabulate]
      cases runEntry first xs i.val with
      | none => rfl
      | some e => exact NeighbourRecord.rewritten_address _ e
  | trigger =>
    obtain ⟨xs, rfl⟩ := exists_map_of_table (wrap := .trigger) (fun e he => by cases e <;> cases he; exact ⟨_, rfl⟩) htable
    rw [storeBatch_trigger s first xs (List.length_map _ ▸ hfits)]
    have hrows := fun hs => overlaid_forall (P := TriggerEntry.inRange) (old := s.triggerTable) first hs (hoffer rfl)
    exact
      { tables := fun ⟨h1, h2, h3, h4, h5, h6, h7⟩ =>
          ⟨h1, h2, h3, h4, h5, fun i => ⟨hrows (fun i => (h6 i).1) i, (h6 i).2⟩, h7⟩ }
  | point =>
    obtain ⟨xs, rfl⟩ := exists_map_of_table (wrap := .point) (fun e he => by cases e <;> cases he; exact ⟨_, rfl⟩) htable
    rw [storeBatch_point s first xs (List.length_map _ ▸ hfits)]
    have hrows := fun hs => overlaid_forall (P := PointEntry.inRange) (old := s.pointTable) first hs (hoffer rfl)
    exact
      { tables := fun ⟨h1, h2, h3, h4, h5, h6, h7⟩ =>
          ⟨h1, h2, h3, h4, h5, fun i => ⟨(h6 i).1, hrows (fun i => (h6 i).2) i⟩, h.signals_distinct h7, h7.2⟩ }
  | responseIndex | channelStatus | fanStatus | doorStatus | engineStatus | lineStatus =>
    have hnil : es = [] := List.eq_nil_iff_forall_not_mem.mpr fun e he => by have := htable e he; cases e <;> cases this
    rw [hnil]
    exact .refl s

end Sys2Proof.Machine
end

section
/-! What the commands of the sensing, watch and cycle blocks keep, and those of the fans, doors and points. -/

namespace Sys2Proof.Machine

variable {L : Limits}

/-! ### Sensing -/

theorem ChannelEntry.candidate_le (e : ChannelEntry) (v : Int) : e.candidate v ≤ 3 := by
  unfold ChannelEntry.candidate
  split_ifs <;> omega

theorem Channel.settles_level_le {e : ChannelEntry} {v : Int} {good : Bool} {c : Channel} (h : c.level ≤ 3) :
    (c.settles e v good).1.level ≤ 3 := by
  unfold Channel.settles
  dsimp only
  split_ifs
  · exact h
  · exact h
  · exact (Nat.sub_le c.level 1).trans h
  · exact h

theorem Channel.rises_level_le {e : ChannelEntry} {candidate : Nat} {c : Channel} (hc : candidate ≤ 3) (h : c.level ≤ 3) :
    (c.rises e candidate).1.level ≤ 3 := by
  unfold Channel.rises
  split_ifs
  · exact hc
  · exact h

theorem Channel.takesValues_level_le {e : ChannelEntry} {r : WindowResult} {c : Channel} (h : c.level ≤ 3) :
    (c.takesValues e r).1.level ≤ 3 := by
  unfold Channel.takesValues
  dsimp only
  split_ifs
  · exact h
  · exact Channel.rises_level_le (e.candidate_le _) h
  · exact Channel.settles_level_le h

theorem Channel.takesFailure_level_le {e : ChannelEntry} {c : Channel} (hf : e.failLevel ≤ 3) (h : c.level ≤ 3) :
    (c.takesFailure e).1.level ≤ 3 := by
  unfold Channel.takesFailure
  dsimp only
  split_ifs
  · exact hf
  · exact h
  · exact h
  · exact h

theorem Channel.evaluate_level_le {e : ChannelEntry} {r : WindowResult} {c : Channel} (hf : e.failLevel ≤ 3)
    (h : c.level ≤ 3) : (c.evaluate e r).1.level ≤ 3 := by
  unfold Channel.evaluate
  split
  · exact h
  · exact Channel.takesFailure_level_le hf h
  · exact Channel.takesValues_level_le h
  · exact Channel.takesValues_level_le h

theorem Channel.sample_level_le {e : ChannelEntry} {cal : CalibrationEntry} {x : Nat} {c : Channel} (hf : e.failLevel ≤ 3)
    (h : c.level ≤ 3) : (c.sample e cal x).1.level ≤ 3 := by
  unfold Channel.sample
  dsimp only
  by_cases hw : e.window ≤ (c.window.add e.t2 (smoothedOutput (smooth e.smoothing c.accumulator
      (if e.valid x = true then cal.calibrate x else fillValue e c.fill))) (e.valid x)).count
  · rw [if_pos hw]
    exact Channel.evaluate_level_le hf h
  · rw [if_neg hw]
    exact h

theorem levelReport_keeps (n : Fin 12) (s : State) (r : LevelReport) : Keeps L s (s.levelReport n r) := by
  cases r with
  | recovered => exact .offer s _
  | up | down | failed => exact .trans (.offer s _) (.latch _ _)

theorem sampleEvent_keeps (n : Fin 12) (x : Nat) (s : State) : Keeps L s (sampleEventEffect n x s) := by
  unfold sampleEventEffect
  exact .ite _ (fun _ => .trans (.setChannel s n _ Channel.sample_level_le) (foldl_keepsAll (levelReport_keeps n) _ _))
    fun _ => .refl s

theorem warmUpEnd_keeps (n : Fin 12) (s : State) : Keeps L s (warmUpEndEffect n s) := by
  unfold warmUpEndEffect
  exact .ite _ (fun _ => .setChannel s n _ fun _ h => h) fun _ => .refl s

theorem Channel.tick_level (c : Channel) : c.tick.level = c.level := by
  unfold Channel.tick
  split <;> rfl

theorem sampleTick_keeps (s : State) : Keeps L s (sampleTickEffect s) := by
  unfold sampleTickEffect
  exact .ite _
    (fun _ => forEach_keepsAll (fun n s => .setChannel s n _ fun _ h => (Channel.tick_level _).trans_le h) s) fun _ => .refl s

theorem disableChannel_keeps (n : Fin 12) (s : State) : Keeps L s (s.disableChannel n) := by
  unfold State.disableChannel
  have hoff : Keeps L s (s.setChannel n .off) := .setChannel s n _ fun _ _ => Nat.zero_le 3
  exact .ite _ (fun _ => .trans hoff (levelReport_keeps n _ _)) fun _ => hoff

theorem channelWritten_keeps (n : Fin 12) (old : ChannelEntry) (s : State) : Keeps L s (s.channelWritten n old) := by
  unfold State.channelWritten
  exact .ite _ (fun _ => .setChannel s n _ fun _ _ => Nat.zero_le 3) fun _ =>
    .ite _ (fun _ => disableChannel_keeps n s) fun _ => .refl s

theorem channelLoaded_keeps (n : Fin 12) (s : State) : Keeps L s (s.channelLoaded n) :=
  .setChannel s n _ fun _ _ => Nat.zero_le 3

theorem startChannel_keeps (n : Fin 12) (s : State) : Keeps L s (s.startChannel n) := by
  refine .setChannel s n _ fun _ _ => ?_
  split
  · exact Nat.zero_le 3
  · exact Nat.zero_le 3

/-! ### Watching -/

/-- A report entry given a latch: a notice entry is never latched (R128). -/
theorem setLatch_keeps (s : State) (i : Fin 32) (latch : Option Byte)
    (h : (s.watchTable[i]).kind = .report ∨ latch = none) : Keeps L s (s.setLatch i latch) where
  tables := fun ⟨h1, h2, h3, h4, h5⟩ => by
    refine ⟨h1, h2, h3, fun j => ?_, h5⟩
    change ((s.watchTable.set i.val { s.watchTable[i] with latch := latch })[j.val]).inRange
    by_cases e : i.val = j.val
    · obtain rfl := Fin.ext e
      rw [Vector.getElem_set_self]
      obtain ⟨g1, g2, g3, g4, g5, _⟩ := h4 i
      refine ⟨g1, g2, g3, g4, g5, fun hn => ?_⟩
      rcases h with h | h
      · exact absurd (h.symm.trans hn) (by decide)
      · exact h
    · rw [Vector.getElem_set_ne _ _ e]
      exact h4 j

theorem WatchEntry.applies_kind {w : WatchEntry} {kind : WatchKind} {source : Byte} (h : w.applies kind source = true) :
    w.kind = kind := by
  simp only [WatchEntry.applies, Bool.and_eq_true, decide_eq_true_eq] at h
  exact h.1.2

theorem watchReport_keeps (source : Byte) (payload : List Byte) (i : Fin 32) (s : State) :
    Keeps L s (s.watchReport source payload i) := by
  unfold State.watchReport
  dsimp only
  refine .ite _ (fun ha => ?_) fun _ => .refl s
  split
  · exact .ite _ (fun _ => .trans (setLatch_keeps s i _ (.inl (WatchEntry.applies_kind ha))) (.offer _ _)) fun _ => .refl s
  · exact .ite _ (fun _ => .trans (setLatch_keeps s i _ (.inr rfl)) (.offer _ _)) fun _ => .refl s

theorem watchNotice_keeps (source code : Byte) (i : Fin 32) (s : State) : Keeps L s (s.watchNotice source code i) := by
  unfold State.watchNotice
  exact .ite _ (fun _ => .offer s _) fun _ => .refl s

/-- A neighbour record given a state and a count that agree. -/
theorem setNeighbour_keeps (s : State) (i : Fin 16) (state : Presence) (count : Nat)
    (h : (s.neighbourTable[i]).inRange → ({ s.neighbourTable[i] with state := state, silenceCount := count }).inRange) :
    Keeps L s (s.setNeighbour i state count) where
  tables := fun ⟨h1, h2, h3, h4, h5, h6, h7, h8⟩ => by
    have hrow : ∀ j : Fin 16, (s.setNeighbour i state count).neighbourTable[j] =
        if i = j then { s.neighbourTable[i] with state := state, silenceCount := count } else s.neighbourTable[j] := by
      intro j
      simp only [State.setNeighbour, Fin.getElem_fin, Vector.getElem_set, Fin.ext_iff]
    have haddress : ∀ j : Fin 16, ((s.setNeighbour i state count).neighbourTable[j]).address = (s.neighbourTable[j]).address := by
      intro j
      rw [hrow]
      split
      next e => rw [e]
      next => rfl
    refine ⟨h1, h2, h3, h4, fun j => ?_, h6, h7, fun j k => ?_⟩
    · rw [hrow]
      split
      · exact h (h5 i)
      · exact h5 j
    · rw [haddress, haddress]
      exact h8 j k

theorem NeighbourRecord.refreshed_inRange {r : NeighbourRecord} (h : r.inRange) (ha : r.address ≠ 0) :
    ({ r with state := .present, silenceCount := 0 } : NeighbourRecord).inRange := by
  simp only [NeighbourRecord.inRange, within] at h ⊢
  simp only [ha, false_imp_iff, and_true, reduceCtorEq, false_iff]
  omega

theorem NeighbourRecord.counted_inRange {r : NeighbourRecord} (h : r.inRange) (ha : r.address ≠ 0)
    (hs : r.state ≠ .silent) (hc : ¬r.silenceLimit ≤ r.silenceCount + 1) :
    ({ r with state := r.state, silenceCount := r.silenceCount + 1 } : NeighbourRecord).inRange := by
  simp only [NeighbourRecord.inRange, within] at h ⊢
  simp only [ha, hs, false_imp_iff, and_true, false_iff]
  omega

theorem NeighbourRecord.silenced_inRange {r : NeighbourRecord} (h : r.inRange) (ha : r.address ≠ 0)
    (hs : r.state ≠ .silent) (hc : r.silenceLimit ≤ r.silenceCount + 1) :
    ({ r with state := .silent, silenceCount := r.silenceCount + 1 } : NeighbourRecord).inRange := by
  simp only [NeighbourRecord.inRange, within, hs, false_iff] at h ⊢
  simp only [ha, false_imp_iff, and_true, true_iff]
  omega

theorem refreshNeighbour_keeps (source : Byte) (i : Fin 16) (s : State) : Keeps L s (s.refreshNeighbour source i) := by
  unfold State.refreshNeighbour
  dsimp only
  refine .ite _ (fun ha => ?_) fun _ => .refl s
  have hpresent : Keeps L s (s.setNeighbour i .present 0) :=
    setNeighbour_keeps s i _ _ fun h => NeighbourRecord.refreshed_inRange h ha.1
  exact .ite _ (fun _ => .trans hpresent (.offer _ _)) fun _ => hpresent

theorem advanceNeighbour_keeps (i : Fin 16) (s : State) : Keeps L s (s.advanceNeighbour i) := by
  unfold State.advanceNeighbour
  dsimp only
  refine .ite _ (fun _ => .refl s) fun ha => ?_
  rw [not_or] at ha
  exact .ite _
    (fun hc => .trans (.trans (setNeighbour_keeps s i _ _ fun h => NeighbourRecord.silenced_inRange h ha.1 ha.2 hc)
      (.latch _ _)) (.offer _ _))
    fun hc => setNeighbour_keeps s i _ _ fun h => NeighbourRecord.counted_inRange h ha.1 ha.2 hc

theorem handReport_keeps (source : Byte) (origin : Word) (payload : List Byte) (s : State) :
    Keeps L s (s.handReport source origin payload) := by
  unfold State.handReport
  dsimp only
  have hr : Keeps L s (forEach (State.refreshNeighbour source) s) := forEach_keepsAll (refreshNeighbour_keeps source) s
  exact .trans
    (.ite _ (fun _ => .trans hr (forEach_keepsAll (watchReport_keeps source payload) _)) fun _ => hr) (.takeKeys _)

theorem handNotice_keeps (source : Byte) (payload : List Byte) (s : State) : Keeps L s (s.handNotice source payload) := by
  unfold State.handNotice
  split
  · exact .trans (forEach_keepsAll (watchNotice_keeps source _) s) (.takeKeys _)
  · exact .refl s

/-! ### The cycle and the ports -/

theorem cycleEvent_keeps (s : State) : Keeps L s s.cycleEvent := by
  unfold State.cycleEvent
  dsimp only
  have ha : Keeps L s (forEach State.advanceNeighbour
      (s.setCycle (s.cycle.advance s.nodeTable.reportInterval).1)).takeKeys :=
    .trans (.trans (.cycle s _) (forEach_keepsAll advanceNeighbour_keeps _)) (.takeKeys _)
  exact .ite _ (fun _ => .trans ha (.sendReport _)) fun _ => ha

theorem offerMark_keeps (number : Word) (s : State) : Keeps L s (s.offerMark number) := by
  unfold State.offerMark State.takeMark
  dsimp only
  have hn : Keeps L s (s.setCycle { s.cycle with number := number }) := .cycle s _
  exact .ite _ (fun _ => .refl s) fun _ =>
    .trans (.trans (.ite _ (fun _ => .trans hn (.latch _ _)) fun _ => hn) (.cycle _ _)) (cycleEvent_keeps _)

theorem markTimerExpiry_keeps (s : State) : Keeps L s (markTimerExpiryEffect s) := by
  unfold markTimerExpiryEffect
  exact .ite _
    (fun _ => .trans (.trans (.trans (.trans (.cycle s _) (.latch _ _)) (.cycle _ _)) (cycleEvent_keeps _)) (.cycle _ _))
    fun _ => .refl s

theorem localCycleTimerExpiry_keeps (s : State) : Keeps L s (localCycleTimerExpiryEffect s) := by
  unfold localCycleTimerExpiryEffect
  exact .ite _ (fun _ => .trans (.trans (.cycle s _) (cycleEvent_keeps _)) (.cycle _ _)) fun _ => .refl s

theorem PortState.goDown_bounded (p : PortState) : p.goDown.bounded :=
  ⟨Nat.zero_le _, Nat.zero_le _, Nat.zero_le _, Nat.zero_le _⟩

theorem linkTimerExpiry_keeps (p : Port) (s : State) : Keeps L s (linkTimerExpiryEffect p s) := by
  unfold linkTimerExpiryEffect
  exact .ite _ (fun _ => .trans (.port s p _ fun _ => PortState.goDown_bounded _) (.latch _ _)) fun _ => .refl s

theorem transmitEnd_keeps (p : Port) (s : State) : Keeps L s (transmitEndEffect p s) := by
  unfold transmitEndEffect
  exact .ite _ (fun _ => .port s p _ fun h => PortState.choose_bounded h) fun _ => .refl s

/-! ### Fans, doors and points -/

/-- A fan given a state with a ramp at rest and its direction kept, the demands being kept. -/
theorem Keeps.fan (s : State) (f : Fin 6) (x : Fan) (hd : KeepsDemands s (s.setFan f x))
    (hr : (s.fan f).rampAtRest → x.rampAtRest) (hk : L.direction → (s.fan f).keepsDirection x) :
    Keeps L s (s.setFan f x) where
  ramps hs := State.rampsAtRest_setFan hs f x (hr (hs f))
  demands := hd
  direction hL g := keepsDirection_setFan s f g x (hk hL)

theorem Fan.tick_responseSlots (e : FanEntry) (x : Fan) : (x.tick e).responseSlots = x.responseSlots := by
  unfold Fan.tick
  split
  case h_3 => split <;> rfl
  all_goals rfl

theorem Fan.tick_speedsInRange (e : FanEntry) {x : Fan} (h : x.speedsInRange) : (x.tick e).speedsInRange := by
  have hfall (r : Nat) (hr : r ≤ x.ramp) (st ct : Nat) (lt : Option Nat) (m : DriveMode) :
      ({ x with mode := m, ramp := r, startTimer := st, coastTimer := ct, lossTimer := lt } : Fan).speedsInRange :=
    Fan.sameDemands.speedsInRange (x := x) ⟨rfl, rfl, rfl, rfl, hr⟩ h
  unfold Fan.tick
  split
  case h_1 => exact hfall x.ramp le_rfl (x.startTimer - 1) x.coastTimer x.lossTimer x.mode
  case h_2 =>
    rw [Fan.speedsInRange_iff] at h ⊢
    refine ⟨?_, h.2⟩
    have hmax := rampToward_le_max (x.target.speed * 100) x.target.rate x.ramp
    dsimp only
    split_ifs <;> omega
  case h_3 =>
    split
    · exact hfall 0 (Nat.zero_le _) 0 (e.coastTime * 100) none .coasting
    · exact hfall (x.ramp - x.target.rate) (Nat.sub_le _ _) x.startTimer x.coastTimer (lossTick x.lossTimer) x.mode
  case h_4 => exact hfall x.ramp le_rfl x.startTimer (x.coastTimer - 1) x.lossTimer x.mode
  all_goals exact h

theorem Fan.tick_rampAtRest (e : FanEntry) {x : Fan} (h : x.rampAtRest) : (x.tick e).rampAtRest := by
  unfold Fan.tick
  split
  case h_2 hm => exact .inl hm
  case h_3 hm =>
    split
    · exact Fan.coast_rampAtRest e x
    · exact .inr (.inl hm)
  all_goals exact h

theorem Fan.tick_keepsDirection (e : FanEntry) (x : Fan) : x.keepsDirection (x.tick e) := by
  intro hx
  unfold Fan.tick
  split
  case h_3 =>
    split
    · exact ⟨(by decide : DriveMode.coasting ≠ .stopped), rfl⟩
    · exact ⟨hx, rfl⟩
  all_goals exact ⟨hx, rfl⟩

theorem rampTick_keeps (s : State) : Keeps L s (rampTickEffect s) := by
  unfold rampTickEffect
  refine .ite _ (fun _ => forEach_keepsAll (fun f s => .fan s f _ ?_ (Fan.tick_rampAtRest _)
    fun _ => Fan.tick_keepsDirection _ _) s) fun _ => .refl s
  exact .setFan s f _ (fun k _ hk => by rw [Fan.tick_responseSlots]; exact hk) fun _ => Fan.tick_speedsInRange _

theorem fanToFault_keeps (f : Fin 6) (s : State) : Keeps L s (s.fanToFault f) :=
  (fanToFault_moves f s).keeps (fanToFault_keepsDemands f s)

theorem startTimerExpiry_keeps (f : Fin 6) (s : State) : Keeps L s (startTimerExpiryEffect f s) := by
  unfold startTimerExpiryEffect
  exact .ite _ (fun _ => fanToFault_keeps f s) fun _ => .refl s

theorem lossTimerExpiry_keeps (f : Fin 6) (s : State) : Keeps L s (lossTimerExpiryEffect f s) := by
  unfold lossTimerExpiryEffect
  exact .ite _ (fun _ => fanToFault_keeps f s) fun _ => .refl s

/-- The end of coasting takes a drive through STOPPED, where its direction output may turn. -/
theorem coastTimerExpiry_keeps (hL : ¬L.direction) (f : Fin 6) (s : State) : Keeps L s (coastTimerExpiryEffect f s) := by
  unfold coastTimerExpiryEffect
  refine .ite _ (fun hm => .fan s f _ (.fan s f _ ?_) (fun hr => ?_) fun h => (hL h).elim) fun _ => .refl s
  · obtain ⟨h1, h2, h3, h4, h5⟩ :=
      Fan.sameDemands_act (s.fanEntry f) (s.fanConfirmed f) ({ s.fan f with mode := .stopped } : Fan)
    exact ⟨h1, h2, h3, h4, h5⟩
  · refine Fan.act_rampAtRest _ _ _ ?_
    rcases hr with h | h | h
    · exact absurd (h.symm.trans hm.1) (by decide)
    · exact absurd (h.symm.trans hm.1) (by decide)
    · exact .inr (.inr h)

theorem doorTick_keeps (s : State) : Keeps L s (doorTickEffect s) := by
  have hholds (x : Door) : x.tick.responseHolds = x.responseHolds := by
    unfold Door.tick
    split <;> rfl
  unfold doorTickEffect
  exact .ite _ (fun _ => forEach_keepsAll (fun d s => { demands := .door s d _ (hholds _) }) s) fun _ => .refl s

theorem travelTimerExpiry_keeps (d : Fin 6) (s : State) : Keeps L s (travelTimerExpiryEffect d s) := by
  unfold travelTimerExpiryEffect
  exact .ite _ (fun _ => (doorJams_moves d s).keeps (doorJams_keepsDemands d s)) fun _ => .refl s

theorem dwellExpiry_keeps (d : Fin 6) (s : State) : Keeps L s (dwellExpiryEffect d s) := by
  unfold dwellExpiryEffect
  exact .ite _ (fun _ => (doorStartsClosing_moves d s).keeps (doorStartsClosing_keepsDemands d s)) fun _ => .refl s

theorem reach_keeps (sig : Signal) (a : Bool) (s : State) : Keeps L s (s.reach sig a) :=
  (reach_moves sig a s).keeps (reach_keepsDemands sig a s)

theorem acceptAt_keeps (n : Fin 64) (s : State) : Keeps L s (s.acceptAt n) := by
  unfold State.acceptAt
  dsimp only
  split
  · exact .trans (.setPoint s n _) (.ite _ (fun _ => .refl _) fun _ => reach_keeps _ _ _)
  · exact .setPoint s n _

theorem pinChange_keeps (n : Fin 64) (high : Bool) (s : State) : Keeps L s (pinChangeEffect n high s) := by
  unfold pinChangeEffect
  exact .ite _ (fun _ => .refl s) fun _ => .ite _ (fun _ => .refl s) fun _ =>
    .trans (.setPoint s n _) (.ite _ (fun _ => acceptAt_keeps n _) fun _ => .refl _)

theorem pointTick_keeps (s : State) : Keeps L s (pointTickEffect s) := forEach_keepsAll (fun n s => .setPoint s n _) s

theorem filterAccept_keeps (n : Fin 64) (s : State) : Keeps L s (filterAcceptEffect n s) := by
  unfold filterAcceptEffect
  exact .ite _ (fun _ => acceptAt_keeps n s) fun _ => .refl s

/-! ### Table writes -/

theorem unitActs_keeps (before : State) (s : State) (p : Nat × TableEntry) : Keeps L s (State.unitActs before s p) := by
  unfold State.unitActs
  split
  · split
    · exact channelWritten_keeps _ _ s
    · exact .refl s
  · split
    · exact .ite _ (fun _ => .refl s) fun _ => (fanWritten_moves _ _ s).keeps (fanWritten_keepsDemands _ _ s)
    · exact .refl s
  · split
    · exact .ite _ (fun _ => .refl s) fun _ => (doorWritten_moves _ _ s).keeps (doorWritten_keepsDemands _ _ s)
    · exact .refl s
  · exact .ite _ (fun _ => .refl s) fun _ => (recomputeGallery_moves s).keeps (recomputeGallery_keepsDemands s)
  all_goals exact .refl s

theorem acceptLowered_keeps (before : State) (n : Fin 64) (s : State) : Keeps L s (State.acceptLowered before n s) := by
  unfold State.acceptLowered
  exact .ite _ (fun _ => .setPoint s n _) fun _ => .refl s

theorem pointsWritten_keeps (before s : State) : Keeps L s (State.pointsWritten before s) := by
  unfold State.pointsWritten
  have ha : Keeps L s (forEach (State.acceptLowered before) s) := forEach_keepsAll (acceptLowered_keeps before) s
  refine .ite _ (fun _ => .trans ha (forEach_keepsAll (fun n s => ?_) _)) fun _ => ha
  exact .trans ((handLoss_moves before n s).keeps (handLoss_keepsDemands before n s))
    ((handNow_moves before n _).keeps (handNow_keepsDemands before n _))

theorem takeBatch_keeps {t : TableId} {first count : Nat} {ws : List Word} {es : List TableEntry} {s : State}
    (h : s.admits t first count ws es) : Keeps L s (s.takeBatch (runFrom first es)) := by
  unfold State.takeBatch
  have ha : Keeps L s ((runFrom first es).foldl (State.unitActs s) (s.storeBatch (runFrom first es))) :=
    .trans (storeBatch_keeps h) (foldl_keepsAll (unitActs_keeps s) _ _)
  exact .ite _ (fun _ => .trans ha (pointsWritten_keeps s _)) fun _ => ha

theorem recordActs_keeps (s : State) (p : Nat × TableEntry) : Keeps L s (s.recordActs p) := by
  unfold State.recordActs
  split
  · split
    · exact channelLoaded_keeps _ s
    · exact .refl s
  · exact .refl s

theorem takeRecord_keeps {t : TableId} {first count : Nat} {ws : List Word} {es : List TableEntry} {s : State}
    (h : s.admits t first count ws es) : Keeps L s (s.takeRecord (runFrom first es)) := by
  unfold State.takeRecord
  have ha : Keeps L s { (runFrom first es).foldl State.recordActs (s.storeBatch (runFrom first es)) with keys := s.keys } :=
    .trans (.trans (storeBatch_keeps h) (foldl_keepsAll recordActs_keeps _ _)) (.keys _ _)
  exact .ite _ (fun _ => .trans (.trans ha (pointsWritten_keeps s _)) (.followPins _)) fun _ => ha

end Sys2Proof.Machine
end

section
/-! What the orders, the table accesses and the store's operations keep. -/

namespace Sys2Proof.Machine

variable {L : Limits}

/-! ### Orders -/

theorem order_keeps (req : Request) (kind : Word) (run : State → State × OrderResult) (s : State)
    (h : s.started = true → Keeps L s (run s).1) : Keeps L s (s.order req kind run) := by
  unfold State.order
  exact .ite _ (fun hs => .trans (.trans (h hs) (.settle _)) (.answerOrder _ _ _ _)) fun _ => .answerOrder s _ _ _

theorem fanSetDemand_speed_le (direction speed rate precedence : Word) :
    (fanSetDemand direction speed rate precedence).speed ≤ 1000 := by
  have := clamp_mem (by decide : (0 : Int) ≤ 1000) (signed speed)
  simp only [fanSetDemand]
  omega

theorem fanSet_keeps (fan direction speed rate precedence : Word) (s : State) :
    Keeps L s (s.fanSet fan direction speed rate precedence).1 := by
  unfold State.fanSet
  split
  next f _ =>
    refine (setLineSlot_moves f _ s).keeps (setLineSlot_keepsDemands f _ (fun x hx => ?_) s)
    obtain rfl := Option.some.inj hx
    exact fanSetDemand_speed_le _ _ _ _
  next => exact .refl s

theorem fanRelease_keeps (fan : Word) (s : State) : Keeps L s (s.fanRelease fan).1 := by
  unfold State.fanRelease
  split
  next f _ => exact (setLineSlot_moves f _ s).keeps (setLineSlot_keepsDemands f _ (fun x hx => by cases hx) s)
  next => exact .refl s

theorem fanReset_keeps (fan : Word) (s : State) : Keeps L s (s.fanReset fan).1 := by
  unfold State.fanReset
  split
  next f _ =>
    split
    · exact (Moves.drive s f _ (.coast _)).keeps (.drive s f _ (.coast _))
    · exact .refl s
  next => exact .refl s

theorem doorsTake_keeps {act : Fin 6 → State → State × Bool} (h : ∀ d s, Keeps L s (act d s).1) (ds : List (Fin 6))
    (s : State) : Keeps L s (doorsTake act ds s).1 := by
  induction ds generalizing s with
  | nil => exact .refl s
  | cons d ds ih => exact .trans (h d s) (ih _)

theorem doorOrder_keeps {act : Fin 6 → State → State × Bool} (h : ∀ d s, Keeps L s (act d s).1) (doors : Word)
    (s : State) : Keeps L s (s.doorOrder doors act).1 := by
  unfold State.doorOrder
  split
  · exact .refl s
  · exact doorsTake_keeps h _ s

theorem doorOrderOpen_keeps (d : Fin 6) (s : State) : Keeps L s (s.doorOrderOpen d).1 := by
  unfold State.doorOrderOpen
  split
  · exact .refl s
  · exact .refl s
  · exact (openRequest_moves d s).keeps (openRequest_keepsDemands d s)

theorem doorOrderHold_keeps (d : Fin 6) (s : State) : Keeps L s (s.doorOrderHold d).1 :=
  (writeLineHold_moves d s).keeps (writeLineHold_keepsDemands d s)

theorem doorOrderFree_keeps (d : Fin 6) (s : State) : Keeps L s (s.doorOrderFree d).1 :=
  (withdrawLineHold_moves d s).keeps (withdrawLineHold_keepsDemands d s)

theorem doorOrderClose_keeps (d : Fin 6) (s : State) : Keeps L s (s.doorOrderClose d).1 := by
  have hclose : Keeps L s (if (s.door d).held = true then (s, false) else (s.doorStartsClosing d, true)).1 := by
    split
    · exact .refl s
    · exact (doorStartsClosing_moves d s).keeps (doorStartsClosing_keepsDemands d s)
  unfold State.doorOrderClose
  split
  · exact .refl s
  · exact hclose
  · exact hclose
  · exact .refl s

theorem doorOrderServiceOff_keeps (d : Fin 6) (s : State) : Keeps L s (s.doorOrderServiceOff d).1 :=
  (Moves.door s d _).keeps (.door s d _)

theorem doorOrderServiceOn_keeps (d : Fin 6) (s : State) : Keeps L s (s.doorOrderServiceOn d).1 := by
  unfold State.doorOrderServiceOn
  split
  · exact (deriveDoor_moves d s).keeps (deriveDoor_keepsDemands d s)
  · exact .refl s

theorem doorServiceOff_keeps (doors : Word) (s : State) : Keeps L s (s.doorServiceOff doors).1 := by
  unfold State.doorServiceOff
  split
  · exact .refl s
  · exact doorOrder_keeps doorOrderServiceOff_keeps doors s

theorem incidentOn_keeps (s : State) : Keeps L s s.incidentOn.1 :=
  (enterIncident_moves s).keeps (enterIncident_keepsDemands s)

/-- A change of node mode begins by setting it, after which it enters INCIDENT or stays out of it. -/
theorem changeMode_keeps (hL : ¬L.incident) (m : NodeMode) (s : State) : Keeps L s (s.changeMode m) := by
  have hset : Keeps L s (s.setEngine { s.engine with mode := m }) := { incident := fun h => (hL h).elim }
  have hchange : (s.setEngine { s.engine with mode := m }).changeMode m = s.changeMode m := rfl
  exact hchange ▸ .trans hset ((changeMode_moves m _ fun h => h).keeps (changeMode_keepsDemands m _))

theorem incidentClear_keeps (hL : ¬L.incident) (s : State) : Keeps L s s.incidentClear.1 := by
  unfold State.incidentClear
  split
  · exact changeMode_keeps hL _ s
  · exact .refl s

theorem responseRun_keeps (number : Word) (s : State) : Keeps L s (s.responseRun number).1 := by
  unfold State.responseRun
  split
  next n _ => exact (dispatch_moves n s).keeps (dispatch_keepsDemands n s)
  next => exact .refl s

theorem responseCancel_keeps (number : Word) (s : State) : Keeps L s (s.responseCancel number).1 := by
  unfold State.responseCancel
  split
  next n _ => exact (cancel_moves n s).keeps (cancel_keepsDemands n s)
  next => exact .refl s

/-! ### Table accesses -/

theorem access_keeps (req : Request) (op a b : Word) (run : State → State × Answer) (s : State)
    (h : Keeps L s (run s).1) : Keeps L s (s.access req op a b run) := by
  unfold State.access
  exact .ite _ (fun _ => .trans h (.answerAccess _ _ _ _ _ _)) fun _ => .answerAccess s _ _ _ _ _

theorem readEntries_keeps (table first count : Nat) (s : State) : Keeps L s (s.readEntries table first count).1 := by
  unfold State.readEntries
  split <;> exact .refl s

theorem writeEntries_keeps (table first count : Nat) (data : List Byte) (s : State) :
    Keeps L s (s.writeEntries table first count data).1 := by
  unfold State.writeEntries
  split
  case h_6 c b hc =>
    obtain ⟨t, es, hadmits, rfl⟩ := checkWrite_taken hc
    have hsettled : Keeps L s (s.takeBatch (runFrom first es)).settle := (takeBatch_keeps hadmits).trans (.settle _)
    dsimp only
    exact hsettled
  all_goals exact .refl s

theorem writeLatches_keeps (ws : List Word) (i : Nat) (s : State) : Keeps L s (s.writeLatches i ws) := by
  induction ws generalizing i s with
  | nil => exact .refl s
  | cons w ws ih =>
    refine .trans ?_ (ih (i + 1) _)
    unfold State.writeLatch
    split
    · exact .setPoint s _ _
    · exact .refl s

theorem pointValueWrite_keeps (first count : Nat) (data : List Byte) (s : State) :
    Keeps L s (s.pointValueWrite first count data).1 := by
  unfold State.pointValueWrite
  dsimp only
  split
  · exact .refl s
  · split
    · exact .refl s
    · split
      · exact .refl s
      · split
        · exact .refl s
        · have hfollowed : Keeps L s (s.writeLatches first (wordsOf data)).followPins :=
            (writeLatches_keeps _ _ s).trans (.followPins _)
          dsimp only
          exact hfollowed

theorem latchMask_keeps (mask : BitVec 24) (s : State) : Keeps L s (s.latchMask mask) :=
  foldl_keepsAll (fun s k => .ite _ (fun _ => .latch s k) fun _ => .refl s) _ s

/-! ### The store -/

theorem sequenced_keeps (s : State) (run : State × Answer) (h : Keeps L s run.1) : Keeps L s (s.sequenced run).1 := by
  unfold State.sequenced
  split
  next hm =>
    refine .storeItems s _ rfl (fun h1 h2 => ⟨h1, h2⟩) (fun hc => ?_) fun _ hp => hp
    obtain ⟨h1, h2, h3, h4, h5⟩ := hc
    have hnone : s.store.operationPage = none := by
      by_contra hs
      have hb := h2 (Option.isSome_iff_ne_none.mpr hs)
      revert hb hm
      cases s.store.mode <;> decide
    refine ⟨rfl, fun hs => ?_, fun hm => (by rcases hm with h | h <;> cases h), fun _ => h4 (.inl hnone), h5⟩
    rw [show s.store.breakSequence.operationPage = s.store.operationPage from rfl, hnone] at hs
    cases hs
  next => exact h

theorem storeClearStatus_keeps (s : State) : Keeps L s s.storeClearStatus.1 := by
  refine sequenced_keeps s _ ?_
  split
  · exact .refl s
  · exact .storeItems s _ rfl (fun h1 h2 => ⟨h1, h2⟩) (fun hc => hc) fun _ hp => hp

theorem stagingWrite_keeps (offset : Nat) (data : List Byte) (s : State) : Keeps L s (s.stagingWrite offset data).1 := by
  refine sequenced_keeps s _ ?_
  split
  · exact .refl s
  · split
    · exact .refl s
    · exact .storeItems s _ rfl (fun h1 h2 => ⟨Mem.wf_writeBytes _ _ h1, h2⟩) (fun hc => hc) fun _ hp => hp

theorem StoreState.coherent_setup {x : StoreState} (h : x.coherent) (hb : ¬x.mode.busy = true) {mode : StoreMode}
    (hm : mode.setup = true) (p : Fin 48) : ({ x with mode := mode, setupPage := some p } : StoreState).coherent := by
  obtain ⟨h1, h2, h3, h4, h5⟩ := h
  have hnone : x.operationPage = none := by
    by_contra hs
    exact hb (h2 (Option.isSome_iff_ne_none.mpr hs))
  refine ⟨hm.symm, fun hs => ?_, fun he => ?_, fun _ => h4 (.inl hnone), h5⟩
  · rw [show ({ x with mode := mode, setupPage := some p } : StoreState).operationPage = x.operationPage from rfl, hnone] at hs
    cases hs
  · rcases he with rfl | rfl <;> cases hm

theorem storeSetup_keeps {mode : StoreMode} (hm : mode.setup = true) (page : Nat) (s : State) :
    Keeps L s (s.storeSetup mode page).1 := by
  refine sequenced_keeps s _ ?_
  split
  · exact .refl s
  next hb =>
    split
    · exact .refl s
    next p _ =>
      split
      · exact .refl s
      · exact .storeItems s _ rfl (fun h1 h2 => ⟨h1, h2⟩) (fun hc => StoreState.coherent_setup hc hb hm p) fun _ hp => hp

theorem StoreState.coherent_beginErase (x : StoreState) (p : Fin 48) : (x.beginErase p).coherent :=
  ⟨rfl, fun _ => rfl, fun _ => rfl, fun _ => rfl, Nat.zero_le _⟩

theorem StoreState.coherent_beginProgram {x : StoreState} (h : x.coherent) (hb : ¬x.mode.busy = true) (p : Fin 48) :
    (x.beginProgram p).coherent := by
  obtain ⟨h1, h2, h3, h4, h5⟩ := h
  have hnone : x.operationPage = none := by
    by_contra hs
    exact hb (h2 (Option.isSome_iff_ne_none.mpr hs))
  exact ⟨rfl, fun _ => rfl, fun _ => rfl, fun _ => h4 (.inl hnone), h5⟩

theorem StoreState.coherent_aborted (x : StoreState) : x.aborted.coherent := by
  unfold StoreState.aborted StoreState.coherent
  dsimp only
  split
  · exact ⟨rfl, (fun h => nomatch h), fun h => (by rcases h with h | h <;> cases h), fun _ => rfl, Nat.zero_le _⟩
  · exact ⟨rfl, (fun h => nomatch h), fun h => (by rcases h with h | h <;> cases h), fun _ => rfl, Nat.zero_le _⟩

theorem StoreState.coherent_ready {x : StoreState} (h : x.coherent) (hb : ¬x.mode.busy = true) (sequence protect : Bool) :
    ({ x with mode := .ready, setupPage := none, sequenceError := sequence, protectError := protect } : StoreState).coherent := by
  obtain ⟨h1, h2, h3, h4, h5⟩ := h
  have hnone : x.operationPage = none := by
    by_contra hs
    exact hb (h2 (Option.isSome_iff_ne_none.mpr hs))
  refine ⟨rfl, fun hs => ?_, fun he => (by rcases he with h | h <;> cases h), fun _ => h4 (.inl hnone), h5⟩
  rw [show ({ x with mode := .ready, setupPage := none, sequenceError := sequence, protectError := protect } :
    StoreState).operationPage = x.operationPage from rfl, hnone] at hs
  cases hs

theorem beginOperation_keeps (hL : ¬L.operation) (p : Fin 48) (s : State) (hb : ¬s.store.mode.busy = true) :
    Keeps L s (s.beginOperation p) := by
  unfold State.beginOperation
  dsimp only
  have hbegun : Keeps L s
      (s.setStore (if s.store.mode = .eraseSet then s.store.beginErase p else s.store.beginProgram p)) := by
    split
    · exact .store s _ (fun h1 h2 h3 => ⟨h1, h2, h3⟩) (fun _ => StoreState.coherent_beginErase _ p)
        (fun h => (hL h).elim) fun h => (hL h).elim
    · exact .store s _ (fun h1 h2 _ => ⟨h1, h2, h2⟩) (fun hc => StoreState.coherent_beginProgram hc hb p)
        (fun h => (hL h).elim) fun h => (hL h).elim
  refine .trans (.ite _ (fun _ => hbegun) fun _ => .trans (.trans hbegun (.store _ _ ?_ ?_ ?_ ?_)) (.latch _ _))
    ((confirmTold_moves p _).keeps (confirmTold_keepsDemands p _))
  · exact fun h1 h2 _ => ⟨h1, h2, rfl⟩
  · exact fun _ => StoreState.coherent_aborted _
  · exact fun h => (hL h).elim
  · exact fun h => (hL h).elim

theorem storeConfirm_keeps (hL : ¬L.operation) (page : Nat) (s : State) : Keeps L s (s.storeConfirm page).1 := by
  have hbreak (hb : ¬s.store.mode.busy = true) : Keeps L s (s.setStore s.store.breakSequence) :=
    .storeItems s _ rfl (fun h1 h2 => ⟨h1, h2⟩) (fun hc => StoreState.coherent_ready hc hb true s.store.protectError)
      fun _ hp => hp
  unfold State.storeConfirm
  split
  · exact .refl s
  next hb =>
    split
    · exact .storeItems s _ rfl (fun h1 h2 => ⟨h1, h2⟩) (fun hc => hc) fun _ hp => hp
    · split
      · exact hbreak hb
      · split
        · exact hbreak hb
        · split
          · exact .storeItems s _ rfl (fun h1 h2 => ⟨h1, h2⟩)
              (fun hc => StoreState.coherent_ready hc hb s.store.sequenceError true) fun _ hp => hp
          · exact beginOperation_keeps hL _ s hb

/-! ### Operations of the store -/

theorem length_afterPulse (old cells : List Byte) : (afterPulse old cells).length = 512 := by simp [afterPulse]

theorem StoreState.coherent_operationOver {x : StoreState} (h : x.coherent) (hb : x.mode.setup = false) (erase program : Bool) :
    ({ x.operationOver with eraseError := erase, programError := program } : StoreState).coherent := by
  have hsetup : x.setupPage.isSome = false := h.1.trans hb
  exact ⟨hsetup, (fun h => nomatch h), fun h => (by rcases h with h | h <;> cases h), fun _ => rfl, Nat.zero_le _⟩

/-- The operation page given new bytes. -/
theorem Keeps.writePage (s : State) (p : Fin 48) (bytes : List Byte) (hop : s.store.operationPage = some p)
    (hlen : bytes.length = 512) : Keeps L s (s.setStore (s.store.setPage p bytes)) :=
  .setPage s p bytes s.freeCount hop hlen

/-- The operation page given new bytes and the operation ended, whatever errors it leaves. -/
theorem Keeps.pageDone (s : State) (p : Fin 48) (bytes : List Byte) (hop : s.store.operationPage = some p)
    (hlen : bytes.length = 512) (hb : s.store.mode.setup = false) (erase program : Bool) :
    Keeps L s (s.setStore
      { (s.store.setPage p bytes).operationOver with eraseError := erase, programError := program }) :=
  (Keeps.writePage s p bytes hop hlen).trans
    (.storeItems (s.setStore (s.store.setPage p bytes)) _ rfl (fun h1 _ => ⟨h1, rfl⟩)
      (fun hc => StoreState.coherent_operationOver hc hb erase program) fun _ hp => by cases hp)

theorem erasePulseEnd_keeps (cells : List Byte) (s : State) : Keeps L s (erasePulseEndEffect cells s) := by
  unfold erasePulseEndEffect
  split
  next p hmode hop hservice =>
    have hsetup : s.store.mode.setup = false := by rw [hmode]; rfl
    have hlen := length_afterPulse (s.store.page p) cells
    generalize afterPulse (s.store.page p) cells = bytes at hlen ⊢
    have hdone (erase : Bool) := Keeps.pageDone (L := L) s p bytes hop hlen hsetup erase s.store.programError
    refine .ite _ (fun _ => (hdone s.store.eraseError).trans (.latch _ _)) fun _ => .ite _ (fun h7 => ?_) fun _ =>
      (hdone true).trans (.latch _ _)
    refine (Keeps.writePage s p bytes hop hlen).trans
      (.storeItems (s.setStore (s.store.setPage p bytes)) _ rfl (fun h1 h2 => ⟨h1, h2⟩) ?_ fun _ hp => hp)
    rintro ⟨h1, h2, h3, h4, h5⟩
    refine ⟨h1, h2, h3, fun h => ?_, by change s.store.pulses + 1 ≤ 7; omega⟩
    rcases h with h | h
    · exact absurd (hop.symm.trans h) (by simp)
    · exact absurd (hmode.symm.trans h) (by decide)
  next => exact .refl s

theorem length_programmed (x : StoreState) (p : Fin 48) : (x.programmed p).length = 512 := by
  simp [StoreState.programmed, StoreState.asked]

theorem rebuildFor_keeps (p : Fin 48) (s : State) : Keeps L s (s.rebuildFor p) := by
  unfold State.rebuildFor
  exact .ite _ (fun _ => {}) fun _ => .refl s

theorem serveWaiting_keeps (s : State) : Keeps L s s.serveWaiting := (serveWaiting_moves s).keeps (serveWaiting_keepsDemands s)

theorem programCompletion_keeps (s : State) : Keeps L s (programCompletionEffect s) := by
  unfold programCompletionEffect
  split
  · exact .refl s
  next p hmode hop _ =>
    have hsetup : s.store.mode.setup = false := by rw [hmode]; rfl
    have hlen := length_programmed s.store p
    generalize s.store.programmed p = bytes at hlen ⊢
    have hdone (program : Bool) := Keeps.pageDone (L := L) s p bytes hop hlen hsetup s.store.eraseError program
    refine .trans (.trans ?_ (rebuildFor_keeps p _)) (serveWaiting_keeps _)
    exact .ite _ (fun _ => (hdone s.store.programError).trans (.latch _ _)) fun _ => (hdone true).trans (.latch _ _)
  next => exact .refl s

theorem length_freeBytes (s : State) (n : Nat) : (s.freeBytes n).length = n := by simp [State.freeBytes]

theorem scramblePage_keeps (s : State) (q : Option (Fin 48)) (hq : s.store.operationPage = q) :
    Keeps L s (s.scramblePage q) := by
  unfold State.scramblePage
  split
  next p => exact .setPage s p _ _ hq (length_freeBytes s 512)
  next => exact .refl s

theorem partErase_keeps (s : State) : Keeps L s (s.partErase s.store.operationPage) := by
  unfold State.partErase
  split
  next p hop => exact .setPage s p _ _ hop (by simp [length_freeBytes])
  next => exact .refl s

theorem Keeps.aborted (s : State) : Keeps L s (s.setStore s.store.aborted) :=
  .storeItems s _ rfl (fun h1 _ => ⟨h1, rfl⟩) (fun _ => StoreState.coherent_aborted _) fun _ hp => by cases hp

theorem smonChange_keeps (withinLimit : Bool) (s : State) : Keeps L s (smonChangeEffect withinLimit s) := by
  unfold smonChangeEffect
  dsimp only
  have hseen : Keeps L s { s with supplyOk := withinLimit } := .supply s withinLimit
  have hscrambled : Keeps L s (({ s with supplyOk := withinLimit } : State).scramblePage s.store.operationPage) :=
    hseen.trans (scramblePage_keeps _ _ rfl)
  generalize ({ s with supplyOk := withinLimit } : State).scramblePage s.store.operationPage = scrambled at hscrambled ⊢
  exact .ite _ (fun _ => .refl s) fun _ => .ite _
    (fun _ => ((hscrambled.trans (.aborted _)).trans (.latch _ _)).trans (serveWaiting_keeps _)) fun _ => hseen

theorem partErase_mode (s : State) (p : Option (Fin 48)) : (s.partErase p).store.mode = s.store.mode := by
  have hset (p : Fin 48) (bytes : List Byte) : (s.store.setPage p bytes).mode = s.store.mode := rfl
  cases p with
  | none => rfl
  | some p => exact hset p _

theorem beginRead_keeps (s : State) (r : SlotRequest) : Keeps L s (s.beginRead r) :=
  .storeItems s _ rfl (fun h1 h2 => ⟨h1, h2⟩) (fun hc => hc) fun _ hp => hp

theorem eraseSuspend_keeps (s : State) : Keeps L s (eraseSuspendEffect s) := by
  unfold eraseSuspendEffect
  split
  next n dropped hmode _ =>
    have hm := partErase_mode s s.store.operationPage
    have hbroken := partErase_keeps (L := L) s
    generalize s.partErase s.store.operationPage = broken at hm hbroken ⊢
    refine (hbroken.trans (.storeItems broken { broken.store with mode := .eraseSuspended } rfl
      (fun h1 h2 => ⟨h1, h2⟩) ?_ fun _ hp => hp)).trans (beginRead_keeps _ _)
    rintro ⟨h1, h2, h3, h4, h5⟩
    rw [hm, hmode] at h1
    refine ⟨h1, fun _ => rfl, fun h => (by rcases h with h | h <;> cases h), fun h => ?_, h5⟩
    rcases h with h | h
    · exact h4 (.inl h)
    · cases h
  next => exact .refl s

end Sys2Proof.Machine
end

section
/-! What the resets, start-up load and arriving frames keep. -/

namespace Sys2Proof.Machine

variable {L : Limits}

/-! ### Resets -/

theorem NodeEntry.default_inRange : NodeEntry.default.inRange := by
  simp [NodeEntry.inRange, NodeEntry.default, within]

theorem ChannelEntry.default_inRange : ChannelEntry.default.inRange := by
  simp [ChannelEntry.inRange, ChannelEntry.default, within, fitsWord]

theorem CalibrationEntry.default_inRange : CalibrationEntry.default.inRange := by
  refine ⟨⟨by decide, by decide⟩, by decide, fun i => ?_⟩
  simp only [CalibrationEntry.default, Fin.getElem_fin, getElem_tabulate, fitsWord, within]
  split <;> decide

theorem FanEntry.default_inRange : FanEntry.default.inRange := by
  simp [FanEntry.inRange, FanEntry.default, within]

theorem DoorEntry.default_inRange : DoorEntry.default.inRange := by
  simp [DoorEntry.inRange, DoorEntry.default, within]

theorem WatchEntry.default_inRange : WatchEntry.default.inRange := by
  simp [WatchEntry.inRange, WatchEntry.default, within, fitsWord, TestField.indexOk]

theorem NeighbourRecord.default_inRange : NeighbourRecord.default.inRange := by
  simp [NeighbourRecord.inRange, NeighbourRecord.default, within]

theorem TriggerEntry.default_inRange : TriggerEntry.default.inRange := by
  simp [TriggerEntry.inRange, TriggerEntry.default, within, fitsWord, selectorOk]

theorem PointEntry.default_inRange : PointEntry.default.inRange := by
  simp [PointEntry.inRange, PointEntry.default, within, fitsWord, PointFunction.indexed, PointFunction.code]

/-- A machine whose tables are the defaults but for a Point Table in range that holds no signal twice. -/
theorem tablesInRange_of_reset {t : State} (hn : t.nodeTable = .default)
    (hc : t.channelTable = Vector.replicate 12 .default) (hk : t.calibrationTable = Vector.replicate 12 .default)
    (hx : t.channels = Vector.replicate 12 .off) (hf : t.fanTable = Vector.replicate 6 .default)
    (hd : t.doorTable = Vector.replicate 6 .default) (hw : t.watchTable = Vector.replicate 32 .default)
    (hb : t.neighbourTable = Vector.replicate 16 .default) (hg : t.triggerTable = Vector.replicate 64 .default)
    (hp : ∀ i : Fin 64, (t.pointTable[i]).inRange)
    (hs : ∀ i j : Fin 64, (t.pointTable[i]).signal.isSome = true → (t.pointTable[i]).signal = (t.pointTable[j]).signal →
      i = j) : t.tablesInRange := by
  simp only [State.tablesInRange, State.claimsDistinct, hn, hc, hk, hx, hf, hd, hw, hb, hg, Fin.getElem_fin,
    Vector.getElem_replicate]
  exact ⟨NodeEntry.default_inRange,
    fun _ => ⟨ChannelEntry.default_inRange, CalibrationEntry.default_inRange, Nat.zero_le _⟩,
    fun _ => ⟨FanEntry.default_inRange, DoorEntry.default_inRange⟩, fun _ => WatchEntry.default_inRange,
    fun _ => NeighbourRecord.default_inRange, fun i => ⟨TriggerEntry.default_inRange, hp i⟩, hs,
    fun _ _ h => absurd rfl h⟩

theorem reset_signal (i : Fin 64) : (State.reset.pointTable[i]).signal = none := by
  rw [show State.reset.pointTable = Vector.replicate 64 .default from rfl, Fin.getElem_fin, Vector.getElem_replicate]
  rfl

theorem reset_tablesInRange : State.reset.tablesInRange :=
  tablesInRange_of_reset rfl rfl rfl rfl rfl rfl rfl rfl rfl
    (fun i => by
      rw [show State.reset.pointTable = Vector.replicate 64 .default from rfl, Fin.getElem_fin, Vector.getElem_replicate]
      exact PointEntry.default_inRange)
    fun i _ h => by rw [reset_signal] at h; cases h

/-- Fans that hold no demand, at rest. -/
theorem speedsInRange_of_reset {t : State} (hf : ∀ f : Fin 6, ∃ d, t.fan f = { Fan.reset with direction := d })
    (ht : t.fanTable = Vector.replicate 6 .default) : t.speedsInRange := by
  rw [speedsInRange_iff]
  intro f
  obtain ⟨d, hd⟩ := hf f
  rw [State.fanEntry, ht, hd, Fin.getElem_fin, Vector.getElem_replicate]
  refine ⟨(Fan.speedsInRange_iff _).mpr ?_, Nat.zero_le _⟩
  simp [Fan.reset, Target.reset]

theorem demandsActive_of_reset {t : State} (hf : ∀ f : Fin 6, ∃ d, t.fan f = { Fan.reset with direction := d })
    (hd : t.doors = Vector.replicate 6 .reset) : t.demandsActive := by
  intro k _ u
  obtain ⟨d, h⟩ := hf u
  rw [show t.fans[u] = t.fan u from rfl, h, hd, Fin.getElem_fin, Fin.getElem_fin, Fin.getElem_fin, Vector.getElem_replicate]
  exact ⟨Vector.getElem_replicate .., Vector.getElem_replicate ..⟩

theorem reset_orderly : EngineState.reset.orderly := by
  have hactive : EngineState.reset.numbers = [] := by decide
  exact ⟨Nat.zero_le _, List.Pairwise.nil, hactive ▸ List.nodup_nil⟩

theorem PortState.reset_bounded : PortState.reset.bounded :=
  ⟨Nat.zero_le _, Nat.zero_le _, Nat.zero_le _, Nat.zero_le _⟩

theorem StoreState.coherent_poweredOn (x : StoreState) : x.poweredOn.coherent :=
  ⟨rfl, (fun h => nomatch h), (fun h => by rcases h with h | h <;> cases h), fun _ => rfl, Nat.zero_le _⟩

theorem StoreState.coherent_restarted {x : StoreState} (h : x.coherent) : x.restarted.coherent := by
  obtain ⟨h1, h2, h3, h4, h5⟩ := h
  cases hs : x.mode.setup with
  | false =>
    have hm : x.restarted.mode = x.mode := if_neg (by rw [hs]; decide)
    refine ⟨by rw [hm, hs]; rfl, ?_, ?_, ?_, h5⟩
    · rw [hm]; exact h2
    · rw [hm]; exact h3
    · rw [hm]; exact h4
  | true =>
    have hm : x.restarted.mode = .ready := if_pos hs
    have hnone : x.operationPage = none := by
      by_contra hp
      have hb := h2 (Option.isSome_iff_ne_none.mpr hp)
      revert hb hs
      cases x.mode <;> decide
    refine ⟨by rw [hm]; rfl, fun hp => ?_, fun he => ?_, fun _ => h4 (.inl hnone), h5⟩
    · rw [show x.restarted.operationPage = x.operationPage from rfl, hnone] at hp
      cases hp
    · rw [hm] at he
      rcases he with he | he <;> cases he

theorem powerOnReset_keeps (hD : ¬L.direction) (hI : ¬L.incident) (adr : Byte) (pins : BitVec 64) (s : State) :
    Keeps L s (powerOnResetEffect adr pins s) := by
  unfold powerOnResetEffect
  dsimp only
  have hended := scramblePage_keeps (L := L) s s.store.operationPage rfl
  generalize s.scramblePage s.store.operationPage = ended at hended ⊢
  have hfan : ∀ f : Fin 6, ∃ d, State.reset.fan f = { Fan.reset with direction := d } := fun f =>
    ⟨.fwd, by rw [State.fan, show State.reset.fans = Vector.replicate 6 .reset from rfl, Fin.getElem_fin,
      Vector.getElem_replicate]; rfl⟩
  refine (hended.trans ?_).trans (.loadReport _)
  exact
    { memories := fun h => ⟨h.1, rfl, rfl⟩
      coherent := fun _ => StoreState.coherent_poweredOn _
      queues := fun _ => ⟨PortState.reset_bounded, PortState.reset_bounded⟩
      ramps := fun _ f => by
        obtain ⟨d, h⟩ := hfan f
        exact .inr (.inr (congrArg Fan.ramp h))
      orderly := fun _ => reset_orderly
      demands := ⟨fun _ => demandsActive_of_reset hfan rfl, fun _ => speedsInRange_of_reset hfan rfl⟩
      tables := fun _ => reset_tablesInRange
      direction := fun h => (hD h).elim
      incident := fun h => (hI h).elim
      pages := fun _ _ h => (h rfl).elim
      operation := fun _ _ h => by cases h }

theorem PortState.restarted_bounded (p : PortState) : p.restarted.bounded :=
  ⟨Nat.zero_le _, Nat.zero_le _, Nat.zero_le _, Nat.zero_le _⟩

/-- Every block reset by a RESTART, before its port is heard and the pins follow. -/
def State.fresh (s : State) : State :=
  { State.reset with
    address := s.address
    load := .image 0 true
    pointTable := s.pointTable
    portA := s.portA.restarted
    portB := s.portB.restarted
    fans := s.fans.map Fan.restarted
    store := s.store.restarted
    supplyOk := s.supplyOk
    points := s.points
    freeCount := s.freeCount
    pending := s.pending }

theorem restarted_eq (p : Port) (s : State) :
    s.restarted p = (s.fresh.setPort p (s.fresh.port p).heard).followPins := rfl

theorem fresh_fan (s : State) (f : Fin 6) : s.fresh.fan f = { Fan.reset with direction := (s.fan f).direction } :=
  Vector.getElem_map ..

theorem fresh_keeps (s : State) (hI : s.engine.mode ≠ .incident) : Keeps L s s.fresh where
  memories h := ⟨h.1, rfl, h.2.2⟩
  coherent h := StoreState.coherent_restarted h
  queues _ := ⟨PortState.restarted_bounded _, PortState.restarted_bounded _⟩
  ramps _ f := .inr (.inr (congrArg Fan.ramp (fresh_fan s f)))
  orderly _ := reset_orderly
  demands :=
    ⟨fun _ => demandsActive_of_reset (fun f => ⟨_, fresh_fan s f⟩) rfl, fun _ =>
      speedsInRange_of_reset (fun f => ⟨_, fresh_fan s f⟩) rfl⟩
  tables h := by
    obtain ⟨_, _, _, _, _, hp, hs, _⟩ := h
    exact tablesInRange_of_reset rfl rfl rfl rfl rfl rfl rfl rfl rfl (fun i => (hp i).2) hs
  direction _ f _ :=
    ⟨(congrArg Fan.mode (fresh_fan s f)).trans_ne (by decide : DriveMode.disabled ≠ .stopped),
      (congrArg Fan.direction (fresh_fan s f) :)⟩
  incident _ h := (hI h).elim

theorem heard_keeps (p : Port) (s : State) : Keeps L s (s.setPort p (s.port p).heard) :=
  .port s p _ fun h => ⟨h.1, h.2.1, h.2.2.1, h.2.2.2⟩

theorem restarted_keeps (p : Port) (s : State) (hI : s.engine.mode ≠ .incident) : Keeps L s (s.restarted p) := by
  rw [restarted_eq]
  exact ((fresh_keeps s hI).trans (heard_keeps p _)).trans (.followPins _)

theorem restart_keeps (req : Request) (s : State) : Keeps L s (restartEffect req s) := by
  unfold restartEffect
  exact .ite _ (fun _ => .answerOrder s _ _ _) fun _ => .ite _ (fun _ => .answerOrder s _ _ _) fun hI =>
    .trans (.trans (restarted_keeps _ s hI) (.answerOrder _ _ _ _)) (.loadReport _)

/-! ### Start-up load -/

theorem loadRead_keeps (s : State) : Keeps L s s.loadRead := by
  unfold State.loadRead
  exact .ite _ (fun _ => partErase_keeps s) fun _ => .refl s

theorem applyRecord_keeps (afterRestart : Bool) (id first count : Nat) (ws : List Word) (s : State) :
    Keeps L s (s.applyRecord afterRestart id first count ws) := by
  unfold State.applyRecord
  refine .ite _ (fun _ => .refl s) fun _ => ?_
  split
  next c b hc =>
    obtain ⟨t, es, hadmits, rfl⟩ := checkWrite_taken hc
    exact takeRecord_keeps hadmits
  · exact .ite _ (fun _ => .refl s) fun _ => .latch s _
  · exact .latch s _

theorem applyRecords_keeps (afterRestart : Bool) (page : List Byte) (fuel pos : Nat) (s : State) :
    Keeps L s (applyRecords afterRestart page fuel pos s) := by
  induction fuel generalizing pos s with
  | zero => exact .refl s
  | succ fuel ih =>
    unfold applyRecords
    exact .ite _ (fun _ => .refl s) fun _ => .ite _ (fun _ => .refl s) fun _ => .ite _ (fun _ => .latch s _) fun _ =>
      .ite _ (fun _ => .latch s _) fun _ => .trans (applyRecord_keeps _ _ _ _ _ s) (ih _ _)

theorem applyImagePage_keeps (afterRestart : Bool) (page : List Byte) (s : State) :
    Keeps L s (s.applyImagePage afterRestart page) := by
  unfold State.applyImagePage
  exact .ite _ (fun _ => applyRecords_keeps _ _ _ _ s) fun _ => .latch s _

theorem buildPage_keeps (p : Fin 32) (s : State) : Keeps L s (s.buildPage p) := by
  unfold State.buildPage
  dsimp only
  exact (loadRead_keeps s).trans {}

theorem imageReplay_keeps (s : State) : Keeps L s (imageReplayEffect s) := by
  unfold imageReplayEffect
  split
  next p afterRestart _ =>
    refine .ite _ (fun _ => ?_) fun _ => .refl s
    unfold State.replayPage
    dsimp only
    have happlied : Keeps L s (s.loadRead.applyImagePage afterRestart (s.loadRead.store.page (imagePage p))) :=
      (loadRead_keeps s).trans (applyImagePage_keeps _ _ _)
    split
    · exact happlied.trans (.load _ _)
    · exact (happlied.trans (forEach_keepsAll buildPage_keeps _)).trans (.load _ _)
  next => exact .refl s

theorem startDoor_keeps (d : Fin 6) (s : State) : Keeps L s (s.startDoor d) := by
  unfold State.startDoor
  exact .ite _ (fun _ => (Moves.door s d _).keeps (deriveDoorSilently_keepsDemands d s)) fun _ =>
    (Moves.door s d _).keeps (.door s d _)

theorem startFan_keeps (f : Fin 6) (s : State) : Keeps L s (s.startFan f) := by
  have hdrive (x : Fan) (h : DriveMove (s.fan f) x) : Keeps L s (((s.setFan f x).writePressurisation f).resolveFan f) :=
    Keeps.trans ((Moves.drive s f x h).keeps (.drive s f x h))
      (.trans ((writePressurisation_moves f _).keeps (writePressurisation_keepsDemands f _))
        ((Moves.resolve _ f).keeps (resolveFan_keepsDemands f _)))
  unfold State.startFan
  refine hdrive _ ?_
  split
  · exact .disabled
  · split
    · exact .isolated
    · exact .coast _

theorem startMode_keeps (hI : ¬L.incident) (s : State) : Keeps L s s.startMode where
  incident h := (hI h).elim

/-- The start of the units begins no INCIDENT and ends one: it stands while the units have not started. -/
theorem unitsStart_keeps (hI : ¬L.incident) (s : State) : Keeps L s (unitsStartEffect s) := by
  unfold unitsStartEffect State.startUnits
  dsimp only
  refine .ite _ (fun _ => ?_) fun _ => .refl s
  have hdoors : Keeps L s (forEach State.startDoor s) := forEach_keepsAll startDoor_keeps s
  have hmode : Keeps L s (forEach State.startDoor s).startMode := hdoors.trans (startMode_keeps hI _)
  exact ((((hmode.trans (forEach_keepsAll startFan_keeps _)).trans (forEach_keepsAll startChannel_keeps _)).trans
    (.cycle _ _)).trans (.load _ _)).trans (.followPins _)

/-! ### Frames -/

/-- The order a frame carries, if it is an ORDER frame. -/
def orderIn (f : Frame) : Option Word := if byteAt f 0 = 3 then (wordsOf (framePayload f)).head? else none

/-- The operation a frame carries, if it is a TABLE ACCESS frame. -/
def operationIn (f : Frame) : Option Word := if byteAt f 0 = 5 then (wordsOf (framePayload f)).head? else none

theorem handOrder_keeps (req : Request) (payload : List Byte) (s : State)
    (hI : (wordsOf payload).head? = some 11 → ¬L.incident) : Keeps L s (s.handOrder req payload) := by
  unfold State.handOrder
  split
  · exact order_keeps _ _ _ s fun _ => .refl s
  next kind values hw =>
    rw [hw] at hI
    split
    · exact order_keeps _ _ _ s fun _ => fanSet_keeps _ _ _ _ _ s
    · exact order_keeps _ _ _ s fun _ => fanRelease_keeps _ s
    · exact order_keeps _ _ _ s fun _ => fanReset_keeps _ s
    · exact order_keeps _ _ _ s fun _ => doorOrder_keeps doorOrderOpen_keeps _ s
    · exact order_keeps _ _ _ s fun _ => doorOrder_keeps doorOrderHold_keeps _ s
    · exact order_keeps _ _ _ s fun _ => doorOrder_keeps doorOrderFree_keeps _ s
    · exact order_keeps _ _ _ s fun _ => doorOrder_keeps doorOrderClose_keeps _ s
    · exact order_keeps _ _ _ s fun _ => doorServiceOff_keeps _ s
    · exact order_keeps _ _ _ s fun _ => doorOrder_keeps doorOrderServiceOn_keeps _ s
    · exact order_keeps _ _ _ s fun _ => incidentOn_keeps s
    next hk =>
      have h11 : kind = 11 := BitVec.eq_of_toNat_eq hk
      exact order_keeps _ _ _ s fun _ => incidentClear_keeps (hI (by rw [h11]; rfl)) s
    · exact order_keeps _ _ _ s fun _ => responseRun_keeps _ s
    · exact order_keeps _ _ _ s fun _ => responseCancel_keeps _ s
    · exact restart_keeps _ s
    · exact order_keeps _ _ _ s fun _ => .refl s

theorem storeStatus_keeps (s : State) : Keeps L s s.storeStatus.1 := .refl s

theorem handAccess_keeps (req : Request) (payload : List Byte) (s : State)
    (hO : (wordsOf (payload.take 8)).head? = some 14 → ¬L.operation) : Keeps L s (s.handAccess req payload) := by
  unfold State.handAccess
  split
  next op a b c hw =>
    rw [hw] at hO
    dsimp only
    split
    · exact access_keeps _ _ _ _ _ s (readEntries_keeps _ _ _ s)
    · exact access_keeps _ _ _ _ _ s (writeEntries_keeps _ _ _ _ s)
    · exact access_keeps _ _ _ _ _ s (.refl s)
    · exact access_keeps _ _ _ _ _ s (pointValueWrite_keeps _ _ _ s)
    · exact access_keeps _ _ _ _ _ s (.events s _)
    · exact access_keeps _ _ _ _ _ s (latchMask_keeps _ s)
    · exact access_keeps _ _ _ _ _ s (storeStatus_keeps s)
    · exact access_keeps _ _ _ _ _ s (storeClearStatus_keeps s)
    · exact access_keeps _ _ _ _ _ s (sequenced_keeps s _ (.refl s))
    · exact access_keeps _ _ _ _ _ s (stagingWrite_keeps _ _ s)
    · exact access_keeps _ _ _ _ _ s (sequenced_keeps s _ (.refl s))
    · exact access_keeps _ _ _ _ _ s (storeSetup_keeps rfl _ s)
    · exact access_keeps _ _ _ _ _ s (storeSetup_keeps rfl _ s)
    next hk =>
      have h14 : op = 14 := BitVec.eq_of_toNat_eq hk
      exact access_keeps _ _ _ _ _ s (storeConfirm_keeps (hO (by rw [h14]; rfl)) _ s)
    · exact access_keeps _ _ _ _ _ s (.refl s)
  next => exact access_keeps _ _ _ _ _ s (.refl s)

theorem head?_wordsOf_take (payload : List Byte) : (wordsOf (payload.take 8)).head? = (wordsOf payload).head? := by
  match payload with
  | [] | [_] | _ :: _ :: _ => simp [wordsOf]

/-- A good frame before it is handed on: heard, held against the own address, and relayed. -/
def State.passed (p : Port) (f : Frame) (s : State) : State :=
  let heard := s.setPort p (s.port p).heard
  let checked := if heard.address = some (byteAt f 2) then heard.latch .addressConflict else heard
  if relayed (checked.classify (byteAt f 1)) f then checked.relay p f else checked

/-- How a good frame's destination stands to the node as the frame arrives. -/
def State.destination (p : Port) (f : Frame) (s : State) : Destination :=
  let heard := s.setPort p (s.port p).heard
  (if heard.address = some (byteAt f 2) then heard.latch .addressConflict else heard).classify (byteAt f 1)

theorem goodFrame_eq (p : Port) (f : Frame) (s : State) :
    s.goodFrame p f = (s.passed p f).handOn p (s.destination p f) f := rfl

theorem relay_keeps (p : Port) (f : Frame) (s : State) : Keeps L s (s.relay p f) := by
  unfold State.relay
  dsimp only
  have hplaced := Keeps.port (L := L) s (otherPort p) ((s.port (otherPort p)).placePass f).1 (PortState.placePass_bounded f)
  exact .ite _ (fun _ => hplaced.trans (.latch _ _)) fun _ => hplaced

theorem passed_keeps (p : Port) (f : Frame) (s : State) : Keeps L s (s.passed p f) := by
  unfold State.passed
  dsimp only
  have hheard : Keeps L s (s.setPort p (s.port p).heard) := heard_keeps p s
  have hchecked : Keeps L s (if (s.setPort p (s.port p).heard).address = some (byteAt f 2) then
      (s.setPort p (s.port p).heard).latch .addressConflict else s.setPort p (s.port p).heard) :=
    .ite _ (fun _ => hheard.trans (.latch _ _)) fun _ => hheard
  exact .ite _ (fun _ => hchecked.trans (relay_keeps _ _ _)) fun _ => hchecked

theorem handOn_keeps (p : Port) (d : Destination) (f : Frame) (s : State) (hI : orderIn f = some 11 → ¬L.incident)
    (hO : operationIn f = some 14 → ¬L.operation) : Keeps L s (s.handOn p d f) := by
  unfold State.handOn
  dsimp only
  split
  · exact .ite _ (fun _ => offerMark_keeps _ s) fun _ => .refl s
  · exact .ite _ (fun _ => handReport_keeps _ _ _ s) fun _ => .refl s
  next hk =>
    have h3 : byteAt f 0 = 3 := BitVec.eq_of_toNat_eq hk
    exact .ite _ (fun _ => .refl s) fun _ => handOrder_keeps _ _ s fun h => hI (by rw [orderIn, if_pos h3, h])
  next hk =>
    have h5 : byteAt f 0 = 5 := BitVec.eq_of_toNat_eq hk
    exact .ite _ (fun _ => .refl s) fun _ => handAccess_keeps _ _ s fun h =>
      hO (by rw [operationIn, if_pos h5, ← head?_wordsOf_take, h])
  · exact .ite _ (fun _ => handNotice_keeps _ _ s) fun _ => .refl s
  · exact .refl s

theorem frameArrival_keeps (p : Port) (f : List Byte) (s : State)
    (hI : frameGood f = true → orderIn f = some 11 → ¬L.incident)
    (hO : frameGood f = true → operationIn f = some 14 → ¬L.operation) : Keeps L s (frameArrivalEffect p f s) := by
  unfold frameArrivalEffect
  refine .ite _ (fun hg => ?_) fun _ => .latch s _
  rw [goodFrame_eq]
  exact ((passed_keeps p f s).trans (handOn_keeps p _ f _ (hI hg) (hO hg))).trans (.settle _)

/-! ### The passing of time -/

theorem millisecond_keeps (s : State) : Keeps L s s.millisecond where
  queues h := ⟨⟨h.1.1, h.1.2.1, h.1.2.2.1, h.1.2.2.2⟩, ⟨h.2.1, h.2.2.1, h.2.2.2.1, h.2.2.2.2⟩⟩
  orderly h := EngineState.orderly_congr h rfl rfl (EngineState.activeNumbers_map _ _ fun _ => rfl)
  demands := .of_same rfl rfl rfl fun k hk => by
    have hmap : s.millisecond.engine.active[k] = (s.engine.active[k]).map fun r => { r with hold := r.hold.map fun t => t - 1 } :=
      getElem_tabulate _ _ _
    rw [hmap] at hk
    exact Option.map_eq_none_iff.mp hk

end Sys2Proof.Machine
end

section
/-! What a step keeps, and the invariants and safety statements that follow from it. -/

namespace Sys2Proof.Machine

/-- What a command is not meant to do. -/
def limitsOf : Instr → Limits
  | .powerOnReset _ _ => ⟨False, False, True⟩
  | .coastTimerExpiry _ => ⟨False, True, True⟩
  | .unitsStart | .incidentClear _ => ⟨True, False, True⟩
  | .storeConfirm _ _ _ => ⟨True, True, False⟩
  | .frameArrival _ f =>
    ⟨True, ¬(frameGood f = true ∧ orderIn f = some 11), ¬(frameGood f = true ∧ operationIn f = some 14)⟩
  | _ => ⟨True, True, True⟩

theorem exec_keeps (c : Instr) (s : State) : ∃ t, exec c s = .next t ∧ Keeps (limitsOf c) s t := by
  cases c with
  | powerOnReset adr pins => exact ⟨_, rfl, powerOnReset_keeps id id adr pins s⟩
  | imageReplay => exact ⟨_, rfl, imageReplay_keeps s⟩
  | unitsStart => exact ⟨_, rfl, unitsStart_keeps id s⟩
  | frameArrival p f =>
    exact ⟨_, rfl, frameArrival_keeps p f s (fun hg ho h => h ⟨hg, ho⟩) fun hg ho h => h ⟨hg, ho⟩⟩
  | linkTimerExpiry p => exact ⟨_, rfl, linkTimerExpiry_keeps p s⟩
  | transmitEnd p => exact ⟨_, rfl, transmitEnd_keeps p s⟩
  | markTimerExpiry => exact ⟨_, rfl, (markTimerExpiry_keeps s).trans (.settle _)⟩
  | localCycleTimerExpiry => exact ⟨_, rfl, (localCycleTimerExpiry_keeps s).trans (.settle _)⟩
  | sampleEvent n raw => exact ⟨_, rfl, (sampleEvent_keeps n _ s).trans (.settle _)⟩
  | warmUpEnd n => exact ⟨_, rfl, warmUpEnd_keeps n s⟩
  | eraseSuspend => exact ⟨_, rfl, eraseSuspend_keeps s⟩
  | fetchCompletion =>
    exact ⟨_, rfl, ((fetchCompletion_moves s id).keeps (fetchCompletion_keepsDemands s)).trans (.settle _)⟩
  | holdTimerExpiry k =>
    exact ⟨_, rfl, ((holdTimerExpiry_moves k s).keeps (holdTimerExpiry_keepsDemands k s)).trans (.settle _)⟩
  | rampTick => exact ⟨_, rfl, (rampTick_keeps s).trans (.settle _)⟩
  | startTimerExpiry f => exact ⟨_, rfl, (startTimerExpiry_keeps f s).trans (.settle _)⟩
  | confirmLossTimerExpiry f => exact ⟨_, rfl, (lossTimerExpiry_keeps f s).trans (.settle _)⟩
  | coastTimerExpiry f => exact ⟨_, rfl, (coastTimerExpiry_keeps id f s).trans (.settle _)⟩
  | travelTimerExpiry d => exact ⟨_, rfl, (travelTimerExpiry_keeps d s).trans (.settle _)⟩
  | dwellExpiry d => exact ⟨_, rfl, (dwellExpiry_keeps d s).trans (.settle _)⟩
  | pinChange n high => exact ⟨_, rfl, (pinChange_keeps n high s).trans (.settle _)⟩
  | pointTick => exact ⟨_, rfl, pointTick_keeps s⟩
  | filterAccept n => exact ⟨_, rfl, (filterAccept_keeps n s).trans (.settle _)⟩
  | smonChange within => exact ⟨_, rfl, smonChange_keeps within s⟩
  | erasePulseEnd cells => exact ⟨_, rfl, erasePulseEnd_keeps cells s⟩
  | programCompletion => exact ⟨_, rfl, programCompletion_keeps s⟩
  | fanSet req fan direction speed rate precedence =>
    exact ⟨_, rfl, order_keeps _ _ _ s fun _ => fanSet_keeps fan direction speed rate precedence s⟩
  | fanRelease req fan => exact ⟨_, rfl, order_keeps _ _ _ s fun _ => fanRelease_keeps fan s⟩
  | fanReset req fan => exact ⟨_, rfl, order_keeps _ _ _ s fun _ => fanReset_keeps fan s⟩
  | doorOpen req doors => exact ⟨_, rfl, order_keeps _ _ _ s fun _ => doorOrder_keeps doorOrderOpen_keeps doors s⟩
  | doorHold req doors => exact ⟨_, rfl, order_keeps _ _ _ s fun _ => doorOrder_keeps doorOrderHold_keeps doors s⟩
  | doorFree req doors => exact ⟨_, rfl, order_keeps _ _ _ s fun _ => doorOrder_keeps doorOrderFree_keeps doors s⟩
  | doorClose req doors => exact ⟨_, rfl, order_keeps _ _ _ s fun _ => doorOrder_keeps doorOrderClose_keeps doors s⟩
  | doorServiceOff req doors => exact ⟨_, rfl, order_keeps _ _ _ s fun _ => doorServiceOff_keeps doors s⟩
  | doorServiceOn req doors => exact ⟨_, rfl, order_keeps _ _ _ s fun _ => doorOrder_keeps doorOrderServiceOn_keeps doors s⟩
  | incidentOn req => exact ⟨_, rfl, order_keeps _ _ _ s fun _ => incidentOn_keeps s⟩
  | incidentClear req => exact ⟨_, rfl, order_keeps _ _ _ s fun _ => incidentClear_keeps id s⟩
  | responseRun req number => exact ⟨_, rfl, order_keeps _ _ _ s fun _ => responseRun_keeps number s⟩
  | responseCancel req number => exact ⟨_, rfl, order_keeps _ _ _ s fun _ => responseCancel_keeps number s⟩
  | restart req => exact ⟨_, rfl, restart_keeps req s⟩
  | unknownOrder req kind => exact ⟨_, rfl, order_keeps _ _ _ s fun _ => .refl s⟩
  | readEntries req table first count => exact ⟨_, rfl, access_keeps _ _ _ _ _ s (readEntries_keeps _ _ _ s)⟩
  | writeEntries req table first count data => exact ⟨_, rfl, access_keeps _ _ _ _ _ s (writeEntries_keeps _ _ _ _ s)⟩
  | pointValueRead req a first count => exact ⟨_, rfl, access_keeps _ _ _ _ _ s (.refl s)⟩
  | pointValueWrite req a first count data => exact ⟨_, rfl, access_keeps _ _ _ _ _ s (pointValueWrite_keeps _ _ _ s)⟩
  | eventClear req low high => exact ⟨_, rfl, access_keeps _ _ _ _ _ s (.events s _)⟩
  | eventSet req low high => exact ⟨_, rfl, access_keeps _ _ _ _ _ s (latchMask_keeps _ s)⟩
  | storeStatus req a b => exact ⟨_, rfl, access_keeps _ _ _ _ _ s (storeStatus_keeps s)⟩
  | storeClearStatus req a b => exact ⟨_, rfl, access_keeps _ _ _ _ _ s (storeClearStatus_keeps s)⟩
  | storeRead req page offset length => exact ⟨_, rfl, access_keeps _ _ _ _ _ s (sequenced_keeps s _ (.refl s))⟩
  | stagingWrite req a offset data => exact ⟨_, rfl, access_keeps _ _ _ _ _ s (stagingWrite_keeps _ _ s)⟩
  | stagingRead req a offset length => exact ⟨_, rfl, access_keeps _ _ _ _ _ s (sequenced_keeps s _ (.refl s))⟩
  | eraseSetup req page b => exact ⟨_, rfl, access_keeps _ _ _ _ _ s (storeSetup_keeps rfl _ s)⟩
  | programSetup req page b => exact ⟨_, rfl, access_keeps _ _ _ _ _ s (storeSetup_keeps rfl _ s)⟩
  | storeConfirm req page b => exact ⟨_, rfl, access_keeps _ _ _ _ _ s (storeConfirm_keeps id _ s)⟩
  | unknownOperation req head => exact ⟨_, rfl, access_keeps _ _ _ _ _ s (.refl s)⟩
  | doorTick => exact ⟨_, rfl, doorTick_keeps s⟩
  | sampleTick => exact ⟨_, rfl, sampleTick_keeps s⟩
  | frameCutOff p => exact ⟨_, rfl, .latch s _⟩

/-- What a command or a millisecond keeps. -/
def State.limits (s : State) : Limits :=
  match s.pending with
  | [] => ⟨True, True, True⟩
  | c :: _ => limitsOf c

theorem step_keeps {s t : State} (h : step s = .next t) : Keeps s.limits s t := by
  unfold step at h
  unfold State.limits
  cases hp : s.pending with
  | nil =>
    rw [hp] at h
    exact Host.Outcome.next.inj h ▸ millisecond_keeps s
  | cons c rest =>
    rw [hp] at h
    obtain ⟨u, hu, hk⟩ := exec_keeps c { s with pending := rest }
    obtain rfl := Host.Outcome.next.inj (hu.symm.trans h)
    exact (Keeps.pending s rest).trans hk

/-- Settles O4, by the keeping of every command. -/
theorem stepKeepsTheStoreCanonicalAndCoherent : Obligations.StepKeepsTheStoreCanonicalAndCoherent :=
  ⟨fun _ _ hs h => (step_keeps h).memories hs, fun _ _ hs h => (step_keeps h).coherent hs⟩

/-- Settles O5, by the keeping of every command. -/
theorem stepKeepsQueuesBoundedAndRampsAtRest : Obligations.StepKeepsQueuesBoundedAndRampsAtRest :=
  ⟨fun _ _ hs h => (step_keeps h).queues hs, fun _ _ hs h => (step_keeps h).ramps hs⟩

/-- Settles O7, by the keeping of every command. -/
theorem stepKeepsTablesAndSpeedsInRange : Obligations.StepKeepsTablesAndSpeedsInRange :=
  ⟨fun _ _ hs h => (step_keeps h).tables hs, fun _ _ hs h => (step_keeps h).demands.speeds hs⟩

/-- Settles O8, by the keeping of every command. -/
theorem stepKeepsTheEngineOrderlyAndItsDemands : Obligations.StepKeepsTheEngineOrderlyAndItsDemands :=
  ⟨fun _ _ hs h => (step_keeps h).orderly hs, fun _ _ hs h => (step_keeps h).demands.demands hs⟩

end Sys2Proof.Machine
end

section
/-! The safety statements: direction outputs (R47), INCIDENT (R154), and the pages of the store (R168). -/

namespace Sys2Proof.Machine

/-! ### Direction outputs -/

theorem direction_changes_in_stopped {L : Limits} {s t : State} (h : Keeps L s t) (hL : L.direction) {f : Fin 6}
    (hne : (t.fan f).direction ≠ (s.fan f).direction) : (s.fan f).mode = .stopped := by
  by_contra hm
  exact hne (h.direction hL f hm).2

/-- The end of coasting turns no direction output but that of its own drive, and that only where it coasts. -/
theorem coastTimerExpiry_keepsDirection (f g : Fin 6) (s : State) (h : ¬(g = f ∧ (s.fan f).mode = .coasting)) :
    (s.fan g).keepsDirection ((coastTimerExpiryEffect f s).fan g) := by
  unfold coastTimerExpiryEffect
  split
  next hc =>
    have hne : f ≠ g := fun e => h ⟨e.symm, hc.1⟩
    rw [fan_setFan_ne s f g _ hne]
    exact Fan.keepsDirection_refl _
  next => exact Fan.keepsDirection_refl _

theorem fans_loadReport (s : State) : s.loadReport.fans = s.fans := by
  unfold State.loadReport State.sendReport
  split_ifs
  · simp
  · rfl
  · rfl

theorem powerOnReset_fan (adr : Byte) (pins : BitVec 64) (s : State) (f : Fin 6) :
    (powerOnResetEffect adr pins s).fan f = Fan.reset := by
  unfold powerOnResetEffect
  dsimp only
  generalize s.scramblePage s.store.operationPage = ended
  rw [State.fan, fans_loadReport]
  exact Vector.getElem_replicate ..

/-- Settles O9: every command but the end of coasting and a power-on reset keeps the direction of a drive that is not
STOPPED. -/
theorem directionChangesOnlyInStoppedOrAtReset : Obligations.DirectionChangesOnlyInStoppedOrAtReset := by
  intro s t f h hne
  have hk := step_keeps h
  unfold step at h
  unfold State.limits at hk
  cases hp : s.pending with
  | nil =>
    rw [hp] at hk
    exact .inl (direction_changes_in_stopped hk trivial hne)
  | cons c rest =>
    rw [hp] at h hk
    rw [List.head?_cons]
    cases c with
    | powerOnReset adr pins =>
      refine .inr (.inr ⟨⟨adr, pins, rfl⟩, ?_⟩)
      rw [← Host.Outcome.next.inj h, powerOnReset_fan]
      exact ⟨rfl, rfl⟩
    | coastTimerExpiry g =>
      by_cases hg : f = g ∧ (s.fan g).mode = .coasting
      · obtain ⟨rfl, hm⟩ := hg
        exact .inr (.inl ⟨hm, rfl⟩)
      · refine .inl (by_contra fun hm => hne ?_)
        rw [← Host.Outcome.next.inj h]
        have hcoast := coastTimerExpiry_keepsDirection g f { s with pending := rest } hg
        have hsettle := (Keeps.settle (L := ⟨True, True, True⟩)
          (coastTimerExpiryEffect g { s with pending := rest })).direction trivial f
        exact (Fan.keepsDirection_trans hcoast hsettle hm).2
    | _ => exact .inl (direction_changes_in_stopped hk trivial hne)

/-! ### INCIDENT -/

theorem orderIn_eq_some {f : Frame} {w : Word} (h : orderIn f = some w) :
    byteAt f 0 = 3 ∧ (wordsOf (framePayload f)).head? = some w := by
  unfold orderIn at h
  split_ifs at h with h3
  exact ⟨h3, h⟩

/-- Settles O10: every command but a power-on reset, an INCIDENT CLEAR and the start of the units, which is over, keeps
INCIDENT. -/
theorem incidentIsLeftOnlyByClearOrReset : Obligations.IncidentIsLeftOnlyByClearOrReset := by
  intro s t hload hmode h hne
  have hk := step_keeps h
  unfold step at h
  unfold State.limits at hk
  cases hp : s.pending with
  | nil =>
    rw [hp] at hk
    exact absurd (hk.incident trivial hmode) hne
  | cons c rest =>
    rw [hp] at h hk
    rw [List.head?_cons]
    cases c with
    | powerOnReset adr pins => exact .inl ⟨adr, pins, rfl⟩
    | incidentClear req => exact .inr (.inl ⟨req, rfl⟩)
    | unitsStart =>
      have hsame : unitsStartEffect { s with pending := rest } = { s with pending := rest } :=
        if_neg fun hb => absurd (hload.symm.trans hb) (by decide)
      have ht : ({ s with pending := rest } : State) = t := hsame ▸ Host.Outcome.next.inj h
      rw [← ht] at hne
      exact absurd hmode hne
    | frameArrival p f =>
      by_cases hf : frameGood f = true ∧ orderIn f = some 11
      · obtain ⟨hg, ho⟩ := hf
        obtain ⟨h3, h11⟩ := orderIn_eq_some ho
        exact .inr (.inr ⟨p, f, rfl, hg, h3, h11⟩)
      · exact absurd (hk.incident hf hmode) hne
    | _ => exact absurd (hk.incident trivial hmode) hne

/-! ### Pages -/

/-- The pages stay as they are, and a page becomes the operation page only by a CONFIRM of its setup that protection lets
pass. -/
structure State.confirmsOnly (s t : State) : Prop where
  pages : ∀ q, t.store.page q = s.store.page q
  operation : ∀ q, t.store.operationPage = some q → s.store.operationPage ≠ some q →
    s.store.setupPage = some q ∧ (q.val < 8 → s.signalActive .commissionKey = true)

/-- A change that leaves the cells and the operation page alone confirms nothing. -/
theorem confirmsOnly_of_same {s t : State} (hcells : t.store.cells = s.store.cells)
    (hop : ∀ q, t.store.operationPage = some q → s.store.operationPage = some q) : s.confirmsOnly t where
  pages q := by rw [StoreState.page, StoreState.page, hcells]
  operation q hq hne := absurd (hop q hq) hne

theorem State.confirmsOnly.then_same {s t u : State} (h : s.confirmsOnly t) (hcells : u.store.cells = t.store.cells)
    (hop : u.store.operationPage = t.store.operationPage) : s.confirmsOnly u where
  pages q := by
    rw [← h.pages q, StoreState.page, StoreState.page, hcells]
  operation q hq := h.operation q (hop ▸ hq)

theorem beginOperation_confirmsOnly {p : Fin 48} {s : State} (hsetup : s.store.setupPage = some p)
    (hallowed : s.confirmAllowed p = true) : s.confirmsOnly (s.beginOperation p) := by
  unfold State.beginOperation
  dsimp only
  have hbegun : ∀ x : StoreState, x.cells = s.store.cells → (x.operationPage = some p ∨ x.operationPage = none) →
      s.confirmsOnly (s.setStore x) := fun x hcells hop =>
    { pages := fun q => by rw [StoreState.page, StoreState.page, setStore_write, hcells]
      operation := fun q hq _ => by
        rw [setStore_write] at hq
        rcases hop with hop | hop
        · obtain rfl : p = q := Option.some.inj (hop.symm.trans hq)
          refine ⟨hsetup, fun h8 => ?_⟩
          simpa [State.confirmAllowed, Nat.not_le.mpr h8] using hallowed
        · rw [hop] at hq
          cases hq }
  have htold := fun u : State => confirmTold_moves (C := True) p u
  refine State.confirmsOnly.then_same ?_ (htold _).cells (htold _).operationPage
  split
  · split
    · exact hbegun _ rfl (.inl rfl)
    · exact hbegun _ rfl (.inl rfl)
  · refine State.confirmsOnly.then_same (hbegun _ ?_ (.inr rfl)) (congrArg StoreState.cells (latch_store _ _))
      (congrArg StoreState.operationPage (latch_store _ _))
    split <;> rfl

theorem storeConfirm_confirmsOnly (page : Nat) (s : State) : s.confirmsOnly (s.storeConfirm page).1 := by
  have hsame (x : StoreState) (hc : x.cells = s.store.cells) (hop : x.operationPage = s.store.operationPage) :
      s.confirmsOnly (s.setStore x) := confirmsOnly_of_same hc fun q hq => hop ▸ hq
  unfold State.storeConfirm
  split
  · exact confirmsOnly_of_same rfl fun _ h => h
  · split
    · exact hsame _ rfl rfl
    · split
      · exact hsame _ rfl rfl
      next p _ =>
        split
        · exact hsame _ rfl rfl
        next hsetup =>
          split
          · exact hsame _ rfl rfl
          next hallowed =>
            exact beginOperation_confirmsOnly (not_not.mp hsetup) (by simpa using hallowed)

theorem store_answerAccess (s : State) (req : Request) (op a b : Word) (x : Answer) :
    (s.answerAccess req op a b x).store = s.store := by
  unfold State.answerAccess
  split <;> simp

theorem access_confirmsOnly (req : Request) (op a b : Word) (run : State → State × Answer) (s : State)
    (h : s.confirmsOnly (run s).1) : s.confirmsOnly (s.access req op a b run) := by
  unfold State.access
  split
  · exact h.then_same (by rw [store_answerAccess]) (by rw [store_answerAccess])
  · exact confirmsOnly_of_same (by rw [store_answerAccess]) fun q hq => by rwa [store_answerAccess] at hq

theorem handAccess_confirmsOnly (req : Request) (payload : List Byte) (s : State)
    (h : (wordsOf (payload.take 8)).head? = some 14) : s.confirmsOnly (s.handAccess req payload) := by
  have hrefl : s.confirmsOnly s := confirmsOnly_of_same rfl fun _ h => h
  unfold State.handAccess
  split
  next op a b c hw =>
    rw [hw] at h
    obtain rfl : op = 14 := Option.some.inj h
    exact access_confirmsOnly _ _ _ _ _ s (storeConfirm_confirmsOnly _ s)
  next => exact access_confirmsOnly _ _ _ _ _ s hrefl

theorem sansLine_relay (p : Port) (f : Frame) (s : State) : (s.relay p f).sansLine = s.sansLine := by
  unfold State.relay
  dsimp only
  split <;> simp

theorem sansLine_passed (p : Port) (f : Frame) (s : State) : (s.passed p f).sansLine = s.sansLine := by
  unfold State.passed
  dsimp only
  split_ifs <;> simp [sansLine_relay]

theorem store_of_sansLine {s t : State} (h : t.sansLine = s.sansLine) : t.store = s.store :=
  (congrArg State.store (State.eq_of_sansLine h) :)

theorem signalActive_of_sansLine {s t : State} (h : t.sansLine = s.sansLine) (sig : Signal) :
    t.signalActive sig = s.signalActive sig :=
  signalActive_congr (congrArg State.pointTable (State.eq_of_sansLine h) :) (congrArg State.points (State.eq_of_sansLine h) :) sig

theorem operationIn_eq_some {f : Frame} {w : Word} (h : operationIn f = some w) :
    byteAt f 0 = 5 ∧ (wordsOf (framePayload f)).head? = some w := by
  unfold operationIn at h
  split_ifs at h with h5
  exact ⟨h5, h⟩

theorem goodFrame_confirmsOnly (p : Port) (f : Frame) (s : State) (h : operationIn f = some 14) :
    s.confirmsOnly (s.goodFrame p f).settle := by
  obtain ⟨h5, h14⟩ := operationIn_eq_some h
  have hpassed := sansLine_passed p f s
  have hhand : (s.passed p f).confirmsOnly ((s.passed p f).handOn p (s.destination p f) f) := by
    unfold State.handOn
    rw [h5]
    change State.confirmsOnly _ (if _ then _ else _)
    split
    · exact confirmsOnly_of_same rfl fun _ h => h
    · exact handAccess_confirmsOnly _ _ _ (by rw [head?_wordsOf_take]; exact h14)
  rw [goodFrame_eq]
  generalize (s.passed p f).handOn p (s.destination p f) f = u at hhand ⊢
  have hsettle := takeKeys_moves (C := True) u
  have hfollow : u.settle.store = u.takeKeys.store := (congrArg State.store (followPins_eq u.takeKeys) :)
  have hstore := store_of_sansLine hpassed
  refine State.confirmsOnly.then_same (t := u) ⟨fun q => ?_, fun q hq hne => ?_⟩ (by rw [hfollow, hsettle.cells])
    (by rw [hfollow, hsettle.operationPage])
  · rw [hhand.pages, hstore]
  · have hop := hhand.operation q hq (by rw [hstore]; exact hne)
    rwa [hstore, signalActive_of_sansLine hpassed] at hop

theorem storeConfirm_step (req : Request) (page b : Word) (s : State) :
    s.confirmsOnly (storeConfirmEffect req page b s) :=
  access_confirmsOnly _ _ _ _ _ s (storeConfirm_confirmsOnly _ s)

/-- Settles O11: every command but a STORE CONFIRM keeps the pages outside the operation and begins none. -/
theorem pagesChangeOnlyInConfirmedOperations : Obligations.PagesChangeOnlyInConfirmedOperations := by
  intro s t p h
  have hk := step_keeps h
  have hkept (hL : s.limits.operation) : (t.store.page p ≠ s.store.page p → s.store.operationPage = some p) ∧
      (t.store.operationPage = some p → s.store.operationPage ≠ some p →
        s.store.setupPage = some p ∧ (p.val < 8 → s.signalActive .commissionKey = true)) :=
    ⟨hk.pages hL p, fun hop hne => absurd (hk.operation hL p hop) hne⟩
  have hconfirms (hc : s.confirmsOnly t) : (t.store.page p ≠ s.store.page p → s.store.operationPage = some p) ∧
      (t.store.operationPage = some p → s.store.operationPage ≠ some p →
        s.store.setupPage = some p ∧ (p.val < 8 → s.signalActive .commissionKey = true)) :=
    ⟨fun hne => absurd (hc.pages p) hne, hc.operation p⟩
  unfold step at h
  unfold State.limits at hkept
  cases hp : s.pending with
  | nil => exact hkept (by rw [hp]; trivial)
  | cons c rest =>
    rw [hp] at h hkept
    cases c with
    | storeConfirm req page b =>
      obtain ⟨hpages, hop⟩ := storeConfirm_step req page b { s with pending := rest }
      exact hconfirms (Host.Outcome.next.inj h ▸ ⟨hpages, hop⟩)
    | frameArrival q f =>
      by_cases hf : frameGood f = true ∧ operationIn f = some 14
      · obtain ⟨hpages, hop⟩ := goodFrame_confirmsOnly q f { s with pending := rest } hf.2
        have ht : (({ s with pending := rest } : State).goodFrame q f).settle = t :=
          (if_pos hf.1).symm.trans (Host.Outcome.next.inj h)
        exact hconfirms (ht ▸ ⟨hpages, hop⟩)
      · exact hkept hf
    | _ => exact hkept trivial

end Sys2Proof.Machine
end

section
/-! A machine at rest after every step: no key waits, and every driven pin stands at its level (R134, R182). -/

namespace Sys2Proof.Machine

/-! ### What taking keys leaves of them -/

theorem keys_serve (s : State) (r : SlotRequest) : (s.serve r).keys = s.keys := by
  unfold State.serve State.beginRead
  split <;> rfl

theorem keys_requestSlot (s : State) (n : Fin 128) : (s.requestSlot n).keys = s.keys := by
  unfold State.requestSlot
  split
  · exact keys_serve s _
  · rfl

theorem keys_examineFetch (s : State) : s.examineFetch.keys = s.keys := by
  unfold State.examineFetch
  split
  · split
    · exact keys_requestSlot _ _
    · rfl
  · rfl

theorem keys_dispatch (n : Fin 128) (s : State) : (s.dispatch n).1.keys = s.keys := by
  unfold State.dispatch
  split
  · exact keys_latch s _
  · dsimp only
    split
    · rfl
    · split
      · exact keys_examineFetch _
      · split
        · split
          · exact (keys_examineFetch _).trans (keys_latch _ _)
          · exact keys_latch s _
        · exact keys_latch s _

theorem forEach_keys {n : Nat} {body : Fin n → State → State} (h : ∀ i s, (body i s).keys = s.keys) (s : State) :
    (forEach body s).keys = s.keys :=
  forEach_rel (R := fun s t => t.keys = s.keys) (fun _ => rfl) (fun _ _ _ h h' => h'.trans h) h s

theorem keys_resolveFan (f : Fin 6) (s : State) : (s.resolveFan f).keys = s.keys := setFan_keys s f _

theorem keys_withdrawSlot (k : Fin 4) (s : State) : (s.withdrawSlot k).keys = s.keys := by
  have hfan : ∀ (f : Fin 6) (s : State), (s.withdrawFan k f).keys = s.keys := fun f s => by
    unfold State.withdrawFan
    split
    · exact (keys_resolveFan f _).trans (setFan_keys s f _)
    · exact Eq.refl s.keys
  have hdoor : ∀ (d : Fin 6) (s : State), (s.withdrawHold d k).keys = s.keys := fun d s => by
    unfold State.withdrawHold
    dsimp only
    split
    · exact setDoor_keys s d _
    · exact Eq.refl s.keys
  rw [withdrawSlot_eq, forEach_keys hdoor, forEach_keys hfan]

theorem keys_checkIdle (s : State) : s.checkIdle.keys = s.keys := by
  unfold State.checkIdle
  split
  · exact keys_latch s _
  · rfl

theorem keys_freeSlot (k : Fin 4) (s : State) : (s.freeSlot k).keys = s.keys := setEngine_keys s _

theorem keys_cancel (n : Fin 128) (s : State) : (s.cancel n).keys = s.keys := by
  unfold State.cancel
  dsimp only
  split
  · exact keys_examineFetch _
  · split
    · rw [keys_examineFetch, keys_checkIdle, keys_freeSlot, keys_withdrawSlot]
    · split
      · split <;> rfl
      · rfl

theorem keys_takeKey (s : State) (k : Key) : (s.takeKey k).keys = s.keys := by
  unfold State.takeKey
  refine forEach_keys (fun i s => ?_) s
  dsimp only
  split
  · unfold State.triggerRequest
    split
    · exact keys_dispatch _ s
    · exact keys_cancel _ s
  · rfl

/-- Taking the keys leaves none, since taking a key emits none (R134). -/
theorem keys_takeKeys (s : State) : s.takeKeys.keys = [] :=
  foldl_rel (R := fun s t => t.keys = s.keys) (fun _ => rfl) (fun _ _ _ h h' => h'.trans h) keys_takeKey _ _

theorem keys_followPins (s : State) : s.followPins.keys = s.keys := by rw [followPins_eq]; rfl

theorem settle_atRest (s : State) : s.settle.atRest :=
  ⟨(keys_followPins _).trans (keys_takeKeys s), settle_pinsDriven s⟩

/-! ### What leaves a machine at rest -/

/-- A change that offers no key and leaves the pins, the latches and the units' outputs as they are. -/
theorem atRest_of_outputs {s t : State} (hk : t.keys = s.keys) (ht : t.pointTable = s.pointTable)
    (hp : ∀ n, (t.point n).pin = (s.point n).pin ∧ (t.point n).latch = (s.point n).latch)
    (hu : ∀ sig, t.unitOutput sig = s.unitOutput sig) (h : s.atRest) : t.atRest := by
  refine ⟨hk.trans h.1, fun n high hn => ?_⟩
  rw [driveLevel_congr n ht (hp n).2 hu] at hn
  exact (hp n).1.trans (h.2 n high hn)

theorem unitOutput_congr {s t : State} (hf : t.fans = s.fans) (hd : t.doors = s.doors) (sig : Signal) :
    t.unitOutput sig = s.unitOutput sig := by
  unfold State.unitOutput State.fan State.door
  rw [hf, hd]

/-- A change that offers no key and touches neither the points nor what drives them. -/
theorem atRest_of_same {s t : State} (hk : t.keys = s.keys) (ht : t.pointTable = s.pointTable) (hp : t.points = s.points)
    (hf : t.fans = s.fans) (hd : t.doors = s.doors) (h : s.atRest) : t.atRest :=
  atRest_of_outputs hk ht (fun n => by rw [State.point, State.point, hp]; exact ⟨rfl, rfl⟩) (unitOutput_congr hf hd) h

theorem atRest_of_sansLine {s t : State} (h : t.sansLine = s.sansLine) : s.atRest → t.atRest :=
  have ht := State.eq_of_sansLine h
  atRest_of_same (congrArg State.keys ht :) (congrArg State.pointTable ht :) (congrArg State.points ht :)
    (congrArg State.fans ht :) (congrArg State.doors ht :)

theorem atRest_latch {s : State} (k : EventKind) : s.atRest → (s.latch k).atRest := atRest_of_sansLine (sansLine_latch s k)

theorem atRest_answerOrder {s : State} (req : Request) (kind : Word) (r : OrderResult) (h : s.atRest) :
    (s.answerOrder req kind r).atRest := by
  unfold State.answerOrder
  split
  · exact atRest_of_sansLine (sansLine_queueTo s _ _) h
  · exact h

theorem atRest_answerAccess {s : State} (req : Request) (op a b : Word) (x : Answer) (h : s.atRest) :
    (s.answerAccess req op a b x).atRest := by
  unfold State.answerAccess
  split
  · exact atRest_of_sansLine (sansLine_queueTo s _ _) h
  · exact h

theorem atRest_loadReport {s : State} (h : s.atRest) : s.loadReport.atRest := by
  unfold State.loadReport State.sendReport
  split
  · have hc : (s.setCycle { s.cycle with sequence := s.cycle.sequence + 1 }).atRest :=
      atRest_of_same rfl rfl rfl rfl rfl h
    split
    · exact atRest_of_sansLine (sansLine_queueToAll _ _) hc
    · exact hc
  · exact h

theorem atRest_setPort {s : State} (p : Port) (x : PortState) : s.atRest → (s.setPort p x).atRest :=
  atRest_of_sansLine (sansLine_setPort s p x)

theorem atRest_setStore {s : State} (x : StoreState) (h : s.atRest) : (s.setStore x).atRest :=
  atRest_of_same rfl rfl rfl rfl rfl h

theorem atRest_setEngine {s : State} (e : EngineState) (h : s.atRest) : (s.setEngine e).atRest :=
  atRest_of_same rfl rfl rfl rfl rfl h

theorem atRest_setChannel {s : State} (n : Fin 12) (x : Channel) (h : s.atRest) : (s.setChannel n x).atRest :=
  atRest_of_same rfl rfl rfl rfl rfl h

theorem atRest_followPins {s : State} (hk : s.keys = []) : s.followPins.atRest :=
  ⟨(keys_followPins s).trans hk, followPins_pinsDriven s⟩

end Sys2Proof.Machine
end

section
/-! Every command leaves a machine at rest (O6). -/

namespace Sys2Proof.Machine

variable {s : State}

/-! ### The store and the engine's part in it -/

theorem atRest_serve (r : SlotRequest) (h : s.atRest) : (s.serve r).atRest := by
  unfold State.serve State.beginRead
  split <;> exact atRest_setStore _ h

theorem atRest_requestSlot (n : Fin 128) (h : s.atRest) : (s.requestSlot n).atRest := by
  unfold State.requestSlot
  split
  · exact atRest_serve _ h
  · exact atRest_setStore _ h

theorem atRest_serveWaiting (h : s.atRest) : s.serveWaiting.atRest := by
  unfold State.serveWaiting
  split
  · exact atRest_serve _ h
  · exact h

theorem atRest_examineFetch (h : s.atRest) : s.examineFetch.atRest := by
  unfold State.examineFetch
  split
  · split
    · exact atRest_requestSlot _ (atRest_setEngine _ h)
    · exact h
  · exact h

theorem atRest_confirmTold (p : Fin 48) (h : s.atRest) : (s.confirmTold p).atRest := by
  have hunqueue : ∀ s : State, s.atRest → (s.unqueuePage p).atRest := fun s hs =>
    foldl_rel (R := fun s t => s.atRest → t.atRest) (fun _ => id) (fun _ _ _ h h' => h' ∘ h)
      (fun _ _ => atRest_latch _) _ _ (atRest_setEngine _ hs)
  have hdisturb : ∀ s : State, s.atRest → (s.disturbPage p).atRest := fun s hs => by
    unfold State.disturbPage
    split
    · split
      · exact atRest_setEngine _ hs
      · exact hs
    · exact hs
  unfold State.confirmTold
  split
  · exact atRest_examineFetch (hdisturb _ (hunqueue _ (atRest_setEngine _ h)))
  · exact h

theorem atRest_storeDrawn (x : StoreState) (n : Nat) (h : s.atRest) :
    ({ s with store := x, freeCount := n } : State).atRest :=
  atRest_of_same (s := s) rfl rfl rfl rfl rfl h

theorem atRest_partErase (p : Option (Fin 48)) (h : s.atRest) : (s.partErase p).atRest := by
  unfold State.partErase
  split
  · exact atRest_storeDrawn _ _ h
  · exact h

theorem atRest_scramblePage (p : Option (Fin 48)) (h : s.atRest) : (s.scramblePage p).atRest := by
  unfold State.scramblePage
  split
  · exact atRest_storeDrawn _ _ h
  · exact h

theorem atRest_eraseSuspend (h : s.atRest) : (eraseSuspendEffect s).atRest := by
  unfold eraseSuspendEffect State.beginRead
  split
  · exact atRest_setStore _ (atRest_setStore _ (atRest_partErase _ h))
  · exact h

theorem atRest_erasePulseEnd (cells : List Byte) (h : s.atRest) : (erasePulseEndEffect cells s).atRest := by
  unfold erasePulseEndEffect
  split
  · dsimp only
    split
    · exact atRest_latch _ (atRest_setStore _ (atRest_setStore _ h))
    · split
      · exact atRest_setStore _ (atRest_setStore _ h)
      · exact atRest_latch _ (atRest_setStore _ (atRest_setStore _ h))
  · exact h

theorem atRest_programCompletion (h : s.atRest) : (programCompletionEffect s).atRest := by
  have hrebuild : ∀ (p : Fin 48) (s : State), s.atRest → (s.rebuildFor p).atRest := fun p s hs => by
    unfold State.rebuildFor
    split
    · exact atRest_setEngine _ hs
    · exact hs
  unfold programCompletionEffect
  split
  · exact h
  · refine atRest_serveWaiting (hrebuild _ _ ?_)
    split
    · exact atRest_latch _ (atRest_setStore _ h)
    · exact atRest_latch _ (atRest_setStore _ h)
  · exact h

theorem atRest_smonChange (within : Bool) (h : s.atRest) : (smonChangeEffect within s).atRest := by
  unfold smonChangeEffect
  split
  · exact h
  · have hseen : ({ s with supplyOk := within } : State).atRest := atRest_of_same rfl rfl rfl rfl rfl h
    dsimp only
    split
    · exact atRest_serveWaiting (atRest_latch _ (atRest_setStore _ (atRest_scramblePage _ hseen)))
    · exact hseen

/-! ### Ticks -/

theorem Point.tick_pin (x : Point) (n : Nat) : (x.tick n).pin = x.pin := by
  unfold Point.tick
  split <;> rfl

theorem Point.tick_latch (x : Point) (n : Nat) : (x.tick n).latch = x.latch := by
  unfold Point.tick
  split <;> rfl

theorem atRest_pointTick (h : s.atRest) : (pointTickEffect s).atRest := by
  rw [pointTickEffect_eq]
  refine atRest_of_outputs (s := s) rfl rfl (fun n => ?_) (fun _ => rfl) h
  simp only [State.point, Fin.getElem_fin, getElem_tabulate]
  exact ⟨Point.tick_pin _ _, Point.tick_latch _ _⟩

theorem Door.tick_mode (x : Door) : x.tick.mode = x.mode := by
  unfold Door.tick
  split <;> rfl

theorem atRest_doorTick (h : s.atRest) : (doorTickEffect s).atRest := by
  rw [doorTickEffect_eq]
  split
  · refine atRest_of_outputs (s := s) rfl rfl (fun _ => ⟨rfl, rfl⟩) (fun sig => ?_) h
    cases sig with
    | doorDriveOpen | doorDriveClose =>
      simp only [State.unitOutput, State.door, Fin.getElem_fin, getElem_tabulate, Door.driveOpen, Door.driveClose, Door.tick_mode]
      rfl
    | _ => rfl
  · exact h

theorem atRest_sampleTick (h : s.atRest) : (sampleTickEffect s).atRest := by
  rw [sampleTickEffect_eq]
  split
  · exact atRest_of_same rfl rfl rfl rfl rfl h
  · exact h

/-! ### Requests -/

theorem atRest_order (req : Request) (kind : Word) (run : State → State × OrderResult) (h : s.atRest) :
    (s.order req kind run).atRest := by
  unfold State.order
  split
  · exact atRest_answerOrder _ _ _ (settle_atRest _)
  · exact atRest_answerOrder _ _ _ h

theorem atRest_access (req : Request) (op a b : Word) (run : State → State × Answer) (h : s.atRest)
    (hrun : (run s).1.atRest) : (s.access req op a b run).atRest := by
  unfold State.access
  split
  · exact atRest_answerAccess _ _ _ _ _ hrun
  · exact atRest_answerAccess _ _ _ _ _ h

theorem atRest_sequenced (run : State × Answer) (h : s.atRest) (hrun : run.1.atRest) : (s.sequenced run).1.atRest := by
  unfold State.sequenced
  split
  · exact atRest_setStore _ h
  · exact hrun

theorem atRest_readEntries (table first count : Nat) (h : s.atRest) : (s.readEntries table first count).1.atRest := by
  unfold State.readEntries
  split <;> exact h

theorem atRest_writeEntries (table first count : Nat) (data : List Byte) (h : s.atRest) :
    (s.writeEntries table first count data).1.atRest := by
  unfold State.writeEntries
  split
  case h_6 =>
    dsimp only
    exact settle_atRest _
  all_goals exact h

theorem keys_writeLatches (ws : List Word) (i : Nat) (s : State) : (s.writeLatches i ws).keys = s.keys := by
  induction ws generalizing i s with
  | nil => rfl
  | cons w ws ih =>
    refine (ih (i + 1) _).trans ?_
    unfold State.writeLatch
    split <;> rfl

theorem atRest_pointValueWrite (first count : Nat) (data : List Byte) (h : s.atRest) :
    (s.pointValueWrite first count data).1.atRest := by
  unfold State.pointValueWrite
  dsimp only
  split
  · exact h
  · split
    · exact h
    · split
      · exact h
      · split
        · exact h
        · dsimp only
          exact atRest_followPins ((keys_writeLatches _ _ s).trans h.1)

theorem atRest_latchMask (mask : BitVec 24) (h : s.atRest) : (s.latchMask mask).atRest := by
  refine foldl_rel (R := fun s t => s.atRest → t.atRest) (fun _ => id) (fun _ _ _ h h' => h' ∘ h) (fun s k hs => ?_) _ s h
  split
  · exact atRest_latch k hs
  · exact hs

theorem atRest_storeClearStatus (h : s.atRest) : s.storeClearStatus.1.atRest := by
  refine atRest_sequenced _ h ?_
  split
  · exact h
  · exact atRest_setStore _ h

theorem atRest_stagingWrite (offset : Nat) (data : List Byte) (h : s.atRest) : (s.stagingWrite offset data).1.atRest := by
  refine atRest_sequenced _ h ?_
  split
  · exact h
  · split
    · exact h
    · exact atRest_setStore _ h

theorem atRest_storeSetup (mode : StoreMode) (page : Nat) (h : s.atRest) : (s.storeSetup mode page).1.atRest := by
  refine atRest_sequenced _ h ?_
  split
  · exact h
  · split
    · exact h
    · split
      · exact h
      · exact atRest_setStore _ h

theorem atRest_beginOperation (p : Fin 48) (h : s.atRest) : (s.beginOperation p).atRest := by
  unfold State.beginOperation
  refine atRest_confirmTold p ?_
  split
  · exact atRest_setStore _ h
  · exact atRest_latch _ (atRest_setStore _ h)

theorem atRest_storeConfirm (page : Nat) (h : s.atRest) : (s.storeConfirm page).1.atRest := by
  unfold State.storeConfirm
  split
  · exact h
  · split
    · exact atRest_setStore _ h
    · split
      · exact atRest_setStore _ h
      · split
        · exact atRest_setStore _ h
        · split
          · exact atRest_setStore _ h
          · exact atRest_beginOperation _ h

/-! ### Resets and start-up load -/

theorem reset_driveLevel {t : State} (h : t.pointTable = Vector.replicate 64 .default) (n : Fin 64) : t.driveLevel n = none := by
  have he : t.pointEntry n = .default := by
    rw [State.pointEntry, h, Fin.getElem_fin, Vector.getElem_replicate]
  unfold State.driveLevel State.outputActive
  rw [he]
  rfl

theorem atRest_powerOnReset (adr : Byte) (pins : BitVec 64) (s : State) : (powerOnResetEffect adr pins s).atRest := by
  unfold powerOnResetEffect
  dsimp only
  generalize s.scramblePage s.store.operationPage = ended
  refine atRest_loadReport ⟨rfl, fun n high hn => ?_⟩
  rw [reset_driveLevel rfl n] at hn
  cases hn

theorem atRest_restart (req : Request) (h : s.atRest) : (restartEffect req s).atRest := by
  unfold restartEffect
  split
  · exact atRest_answerOrder _ _ _ h
  · split
    · exact atRest_answerOrder _ _ _ h
    · refine atRest_loadReport (atRest_answerOrder _ _ _ ?_)
      rw [restarted_eq]
      exact atRest_followPins (setPort_keys _ _ _)

/-- Storing an entry moves no unit and no point, and no Point Table entry but by a Point Table entry. -/
theorem storeEntry_frame (s : State) (i : Nat) (e : TableEntry) :
    (s.storeEntry i e).points = s.points ∧ (s.storeEntry i e).fans = s.fans ∧ (s.storeEntry i e).doors = s.doors ∧
      ((∀ x, e ≠ .point x) → (s.storeEntry i e).pointTable = s.pointTable) := by
  cases e with
  | node x => exact ⟨rfl, rfl, rfl, fun _ => rfl⟩
  | channel x | calibration x | fan x | door x | trigger x =>
    simp only [State.storeEntry]
    split <;> exact ⟨rfl, rfl, rfl, fun _ => rfl⟩
  | point x =>
    simp only [State.storeEntry]
    split <;> exact ⟨rfl, rfl, rfl, fun h => absurd rfl (h x)⟩
  | watch x =>
    simp only [State.storeEntry]
    split
    · rw [writeWatchEntry_eq]
      exact ⟨rfl, rfl, rfl, fun _ => rfl⟩
    · exact ⟨rfl, rfl, rfl, fun _ => rfl⟩
  | neighbour x =>
    simp only [State.storeEntry]
    split
    · rw [writeNeighbour_eq]
      exact ⟨rfl, rfl, rfl, fun _ => rfl⟩
    · exact ⟨rfl, rfl, rfl, fun _ => rfl⟩

theorem storeBatch_frame (b : Batch) (s : State) :
    (s.storeBatch b).points = s.points ∧ (s.storeBatch b).fans = s.fans ∧ (s.storeBatch b).doors = s.doors ∧
      (b.ofPoints = false → (s.storeBatch b).pointTable = s.pointTable) := by
  induction b generalizing s with
  | nil => exact ⟨rfl, rfl, rfl, fun _ => rfl⟩
  | cons p b ih =>
    obtain ⟨h1, h2, h3, h4⟩ := ih (s.storeEntry p.1 p.2)
    obtain ⟨g1, g2, g3, g4⟩ := storeEntry_frame s p.1 p.2
    refine ⟨h1.trans g1, h2.trans g2, h3.trans g3, fun hp => ?_⟩
    simp only [Batch.ofPoints, List.any_cons, Bool.or_eq_false_iff] at hp
    exact (h4 hp.2).trans (g4 fun x hx => by rw [hx] at hp; cases hp.1)

theorem recordActs_frame (s : State) (p : Nat × TableEntry) :
    (s.recordActs p).points = s.points ∧ (s.recordActs p).fans = s.fans ∧ (s.recordActs p).doors = s.doors ∧
      (s.recordActs p).pointTable = s.pointTable := by
  unfold State.recordActs
  split
  · split <;> exact ⟨rfl, rfl, rfl, rfl⟩
  · exact ⟨rfl, rfl, rfl, rfl⟩

theorem foldl_recordActs_frame (b : Batch) (s : State) :
    (b.foldl State.recordActs s).points = s.points ∧ (b.foldl State.recordActs s).fans = s.fans ∧
      (b.foldl State.recordActs s).doors = s.doors ∧ (b.foldl State.recordActs s).pointTable = s.pointTable := by
  induction b generalizing s with
  | nil => exact ⟨rfl, rfl, rfl, rfl⟩
  | cons p b ih =>
    obtain ⟨h1, h2, h3, h4⟩ := ih (s.recordActs p)
    obtain ⟨g1, g2, g3, g4⟩ := recordActs_frame s p
    exact ⟨h1.trans g1, h2.trans g2, h3.trans g3, h4.trans g4⟩

/-- The hand-over of a written Point Table leaves no key: each hand-over ends with its keys taken. -/
theorem pointsWritten_keys (before : State) {s : State} (h : s.keys = []) : (State.pointsWritten before s).keys = [] := by
  have haccept : (forEach (State.acceptLowered before) s).keys = [] := by
    refine (forEach_keys (fun n s => ?_) s).trans h
    unfold State.acceptLowered
    split <;> rfl
  have hloss : ∀ (n : Fin 64) (s : State), s.keys = [] → (State.handLoss before n s).keys = [] := fun n s hs => by
    unfold State.handLoss
    split
    · split
      · exact hs
      · exact keys_takeKeys _
    · exact hs
  have hnow : ∀ (n : Fin 64) (s : State), s.keys = [] → (State.handNow before n s).keys = [] := fun n s hs => by
    unfold State.handNow
    dsimp only
    split
    · split
      · exact keys_takeKeys _
      · split
        · exact hs
        · split
          · exact keys_takeKeys _
          · exact keys_takeKeys _
    · exact hs
  unfold State.pointsWritten
  dsimp only
  split
  · exact forEach_keeps (P := fun s => s.keys = []) (fun n s hs => hnow n _ (hloss n s hs)) haccept
  · exact haccept

theorem atRest_takeRecord (b : Batch) (h : s.atRest) : (s.takeRecord b).atRest := by
  obtain ⟨h1, h2, h3, h4⟩ := storeBatch_frame b s
  obtain ⟨g1, g2, g3, g4⟩ := foldl_recordActs_frame b (s.storeBatch b)
  unfold State.takeRecord
  dsimp only
  split
  · exact atRest_followPins (pointsWritten_keys s h.1)
  next hp =>
    exact atRest_of_same (s := s) rfl (g4.trans (h4 (by simpa using hp))) (g1.trans h1) (g2.trans h2) (g3.trans h3) h

theorem atRest_applyRecord (afterRestart : Bool) (id first count : Nat) (ws : List Word) (h : s.atRest) :
    (s.applyRecord afterRestart id first count ws).atRest := by
  unfold State.applyRecord
  split
  · exact h
  · split
    · exact atRest_takeRecord _ h
    · split
      · exact h
      · exact atRest_latch _ h
    · exact atRest_latch _ h

theorem atRest_applyRecords (afterRestart : Bool) (page : List Byte) (fuel pos : Nat) {s : State} (h : s.atRest) :
    (applyRecords afterRestart page fuel pos s).atRest := by
  induction fuel generalizing pos s with
  | zero => exact h
  | succ fuel ih =>
    unfold applyRecords
    split
    · exact h
    · split
      · exact h
      · split
        · exact atRest_latch _ h
        · dsimp only
          split
          · exact atRest_latch _ h
          · exact ih _ (atRest_applyRecord _ _ _ _ _ h)

theorem atRest_loadRead (h : s.atRest) : s.loadRead.atRest := by
  unfold State.loadRead
  split
  · exact atRest_partErase _ h
  · exact h

theorem atRest_imageReplay (h : s.atRest) : (imageReplayEffect s).atRest := by
  have hload : ∀ (s : State) (l : LoadPhase), s.atRest → ({ s with load := l } : State).atRest := fun _ _ =>
    atRest_of_same rfl rfl rfl rfl rfl
  have hpage : ∀ (afterRestart : Bool) (page : List Byte) (s : State), s.atRest →
      (s.applyImagePage afterRestart page).atRest := fun afterRestart page s hs => by
    unfold State.applyImagePage
    split
    · exact atRest_applyRecords _ _ _ _ hs
    · exact atRest_latch _ hs
  have hbuild : ∀ (p : Fin 32) (s : State), s.atRest → (s.buildPage p).atRest := fun p s hs => by
    unfold State.buildPage
    exact atRest_setEngine _ (atRest_loadRead hs)
  unfold imageReplayEffect
  split
  · split
    · unfold State.replayPage
      dsimp only
      split
      · exact hload _ _ (hpage _ _ _ (atRest_loadRead h))
      · exact hload _ _ (forEach_keeps hbuild (hpage _ _ _ (atRest_loadRead h)))
    · exact h
  · exact h

theorem keys_writePressurisation (f : Fin 6) (s : State) : (s.writePressurisation f).keys = s.keys := setFan_keys s f _

theorem startUnits_keys (s : State) : s.startUnits.keys = s.keys := by
  have hdoor : ∀ (d : Fin 6) (s : State), (s.startDoor d).keys = s.keys := fun d s => by
    unfold State.startDoor
    split <;> exact setDoor_keys s d _
  have hfan : ∀ (f : Fin 6) (s : State), (s.startFan f).keys = s.keys := fun f s => by
    unfold State.startFan
    rw [keys_resolveFan, keys_writePressurisation, setFan_keys]
  have hchannel : ∀ (n : Fin 12) (s : State), (s.startChannel n).keys = s.keys := fun n s => setChannel_keys s n _
  have hunits : (forEach State.startChannel (forEach State.startFan (forEach State.startDoor s).startMode)).keys = s.keys := by
    rw [forEach_keys hchannel, forEach_keys hfan]
    unfold State.startMode
    rw [setEngine_keys, forEach_keys hdoor]
  unfold State.startUnits
  dsimp only
  generalize forEach State.startChannel (forEach State.startFan (forEach State.startDoor s).startMode) = units at hunits ⊢
  rw [keys_followPins]
  exact hunits

theorem atRest_unitsStart (h : s.atRest) : (unitsStartEffect s).atRest := by
  unfold unitsStartEffect
  split
  · exact ⟨(startUnits_keys s).trans h.1, followPins_pinsDriven _⟩
  · exact h

/-! ### The step -/

theorem atRest_linkTimerExpiry (p : Port) (h : s.atRest) : (linkTimerExpiryEffect p s).atRest := by
  unfold linkTimerExpiryEffect
  split
  · exact atRest_latch _ (atRest_setPort _ _ h)
  · exact h

theorem atRest_transmitEnd (p : Port) (h : s.atRest) : (transmitEndEffect p s).atRest := by
  unfold transmitEndEffect
  split
  · exact atRest_setPort _ _ h
  · exact h

theorem atRest_warmUpEnd (n : Fin 12) (h : s.atRest) : (warmUpEndEffect n s).atRest := by
  unfold warmUpEndEffect
  split
  · exact atRest_setChannel _ _ h
  · exact h

theorem atRest_frameArrival (p : Port) (f : List Byte) (h : s.atRest) : (frameArrivalEffect p f s).atRest := by
  unfold frameArrivalEffect
  split
  · exact settle_atRest _
  · exact atRest_latch _ h

theorem exec_atRest (c : Instr) (h : s.atRest) : ∃ t, exec c s = .next t ∧ t.atRest := by
  cases c with
  | powerOnReset adr pins => exact ⟨_, rfl, atRest_powerOnReset adr pins s⟩
  | imageReplay => exact ⟨_, rfl, atRest_imageReplay h⟩
  | unitsStart => exact ⟨_, rfl, atRest_unitsStart h⟩
  | frameArrival p f => exact ⟨_, rfl, atRest_frameArrival p f h⟩
  | linkTimerExpiry p => exact ⟨_, rfl, atRest_linkTimerExpiry p h⟩
  | transmitEnd p => exact ⟨_, rfl, atRest_transmitEnd p h⟩
  | warmUpEnd n => exact ⟨_, rfl, atRest_warmUpEnd n h⟩
  | eraseSuspend => exact ⟨_, rfl, atRest_eraseSuspend h⟩
  | pointTick => exact ⟨_, rfl, atRest_pointTick h⟩
  | smonChange within => exact ⟨_, rfl, atRest_smonChange within h⟩
  | erasePulseEnd cells => exact ⟨_, rfl, atRest_erasePulseEnd cells h⟩
  | programCompletion => exact ⟨_, rfl, atRest_programCompletion h⟩
  | doorTick => exact ⟨_, rfl, atRest_doorTick h⟩
  | sampleTick => exact ⟨_, rfl, atRest_sampleTick h⟩
  | frameCutOff p => exact ⟨_, rfl, atRest_latch _ h⟩
  | restart req => exact ⟨_, rfl, atRest_restart req h⟩
  | readEntries req table first count => exact ⟨_, rfl, atRest_access _ _ _ _ _ h (atRest_readEntries _ _ _ h)⟩
  | writeEntries req table first count data => exact ⟨_, rfl, atRest_access _ _ _ _ _ h (atRest_writeEntries _ _ _ _ h)⟩
  | pointValueWrite req a first count data => exact ⟨_, rfl, atRest_access _ _ _ _ _ h (atRest_pointValueWrite _ _ _ h)⟩
  | eventClear req low high => exact ⟨_, rfl, atRest_access _ _ _ _ _ h (atRest_of_same rfl rfl rfl rfl rfl h)⟩
  | eventSet req low high => exact ⟨_, rfl, atRest_access _ _ _ _ _ h (atRest_latchMask _ h)⟩
  | storeClearStatus req a b => exact ⟨_, rfl, atRest_access _ _ _ _ _ h (atRest_storeClearStatus h)⟩
  | storeRead req page offset length => exact ⟨_, rfl, atRest_access _ _ _ _ _ h (atRest_sequenced _ h h)⟩
  | stagingWrite req a offset data => exact ⟨_, rfl, atRest_access _ _ _ _ _ h (atRest_stagingWrite _ _ h)⟩
  | stagingRead req a offset length => exact ⟨_, rfl, atRest_access _ _ _ _ _ h (atRest_sequenced _ h h)⟩
  | eraseSetup req page b => exact ⟨_, rfl, atRest_access _ _ _ _ _ h (atRest_storeSetup _ _ h)⟩
  | programSetup req page b => exact ⟨_, rfl, atRest_access _ _ _ _ _ h (atRest_storeSetup _ _ h)⟩
  | storeConfirm req page b => exact ⟨_, rfl, atRest_access _ _ _ _ _ h (atRest_storeConfirm _ h)⟩
  | pointValueRead req a first count => exact ⟨_, rfl, atRest_access _ _ _ _ _ h h⟩
  | storeStatus req a b => exact ⟨_, rfl, atRest_access _ _ _ _ _ h h⟩
  | unknownOperation req head => exact ⟨_, rfl, atRest_access _ _ _ _ _ h h⟩
  | fanSet | fanRelease | fanReset | doorOpen | doorHold | doorFree | doorClose | doorServiceOff | doorServiceOn
  | incidentOn | incidentClear | responseRun | responseCancel | unknownOrder => exact ⟨_, rfl, atRest_order _ _ _ h⟩
  | markTimerExpiry | localCycleTimerExpiry | sampleEvent | fetchCompletion | holdTimerExpiry | rampTick
  | startTimerExpiry | confirmLossTimerExpiry | coastTimerExpiry | travelTimerExpiry | dwellExpiry | pinChange
  | filterAccept => exact ⟨_, rfl, settle_atRest _⟩

/-- Settles O6: a command that can move a unit settles, and the others offer no key and move no output. -/
theorem stepKeepsTheMachineAtRest : Obligations.StepKeepsTheMachineAtRest := by
  intro s t hs h
  unfold step at h
  split at h
  · exact Host.Outcome.next.inj h ▸ (atRest_of_same rfl rfl rfl rfl rfl hs : s.millisecond.atRest)
  next c rest _ =>
    have hrest : ({ s with pending := rest } : State).atRest := atRest_of_same rfl rfl rfl rfl rfl hs
    obtain ⟨u, hu, hk⟩ := exec_atRest c hrest
    exact Host.Outcome.next.inj (hu.symm.trans h) ▸ hk

end Sys2Proof.Machine
end

section
/-! The step itself, the state after reset, and the ticks that only count (O1 to O3, O17). -/

namespace Sys2Proof.Machine

theorem State.started_iff (s : State) : s.started = true ↔ s.load = .running := decide_eq_true_iff

theorem State.started_of_running {s : State} (h : s.load = .running) : s.started = true := s.started_iff.2 h

theorem State.not_started {s : State} (h : s.load ≠ .running) : s.started = false := decide_eq_false h

/-- Settles O1, by the definition of a step. -/
theorem stepRunsTheFrontCommand : Obligations.StepRunsTheFrontCommand := fun _ _ => rfl

theorem millisecond_active (e : EngineState) (k : Fin 4) :
    e.millisecond.active[k] = (e.active[k]).map fun r => { r with hold := r.hold.map (· - 1) } := by
  simp only [EngineState.millisecond, Fin.getElem_fin, getElem_tabulate]

/-- Settles O2: the step of an empty queue is the model's millisecond. -/
theorem emptyQueueLetsAMillisecondPass : Obligations.EmptyQueueLetsAMillisecondPass := by
  intro s hs
  refine ⟨s.millisecond, ?_, rfl, millisecond_active s.engine⟩
  unfold step
  rw [hs]

theorem reset_fan (f : Fin 6) : State.reset.fan f = .reset := by
  rw [State.fan, show State.reset.fans = Vector.replicate 6 .reset from rfl, Fin.getElem_fin, Vector.getElem_replicate]

theorem reset_atRest : State.reset.atRest :=
  ⟨rfl, fun n high h => by rw [reset_driveLevel rfl n] at h; cases h⟩

/-- Settles O3: each part of the reset state meets its own invariant. -/
theorem resetMeetsTheInvariants : Obligations.ResetMeetsTheInvariants :=
  have hfan : ∀ f : Fin 6, ∃ d, State.reset.fan f = { Fan.reset with direction := d } := fun f => ⟨.fwd, reset_fan f⟩
  ⟨⟨rfl, rfl, rfl⟩, ⟨PortState.reset_bounded, PortState.reset_bounded⟩,
    fun f => .inr (.inr (congrArg Fan.ramp (reset_fan f))), reset_atRest, StoreState.coherent_poweredOn State.reset.store,
    reset_tablesInRange, speedsInRange_of_reset hfan rfl, reset_orderly, demandsActive_of_reset hfan rfl, rfl⟩

/-! ### The ticks that only count -/

theorem Channel.tick_eq (c : Channel) :
    c.tick =
      if c.mode = .off then c
      else { c with countdown := c.countdown - 1, warmUp := c.warmUp - if c.mode = .warming then 1 else 0 } := by
  unfold Channel.tick
  cases h : c.mode <;> simp

theorem Door.tick_eq (x : Door) :
    x.tick =
      if x.mode = .opening ∨ x.mode = .closing then { x with travelTimer := x.travelTimer - 1 }
      else if x.mode = .opened then { x with dwellTimer := x.dwellTimer - 1 }
      else x := by
  unfold Door.tick
  cases h : x.mode <;> simp

/-- Settles O17, from the equations of the ticks. -/
theorem ticksCountAndWarmUpEnds : Obligations.TicksCountAndWarmUpEnds := by
  intro s
  refine ⟨⟨_, rfl, ?_, fun n => ?_⟩, ⟨_, rfl, ?_, fun d => ?_⟩, ⟨_, rfl, ?_, fun n => ?_⟩, fun n => ?_⟩
  · rw [sampleTickEffect_eq]
    split <;> rfl
  · rw [sampleTickEffect_eq]
    by_cases hload : s.load = .running
    · rw [if_pos (State.started_of_running hload)]
      simp only [Fin.getElem_fin, getElem_tabulate, State.channel, Channel.tick_eq, hload, true_and, ite_not]
    · rw [if_neg (by simp [State.not_started hload])]
      simp [hload]
  · rw [doorTickEffect_eq]
    split <;> rfl
  · rw [doorTickEffect_eq]
    by_cases hload : s.load = .running
    · rw [if_pos (State.started_of_running hload)]
      simp only [Fin.getElem_fin, getElem_tabulate, State.door, Door.tick_eq, hload, true_and]
    · rw [if_neg (by simp [State.not_started hload])]
      simp [hload]
  · rw [pointTickEffect_eq]
  · rw [pointTickEffect_eq]
    simp only [Fin.getElem_fin, getElem_tabulate, State.point, State.pointEntry, Point.tick]
    rfl
  · show Host.Outcome.next (warmUpEndEffect n s) = _
    unfold warmUpEndEffect
    simp only [State.started_iff]
    rfl

end Sys2Proof.Machine
end

section
/-! Link timers, transmitters, and the replies to orders and table accesses (O33, O34). -/

namespace Sys2Proof.Machine

/-! ### Orders and accesses by the phase of the load (R187) -/

theorem order_of_running {s : State} (h : s.load = .running) (req : Request) (kind : Word)
    (run : State → State × OrderResult) :
    s.order req kind run = ((run s).1.settle).answerOrder req kind (run s).2 := by
  rw [State.order, if_pos (State.started_of_running h)]

theorem order_of_loading {s : State} (h : s.load ≠ .running) (req : Request) (kind : Word)
    (run : State → State × OrderResult) : s.order req kind run = s.answerOrder req kind .busy := by
  rw [State.order, if_neg (by simp [State.not_started h])]

theorem access_of_running {s : State} (h : s.load = .running) (req : Request) (op a b : Word)
    (run : State → State × Answer) : s.access req op a b run = (run s).1.answerAccess req op a b (run s).2 := by
  rw [State.access, if_pos (State.started_of_running h)]

theorem access_of_loading {s : State} (h : s.load ≠ .running) (req : Request) (op a b : Word)
    (run : State → State × Answer) : s.access req op a b run = s.answerAccess req op a b (.plain .busy) := by
  rw [State.access, if_neg (by simp [State.not_started h])]

/-! ### Replies as frames (R112, R198, R199) -/

theorem answerOrder_unanswered {req : Request} {s : State} (h : req.own = false ∨ s.address = none) (kind : Word)
    (r : OrderResult) : s.answerOrder req kind r = s := by
  rw [State.answerOrder, if_neg]
  rcases h with h | h <;> simp [h]

theorem answerAccess_unanswered {req : Request} {s : State} (h : req.own = false ∨ s.address = none)
    (op a b : Word) (x : Answer) : s.answerAccess req op a b x = s := by
  rw [State.answerAccess, if_neg]
  rcases h with h | h <;> simp [h]

theorem answerOrder_answered {req : Request} {s : State} {a : Byte} (hr : req.own = true) (ha : s.address = some a)
    (kind : Word) (r : OrderResult) :
    s.answerOrder req kind r =
      s.queueTo req.port (s.buildFrame 4 req.source req.tag (bytesOf [kind, BitVec.ofNat 16 r.code])) := by
  rw [State.answerOrder, if_pos (by simp [hr, ha])]

theorem answerAccess_answered {req : Request} {s : State} {a : Byte} (hr : req.own = true) (ha : s.address = some a)
    (op p q : Word) (x : Answer) :
    s.answerAccess req op p q x = s.queueTo req.port (s.buildFrame 6 req.source req.tag (x.payload op p q)) := by
  rw [State.answerAccess, if_pos (by simp [hr, ha])]

/-- A frame the node originates, byte by byte. -/
theorem buildFrame_eq {s : State} {a : Byte} (ha : s.address = some a) (kind destination tag : Byte)
    (payload body : List Byte)
    (hb : body = [kind, destination, a, tag, s.cycle.number.extractLsb' 8 8, s.cycle.number.extractLsb' 0 8,
      BitVec.ofNat 8 payload.length, 0] ++ payload) :
    s.buildFrame kind destination tag payload =
      body ++ [(checkOf body).extractLsb' 8 8, (checkOf body).extractLsb' 0 8] := by
  have hbody : s.frameBody kind destination tag payload = body := by
    rw [hb, State.frameBody, ha]
    rfl
  rw [State.buildFrame, hbody]
  rfl

theorem orderReply_bytes (kind : Word) (r : OrderResult) :
    bytesOf [kind, BitVec.ofNat 16 r.code] =
      [kind.extractLsb' 8 8, kind.extractLsb' 0 8, 0, BitVec.ofNat 8 r.code] := by
  cases r <;> rfl

theorem Answer.payload_eq {op : Word} (hop : op.toNat < 256) (a b : Word) (x : Answer) :
    x.payload op a b =
      [op.extractLsb' 0 8, BitVec.ofNat 8 x.status.code, a.extractLsb' 8 8, a.extractLsb' 0 8, b.extractLsb' 8 8,
        b.extractLsb' 0 8, x.number.extractLsb' 8 8, x.number.extractLsb' 0 8] ++ x.data := by
  rw [Answer.payload, operationByte, if_pos hop]
  rfl

/-- Three words that a head cut short begins: those it carries and the open ones. -/
theorem head_isPrefix {head : List Word} (req : Request) (h : head.length < 3) :
    head <+: [headWord req head 0, headWord req head 1, headWord req head 2] := by
  match head, h with
  | [], _ => exact ⟨_, rfl⟩
  | [_], _ => exact ⟨_, rfl⟩
  | [_, _], _ => exact ⟨_, rfl⟩

theorem exec_order_of_loading {s : State} (h : s.load ≠ .running) {c : Instr} {req : Request} {kind : Word}
    (hc : orderOf c = some (req, kind)) : exec c s = .next (s.answerOrder req kind .busy) := by
  have hload := order_of_loading h
  cases c with
  | restart =>
    cases hc
    show Host.Outcome.next (restartEffect req s) = _
    rw [restartEffect, if_pos (by simp [State.not_started h])]
  | unknownOrder _ k =>
    cases k with
    | none => cases hc
    | some k =>
      cases hc
      exact congrArg Host.Outcome.next (hload req kind _)
  | fanSet | fanRelease | fanReset | doorOpen | doorHold | doorFree | doorClose | doorServiceOff | doorServiceOn
  | incidentOn | incidentClear | responseRun | responseCancel =>
    cases hc
    exact congrArg Host.Outcome.next (hload req _ _)
  | _ => cases hc

theorem exec_access_of_loading {s : State} (h : s.load ≠ .running) {c : Instr} {req : Request} {op a b : Word}
    (hc : accessOf c = some (req, op, a, b)) : exec c s = .next (s.answerAccess req op a b (.plain .busy)) := by
  cases c with
  | unknownOperation _ head =>
    match head, hc with
    | _ :: _ :: _ :: _, hc =>
      cases hc
      exact congrArg Host.Outcome.next (access_of_loading h req op a b fun s => (s, .plain .unknownTable))
  | readEntries | writeEntries | pointValueRead | pointValueWrite | eventClear | eventSet | storeStatus
  | storeClearStatus | storeRead | stagingWrite | stagingRead | eraseSetup | programSetup | storeConfirm =>
    cases hc
    exact congrArg Host.Outcome.next (access_of_loading h req _ _ _ _)
  | _ => cases hc

/-- Settles O34: the two replies as frames, then the unknown kinds in each phase of the load. -/
theorem requestsAreAnsweredUnknownOrBusy : Obligations.RequestsAreAnsweredUnknownOrBusy := by
  refine ⟨⟨fun req kind r s => ⟨fun h => answerOrder_unanswered h kind r, fun a body hr ha hb => ?_⟩,
    fun req op a b x s hop => ⟨fun h => answerAccess_unanswered h op a b x, fun n body hr hn hb => ?_⟩,
    fun req s hs hload => ?_⟩, fun s hload => ⟨fun c req kind => exec_order_of_loading hload,
      fun c req op a b => exec_access_of_loading hload, fun req => ⟨⟨Config.missingOrderKind req.tag, ?_⟩, fun head hh => ?_⟩⟩⟩
  · rw [answerOrder_answered hr ha, buildFrame_eq ha]
    rw [orderReply_bytes, hb]
    rfl
  · rw [answerAccess_answered hr hn, buildFrame_eq hn]
    rw [x.payload_eq hop, hb, List.length_append]
    rfl
  · have horder : ∀ kind : Word, s.order req kind State.unknownOrder = s.answerOrder req kind .unknownTarget := fun kind => by
      rw [order_of_running hload]
      show (s.settle).answerOrder req kind .unknownTarget = _
      rw [settle_of_atRest hs]
    have haccess : ∀ op a b : Word,
        s.access req op a b (fun s => (s, .plain .unknownTable)) = s.answerAccess req op a b (.plain .unknownTable) :=
      fun op a b => access_of_running hload req op a b _
    exact ⟨fun kind => congrArg Host.Outcome.next (horder kind), ⟨Config.missingOrderKind req.tag, congrArg Host.Outcome.next (horder _)⟩,
      fun op a b rest => congrArg Host.Outcome.next (haccess op a b),
      fun head hh => ⟨_, _, _, head_isPrefix req hh, congrArg Host.Outcome.next (haccess _ _ _)⟩⟩
  · exact congrArg Host.Outcome.next (order_of_loading hload req _ _)
  · exact ⟨_, _, _, head_isPrefix req hh, congrArg Host.Outcome.next (access_of_loading hload req _ _ _ _)⟩

/-! ### Link timers and transmitters -/

/-- Settles O33, by the cases of the arbiter's choice. -/
theorem linkTimersAndTransmitters : Obligations.LinkTimersAndTransmitters := by
  refine ⟨fun p s => ⟨fun h => ?_, fun hup htimer => ?_⟩, fun p s x hx => ⟨fun h => ?_, fun h => ?_⟩⟩
  · show Host.Outcome.next (linkTimerExpiryEffect p s) = _
    rw [linkTimerExpiryEffect, if_neg]
    rcases h with h | h <;> simp [h]
  · show Host.Outcome.next (linkTimerExpiryEffect p s) = _
    rw [linkTimerExpiryEffect, if_pos ⟨hup, htimer⟩]
    cases p <;> rfl
  · show Host.Outcome.next (transmitEndEffect p s) = _
    rw [transmitEndEffect, ← hx, h]
    rfl
  · have hexec : exec (.transmitEnd p) s = .next (s.setPort p ({ x with sending := none } : PortState).choose) := by
      show Host.Outcome.next (transmitEndEffect p s) = _
      rw [transmitEndEffect, ← hx, if_pos h]
    rw [hexec]
    unfold PortState.choose
    refine ⟨fun hp hi => ?_, fun f fs hp hi => ?_, fun i is hi hs => ?_, fun f i fs is hp hi hs => ?_⟩
    · simp only [hp, hi]
    · simp only [hp, hi]
    · cases hp : x.pass with
      | nil => simp only [hi]
      | cons f fs =>
        have hfull : x.starvation = 4 := hs.resolve_left (by simp [hp])
        simp only [hi, hfull, if_true]
    · simp only [hp, hi, hs, if_false]

end Sys2Proof.Machine
end

section
/-! The field words of every table entry and view (O50). -/

namespace Sys2Proof.Machine

theorem rowOf_fin {α : Type} {n : Nat} (words : α → List Int) (v : Vector α n) (i : Fin n) :
    rowOf words v i = words v[i] := dif_pos i.isLt

theorem unitRow_fin {n : Nat} (words : Fin n → List Int) (i : Fin n) : unitRow n words i = words i := dif_pos i.isLt

theorem toList_flatMap {α β : Type} {n : Nat} (v : Vector α n) (g : α → List β) :
    v.toList.flatMap g = (List.finRange n).flatMap fun i => g v[i] := by
  have hv : v.toList = (List.finRange n).map fun i => v[i] :=
    List.ext_getElem (by simp) fun i _ _ => by simp
  rw [hv, List.flatMap_map]

theorem Channel.statusWords_eq (c : Channel) :
    c.statusWords =
      [match c.mode with | .off => 0 | .warming => 1 | .run => 2 | .failed => 3,
        c.last.elim 0 fun x => (x.raw : Int), c.last.elim 0 fun x => if x.valid = true then 1 else 2,
        c.last.elim 0 LastSample.value, c.last.elim 0 LastSample.output,
        if c.mode = .warming then ((c.warmUp + 99) / 100 : Nat) else 0, c.window.count] ++
        (match c.result with
        | none => [0, 0, 0, 0, 0, 0]
        | some r =>
          [match r.quality with | .good => 1 | .doubtful => 2 | .failed => 3 | .warming => 4, r.mean, r.maximum,
            r.minimum, r.valid, r.exceedance]) ++
        [(c.level : Int), c.rise, c.fall, c.failedWindows] := by
  have hmode : (c.mode.code : Int) = match c.mode with | .off => 0 | .warming => 1 | .run => 2 | .failed => 3 := by
    cases c.mode <;> rfl
  have hquality : ∀ r : WindowResult,
      (qualityCode (some r) : Int) = match r.quality with | .good => 1 | .doubtful => 2 | .failed => 3 | .warming => 4 :=
    fun r => by simp only [qualityCode]; cases r.quality <;> rfl
  have hround : ∀ n : Nat, roundedUp n 100 = (n + 99) / 100 := fun _ => rfl
  unfold Channel.statusWords
  rw [hmode, hround]
  cases c.last with
  | none =>
    cases c.result with
    | none => rfl
    | some r => rw [hquality r]; rfl
  | some x =>
    cases c.result with
    | none => rfl
    | some r => rw [hquality r]; rfl

theorem demandWords_elim (d : Option Demand) :
    demandWords d = d.elim [0, 0, 0, 0] fun d => [(d.precedence : Int), d.direction.code, d.speed, d.rate] := by
  cases d <;> rfl

theorem Direction.code_eq (d : Direction) : (d.code : Int) = if d = .rev then 1 else 0 := by cases d <;> rfl

theorem Source.code_eq (x : Source) :
    (x.code : Int) = match x with | .none => 0 | .line => 1 | .response k => 2 + k.val | .pressurisation => 6 := by
  cases x <;> rfl

theorem Fan.runOutput_eq (x : Fan) :
    x.runOutput = decide (x.mode = .starting ∨ x.mode = .running ∨ x.mode = .stopping) := by
  unfold Fan.runOutput
  cases x.mode <;> rfl

theorem Fan.shownTimer_eq (x : Fan) :
    x.shownTimer =
      match x.mode with
      | .starting => x.startTimer
      | .coasting => x.coastTimer
      | .running | .stopping => x.lossTimer.getD 0
      | _ => 0 := by
  unfold Fan.shownTimer
  rfl

theorem roundedUp_ten (n : Nat) : roundedUp n 10 = (n + 9) / 10 := rfl

theorem State.fanStatusWords_eq (s : State) (f : Fin 6) :
    s.fanStatusWords f =
      [((s.fan f).mode.code : Int), if (s.fan f).direction = .rev then 1 else 0, flagCode (s.fan f).runOutput,
        if (s.fan f).runOutput = true then ((s.fan f).ramp / 100 : Nat) else 0, ((s.fan f).ramp / 10 : Nat),
        (((s.fan f).shownTimer + 9) / 10 : Nat), s.inputCode (.fanConfirm f), s.inputCode (.fanIsolator f),
        if (s.fan f).target.direction = .rev then 1 else 0, (s.fan f).target.speed, (s.fan f).target.rate,
        ((s.fan f).target.source.code : Int)] ++
        demandWords (s.fan f).lineSlot ++
        ((List.finRange 4).flatMap fun k => demandWords (((s.fan f).responseSlots[k]).map ResponseDemand.demand)) ++
        demandWords (s.fan f).pressurisationSlot := by
  unfold State.fanStatusWords
  dsimp only
  rw [toList_flatMap, ← Direction.code_eq, ← Direction.code_eq, roundedUp_ten, Fan.speedReference]
  split <;> rfl

theorem Door.shownTimer_eq (x : Door) :
    x.shownTimer =
      match x.mode with
      | .opening | .closing => x.travelTimer
      | .opened => x.dwellTimer
      | _ => 0 := by
  unfold Door.shownTimer
  rfl

theorem Door.holdSet_eq (x : Door) :
    (x.holdSet : Int) =
      flagCode x.responseHolds[0] + 2 * flagCode x.responseHolds[1] + 4 * flagCode x.responseHolds[2] +
        8 * flagCode x.responseHolds[3] + 16 * flagCode x.lineHold := by
  have hsum : x.holdSet =
      ((if x.responseHolds[0] then 1 else 0) + ((if x.responseHolds[1] then 2 else 0) +
        ((if x.responseHolds[2] then 4 else 0) + ((if x.responseHolds[3] then 8 else 0) + 0)))) +
        if x.lineHold then 16 else 0 := rfl
  have hflag : ∀ (b : Bool) (n : Nat), ((if b then n else 0 : Nat) : Int) = n * flagCode b := fun b n => by
    cases b <;> simp [flagCode]
  rw [hsum]
  push_cast [hflag]
  have hone : ∀ b : Bool, ((if b then 1 else 0 : Nat) : Int) = flagCode b := fun b => by cases b <;> rfl
  ring_nf

theorem activeWords_elim (a : Option ActiveResponse) :
    activeWords a =
      a.elim [-1, 0, 0, -1, 0, 0, 0] fun a =>
        [(a.number.val : Int), a.precedence, flagCode a.enter, a.successor.elim (-1) fun n => (n.val : Int),
          a.hold.elim (-1) fun ms => ((max 1 ((ms + 999) / 1000) : Nat) : Int),
          (a.sequence / 65536 : Nat), (a.sequence % 65536 : Nat)] := by
  cases a with
  | none => rfl
  | some a =>
    obtain ⟨number, precedence, enter, successor, hold, sequence⟩ := a
    cases successor <;> cases hold <;> rfl

theorem queueWords_elim (q : Option Queued) :
    queueWords q = q.elim [-1, 0] fun q => [(q.number.val : Int), (q.precedence : Int)] := by cases q <;> rfl

theorem fetchWords_elim (f : Option Fetch) :
    fetchWords f =
      f.elim [-1, 0, 0] fun f => [(f.number.val : Int), (f.precedence : Int), flagCode f.cancelled + 2 * flagCode f.disturbed] := by
  cases f <;> rfl

theorem State.engineStatusWords_eq (s : State) :
    s.engineStatusWords =
      [(s.engine.mode.code : Int), s.inputCode .maintKey, (s.engine.queue.length : Int)] ++
        ((List.finRange 4).flatMap fun i => queueWords (s.engine.queue[i.val]?)) ++ fetchWords s.engine.fetch ++
        (List.finRange 4).flatMap fun k => activeWords s.engine.active[k] := by
  unfold State.engineStatusWords
  dsimp only
  rw [toList_flatMap]
  rfl

theorem isReport_any (p : PortState) :
    flagCode (p.insertQueue.any isReport) = if ∃ f ∈ p.insertQueue, isReport f = true then 1 else 0 := by
  simp only [flagCode, List.any_eq_true]

/-- Settles O50: table by table and view by view, the model's words read as the statement writes them. -/
theorem entriesAreShownInFieldWords : Obligations.EntriesAreShownInFieldWords := by
  intro s shown input flag hshown hflag hinput
  obtain rfl : flag = flagCode := funext hflag
  obtain rfl : input = s.inputCode := funext hinput
  obtain rfl : shown = List.map fieldWord := funext hshown
  refine ⟨fun e he => ?_, fun n e he => ?_, fun n e he => ?_, fun f e he => ?_, fun d e he => ?_, fun i e he => ?_,
    fun i e he => ?_, fun i e he => ?_, fun i e he => ?_, fun n => ?_, fun n c hc => ?_,
    fun f x slot runs hx hruns hslot => ?_, fun d x hx => ?_, ?_, fun a b c queued ha hb hc hqueued => ?_⟩
  all_goals simp only [State.entryWords, State.entryValues, rowOf_fin, unitRow_fin]
  · rw [he]; rfl
  · rw [← he]; rfl
  · rw [← he, CalibrationEntry.words, toList_flatMap]
  · rw [← he]; rfl
  · rw [← he, DoorEntry.words]
    cases e.galleryFan <;> rfl
  · rw [← he, WatchEntry.words]
    cases e.latch <;> rfl
  · rw [← he]; rfl
  · rw [← he]; rfl
  · rw [← he]; rfl
  · cases s.engine.index[n] <;> rfl
  · rw [← hc]
    exact congrArg (List.map fieldWord) c.statusWords_eq
  · obtain rfl : slot = demandWords := funext fun d => (hslot d).trans (demandWords_elim d).symm
    rw [s.fanStatusWords_eq, Source.code_eq, Fan.shownTimer_eq, hruns, ← Fan.runOutput_eq, hx]
    rfl
  · rw [State.doorStatusWords]
    rw [Door.holdSet_eq, roundedUp_ten, Door.shownTimer_eq, hx]
    cases s.signalActive (.doorClosed d) <;> rfl
  · simp only [s.engineStatusWords_eq, queueWords_elim, fetchWords_elim, activeWords_elim]
    cases s.engine.mode <;> rfl
  · rw [State.lineStatusWords]
    rw [hqueued, hqueued, isReport_any, isReport_any, ha, hb, hc]

end Sys2Proof.Machine
end

section
/-! What a taken write of a table does besides storing its entries (O53, O54). -/

namespace Sys2Proof.Machine

/-! ### A run of entries handed to the units -/

/-- Two folds whose bodies agree wherever an invariant over the rows still to come holds. -/
theorem foldl_congr_of_remaining {ι σ : Type} {P : List ι → σ → Prop} {f g : σ → ι → σ}
    (h : ∀ i l u, P (i :: l) u → f u i = g u i ∧ P l (g u i)) (l : List ι) (u : σ) (hP : P l u) :
    l.foldl f u = l.foldl g u := by
  induction l generalizing u with
  | nil => rfl
  | cons i l ih =>
    obtain ⟨heq, hrest⟩ := h i l u hP
    rw [List.foldl_cons, List.foldl_cons, heq]
    exact ih _ hrest

def TableEntry.isPoint : TableEntry → Bool
  | .point _ => true
  | _ => false

theorem ofPoints_runFrom (first : Nat) (es : List TableEntry) : (runFrom first es).ofPoints = es.any TableEntry.isPoint := by
  induction es generalizing first with
  | nil => rfl
  | cons e es ih =>
    rw [runFrom_cons, Batch.ofPoints, List.any_cons, List.any_cons, ← ih (first + 1)]
    cases e <;> rfl

theorem ofPoints_runFrom_map {α : Type} {wrap : α → TableEntry} (h : ∀ e, (wrap e).isPoint = false) (first : Nat)
    (es : List α) : (runFrom first (es.map wrap)).ofPoints = false := by
  rw [ofPoints_runFrom, List.any_map, List.any_eq_false]
  intro e _
  simp [h]

/-- A taken write of a table that holds no points: the units take the stored rows in row order. -/
theorem takeBatch_eq_foldl {α : Type} {n : Nat} {wrap : α → TableEntry} (hwrap : ∀ e, (wrap e).isPoint = false) (s : State)
    (first : Nat) (es : List α) (h : first + es.length ≤ n) :
    s.takeBatch (runFrom first (es.map wrap)) =
      (List.finRange n).foldl
        (fun u i => ((runEntry first es i.val).map fun e => State.unitActs s u (i.val, wrap e)).getD u)
        (s.storeBatch (runFrom first (es.map wrap))) := by
  unfold State.takeBatch
  rw [ofPoints_runFrom_map hwrap, if_neg Bool.false_ne_true]
  rw [foldl_runFrom n (State.unitActs s) first (es.map wrap) (by simpa using h)]
  simp only [runEntry_map, Option.map_map, Function.comp_def]

/-- A taken write of a table whose rows no unit acts on. -/
theorem takeBatch_held {α : Type} {n : Nat} {wrap : α → TableEntry} (hwrap : ∀ e, (wrap e).isPoint = false)
    (hheld : ∀ (b u : State) i e, State.unitActs b u (i, wrap e) = u) (s : State) (first : Nat) (es : List α)
    (h : first + es.length ≤ n) :
    s.takeBatch (runFrom first (es.map wrap)) = s.storeBatch (runFrom first (es.map wrap)) := by
  rw [takeBatch_eq_foldl (n := n) hwrap s first es h]
  refine List.foldl_fixed' (fun i => ?_) _
  cases runEntry first es i.val with
  | none => rfl
  | some e => exact hheld ..

/-! ### Tables whose rows no unit acts on -/

theorem recomputeGallery_eq_filter (s : State) :
    s.recomputeGallery =
      ((List.finRange 6).filter fun f => (s.fanTable[f]).gallery).foldl (fun u f => u.recomputePressurisation f) s := by
  have htable : ∀ (f : Fin 6) (u : State), (u.recomputePressurisation f).fanTable = u.fanTable := fun f u => by
    unfold State.recomputePressurisation
    split <;> rfl
  rw [List.foldl_filter]
  refine foldl_congr_of_remaining (P := fun _ u => u.fanTable = s.fanTable) (fun f _ u hu => ?_) _ s rfl
  have hentry : u.fanEntry f = s.fanTable[f] := congrArg (fun v : Vector FanEntry 6 => v[f]) hu
  dsimp only
  rw [hentry]
  refine ⟨rfl, ?_⟩
  split
  · exact (htable f u).trans hu
  · exact hu

theorem WatchEntry.rewritten_eq_of_same {old new : WatchEntry} {same : Bool} (hnew : new.latch = none)
    (hsame : same = true ↔ new.enabled = old.enabled ∧ new.source = old.source ∧ new.kind = old.kind ∧
      new.test = old.test ∧ new.testIndex = old.testIndex ∧ new.comparison = old.comparison ∧ new.operand = old.operand) :
    same = decide ({ old with latch := none } = new) := by
  rw [Bool.eq_iff_iff, hsame, decide_eq_true_iff]
  obtain ⟨_, _, _, _, _, _, _, _⟩ := new
  simp only [WatchEntry.mk.injEq] at hnew ⊢
  subst hnew
  simp [eq_comm]

theorem watch_takeBatch {s : State} {first : Nat} {es : List WatchEntry} {table : Vector WatchEntry 32}
    {same : Fin 32 → Bool} (hlen : first + es.length ≤ 32) (hclear : ∀ e ∈ es, e.latch = none)
    (htable : table = overlaid s.watchTable first es)
    (hsame : ∀ i : Fin 32, same i = true ↔
      (table[i]).enabled = (s.watchTable[i]).enabled ∧ (table[i]).source = (s.watchTable[i]).source ∧
        (table[i]).kind = (s.watchTable[i]).kind ∧ (table[i]).test = (s.watchTable[i]).test ∧
        (table[i]).testIndex = (s.watchTable[i]).testIndex ∧
        (table[i]).comparison = (s.watchTable[i]).comparison ∧ (table[i]).operand = (s.watchTable[i]).operand) :
    s.takeBatch (runFrom first (es.map .watch)) =
      { s with
        watchTable := tabulate fun i => if same i = true then s.watchTable[i] else table[i]
        keys :=
          s.keys ++
            (List.finRange 32).filterMap fun i =>
              if same i = true then none
              else
                (s.watchTable[i]).latch.map fun a => { kind := .watchClear, index := i.val, address := some a } } := by
  have hrow : ∀ i : Fin 32, table[i] = (runEntry first es i.val).getD s.watchTable[i] := fun i => by
    rw [htable]
    exact getElem_overlaid ..
  rw [takeBatch_held (n := 32) (fun _ => rfl) (fun _ _ _ _ => rfl) s first es hlen, storeBatch_watch s first es hlen]
  have hcases : ∀ i : Fin 32,
      ((runEntry first es i.val).map (s.watchTable[i]).rewritten).getD s.watchTable[i] =
          (if same i = true then s.watchTable[i] else table[i]) ∧
        ((runEntry first es i.val).map (WatchEntry.clearKeys i s.watchTable[i])).getD [] =
          (if same i = true then none
            else (s.watchTable[i]).latch.map (nodeKey .watchClear i.val)).toList := fun i => by
    have hrow' := hrow i
    have hsame' := hsame i
    cases he : runEntry first es i.val with
    | none =>
      rw [he, Option.getD_none] at hrow'
      rw [if_pos (hsame'.2 (by simp [hrow'])), if_pos (hsame'.2 (by simp [hrow']))]
      exact ⟨rfl, rfl⟩
    | some e =>
      rw [he, Option.getD_some] at hrow'
      rw [hrow'] at hsame' ⊢
      rw [WatchEntry.rewritten_eq_of_same (hclear e (runEntry_mem he)) hsame']
      simp only [Option.map_some, Option.getD_some, WatchEntry.rewritten, WatchEntry.clearKeys, decide_eq_true_iff, true_and]
      split <;> rfl
  congr 1
  · ext i hi
    simpa using (hcases ⟨i, hi⟩).1
  · congr 1
    rw [List.filterMap_eq_flatMap_toList]
    exact List.flatMap_congr fun i _ => (hcases i).2

theorem neighbour_takeBatch {s : State} {first : Nat} {es : List NeighbourRecord} {table : Vector NeighbourRecord 16}
    (hlen : first + es.length ≤ 16) (hfresh : ∀ e ∈ es, e.state = .unknown ∧ e.silenceCount = 0)
    (htable : table = overlaid s.neighbourTable first es) :
    s.takeBatch (runFrom first (es.map .neighbour)) =
      { s with
        neighbourTable :=
          tabulate fun i =>
            if (table[i]).address = (s.neighbourTable[i]).address ∧
                (table[i]).silenceLimit = (s.neighbourTable[i]).silenceLimit then
              s.neighbourTable[i]
            else
              { address := (table[i]).address, silenceLimit := (table[i]).silenceLimit, state := .unknown
                silenceCount := 0 } } := by
  rw [takeBatch_held (n := 16) (fun _ => rfl) (fun _ _ _ _ => rfl) s first es hlen, storeBatch_neighbour s first es hlen]
  congr 1
  ext1 i hi
  have hrow : table[i] = (runEntry first es i).getD s.neighbourTable[i] := by
    rw [htable]
    exact getElem_overlaid ..
  simp only [getElem_tabulate, Fin.getElem_fin, hrow]
  cases he : runEntry first es i with
  | none => simp
  | some e =>
    obtain ⟨hstate, hcount⟩ := hfresh e (runEntry_mem he)
    simp only [Option.map_some, Option.getD_some, NeighbourRecord.rewritten, @eq_comm _ e.address, @eq_comm _ e.silenceLimit]
    split
    · rfl
    · rw [← hstate, ← hcount]

/-- Settles O54, table by table. -/
theorem takenWritesOfTheOtherTables : Obligations.TakenWritesOfTheOtherTables := by
  intro s first
  refine ⟨fun es h => ?_, fun es h => ?_, fun e => ?_, fun es table same h hclear ht hs => watch_takeBatch h hclear ht hs,
    fun es table h hfresh ht => neighbour_takeBatch h hfresh ht⟩
  · rw [takeBatch_held (n := 12) (fun _ => rfl) (fun _ _ _ _ => rfl) s first es h, storeBatch_calibration s first es h]
  · rw [takeBatch_held (n := 64) (fun _ => rfl) (fun _ _ _ _ => rfl) s first es h, storeBatch_trigger s first es h]
  · show State.unitActs s { s with nodeTable := e } (0, .node e) = _
    simp only [State.unitActs]
    split
    · rfl
    · exact recomputeGallery_eq_filter _

end Sys2Proof.Machine
end

section
/-! What a taken write of the Channel, Fan and Door Tables does to its units (O53). -/

namespace Sys2Proof.Machine

/-! ### Contacts and pressurisation -/

theorem contacts_eq (s : State) (d : Fin 6) : s.contacts d = s.shows d := by
  unfold State.contacts State.shows contactsOf
  cases s.signalActive (.doorClosed d) <;> cases s.signalActive (.doorOpen d) <;> rfl

theorem shows_congr {s t : State} (h : t.pointTable = s.pointTable) (hp : t.points = s.points) (d : Fin 6) :
    t.shows d = s.shows d := by
  unfold State.shows
  rw [signalActive_congr h hp, signalActive_congr h hp]

theorem derivedDoor_eq (s : State) (d : Fin 6) (x : Door) :
    s.derivedDoor d x =
      Door.settled (s.doorEntry d) (s.assigned (.doorClosed d) && s.assigned (.doorOpen d)) (s.shows d) x := by
  unfold State.derivedDoor Door.settled
  rw [contacts_eq, State.contactsAssigned]
  cases s.assigned (.doorClosed d) && s.assigned (.doorOpen d) with
  | false => rfl
  | true => cases s.shows d <;> rfl

theorem pressurisationDemand_congr {s t : State} (hf : t.fanTable = s.fanTable) (hd : t.doorTable = s.doorTable)
    (hn : t.nodeTable = s.nodeTable) (hm : t.engine.mode = s.engine.mode) (h : t.pointTable = s.pointTable)
    (hp : t.points = s.points) (f : Fin 6) : t.pressurisationDemand f = s.pressurisationDemand f := by
  have hspeed : t.pressurisationSpeed f = s.pressurisationSpeed f := by
    simp only [State.pressurisationSpeed, State.boosts, State.fanEntry, State.doorEntry, hf, hd, hm,
      signalActive_congr h hp]
    rfl
  simp only [State.pressurisationDemand, hspeed, State.fanEntry, hf, hn]
  rfl

/-! ### Channels -/

theorem channelWritten_eq (u : State) (n : Fin 12) (old : ChannelEntry) :
    u.channelWritten n old =
      if old.enabled = false ∧ (u.channelTable[n]).enabled = true then
        { u with
          channels :=
            u.channels.set n
              { Channel.off with
                mode := if (u.channelTable[n]).warmUp = 0 then .run else .warming
                countdown := (u.channelTable[n]).divider
                warmUp := (u.channelTable[n]).warmUp * 100 } }
      else if old.enabled = true ∧ (u.channelTable[n]).enabled = false then
        if (u.channels[n]).level = 0 then { u with channels := u.channels.set n Channel.off }
        else
          ({ u with
            channels := u.channels.set n Channel.off
            keys :=
              u.keys ++
                [{ kind := .levelDown, index := n.val, cls := some (u.channelTable[n]).cls, level := 0
                   oldLevel := (u.channels[n]).level }] } : State).latch .levelChange
      else u := by
  unfold State.channelWritten State.disableChannel
  simp only [Nat.pos_iff_ne_zero, ite_not]
  rfl

theorem channelWritten_frame (u : State) (n : Fin 12) (old : ChannelEntry) :
    (u.channelWritten n old).channelTable = u.channelTable ∧
      ∀ j, j ≠ n → (u.channelWritten n old).channels[j] = u.channels[j] := by
  have hset : ∀ (v : State) (x : Channel) (j : Fin 12), j ≠ n → (v.setChannel n x).channels[j] = v.channels[j] :=
    fun v x j hj => channel_setChannel_ne v n j x hj.symm
  simp only [State.channelWritten, State.disableChannel, State.levelReport]
  split
  · exact ⟨rfl, hset u _⟩
  · split
    · split
      · simp only [channelTable_latch, channels_latch, offer_channelTable, offer_channels]
        exact ⟨rfl, hset u _⟩
      · exact ⟨rfl, hset u _⟩
    · exact ⟨rfl, fun _ _ => rfl⟩

theorem channel_takeBatch {s : State} {first : Nat} {es : List ChannelEntry} {table : Vector ChannelEntry 12}
    (hlen : first + es.length ≤ 12) (htable : table = overlaid s.channelTable first es) :
    s.takeBatch (runFrom first (es.map .channel)) =
      (List.finRange 12).foldl
        (fun u n =>
          if (s.channelTable[n]).enabled = false ∧ (table[n]).enabled = true then
            { u with
              channels :=
                u.channels.set n
                  { Channel.off with
                    mode := if (table[n]).warmUp = 0 then .run else .warming
                    countdown := (table[n]).divider
                    warmUp := (table[n]).warmUp * 100 } }
          else if (s.channelTable[n]).enabled = true ∧ (table[n]).enabled = false then
            if (s.channels[n]).level = 0 then { u with channels := u.channels.set n Channel.off }
            else
              ({ u with
                channels := u.channels.set n Channel.off
                keys :=
                  u.keys ++
                    [{ kind := .levelDown, index := n.val, cls := some (table[n]).cls, level := 0
                       oldLevel := (s.channels[n]).level }] } : State).latch .levelChange
          else u)
        { s with channelTable := table } := by
  rw [takeBatch_eq_foldl (n := 12) (fun _ => rfl) s first es hlen, storeBatch_channel s first es hlen, ← htable]
  refine foldl_congr_of_remaining
    (P := fun l u => l.Nodup ∧ u.channelTable = table ∧ ∀ j ∈ l, u.channels[j] = s.channels[j])
    (fun n l u hu => ?_) _ _ ⟨List.nodup_finRange 12, rfl, fun _ _ => rfl⟩
  obtain ⟨hl, hut, huc⟩ := hu
  obtain ⟨hn, hl⟩ := List.nodup_cons.mp hl
  have hrow : table[n] = (runEntry first es n.val).getD s.channelTable[n] := by
    rw [htable]
    exact getElem_overlaid ..
  have hacts : ((runEntry first es n.val).map fun e => State.unitActs s u (n.val, .channel e)).getD u =
      u.channelWritten n s.channelTable[n] := by
    cases he : runEntry first es n.val with
    | none =>
      rw [he, Option.getD_none, ← hut] at hrow
      rw [channelWritten_eq, hrow, if_neg (by simp), if_neg (by simp)]
      rfl
    | some e => exact dif_pos n.isLt
  have hbody := channelWritten_eq u n s.channelTable[n]
  subst hut
  rw [huc n List.mem_cons_self] at hbody
  obtain ⟨hframe, hothers⟩ := channelWritten_frame u n s.channelTable[n]
  refine ⟨hacts.trans hbody, ?_⟩
  rw [← hbody]
  exact ⟨hl, hframe, fun j hj =>
    (hothers j fun e => hn (e ▸ hj)).trans (huc j (List.mem_cons_of_mem _ hj))⟩

/-! ### Fans -/

theorem fan_takeBatch {s : State} {first : Nat} {es : List FanEntry} {table : Vector FanEntry 6}
    {moved : Fin 6 → State → State} (hlen : first + es.length ≤ 6) (htable : table = overlaid s.fanTable first es)
    (hmoved : ∀ f u, moved f u =
      if (s.fanTable[f]).present = false ∧ (table[f]).present = true then
        if u.signalActive (.fanIsolator f) = true then
          ({ u with
            fans := u.fans.set f ((u.fans[f]).off .isolated 0)
            keys := u.keys ++ [{ kind := .fanIsolated, index := f.val }] } : State).latch .fanIsolated
        else { u with fans := u.fans.set f ((u.fans[f]).off .coasting ((table[f]).coastTime * 100)) }
      else if (s.fanTable[f]).present = true ∧ (table[f]).present = false then
        { u with
          fans :=
            u.fans.set f
              { (u.fans[f]).off .disabled 0 with
                lineSlot := none, responseSlots := Vector.replicate 4 none } }
      else u) :
    s.takeBatch (runFrom first (es.map .fan)) =
      (List.finRange 6).foldl
        (fun u f =>
          if table[f] = s.fanTable[f] then u
          else
            ({ moved f u with
              fans :=
                (moved f u).fans.set f
                  { (moved f u).fans[f] with pressurisationSlot := u.pressurisationDemand f } } : State).resolveFan f)
        { s with fanTable := table } := by
  rw [takeBatch_eq_foldl (n := 6) (fun _ => rfl) s first es hlen, storeBatch_fan s first es hlen, ← htable]
  refine foldl_congr_of_remaining (P := fun _ u => u.fanTable = table) (fun f l u hut => ?_) _ _ rfl
  have hrow : table[f] = (runEntry first es f.val).getD s.fanTable[f] := by
    rw [htable]
    exact getElem_overlaid ..
  have hentry : u.fanEntry f = table[f] := congrArg (fun v : Vector FanEntry 6 => v[f]) hut
  have hfields : (moved f u).fanTable = u.fanTable ∧ (moved f u).pressurisationDemand f = u.pressurisationDemand f := by
    rw [hmoved]
    split
    · split
      · exact ⟨by simp, pressurisationDemand_congr (by simp) (by simp) (by simp) (by simp) (by simp) (by simp) f⟩
      · exact ⟨rfl, rfl⟩
    · split <;> exact ⟨rfl, rfl⟩
  have hwritten : u.fanWritten f s.fanTable[f] =
      ({ moved f u with
        fans :=
          (moved f u).fans.set f
            { (moved f u).fans[f] with pressurisationSlot := u.pressurisationDemand f } } : State).resolveFan f := by
    have hsame : (if (s.fanTable[f]).present = false ∧ (table[f]).present = true then u.fanBecomesPresent f
        else if (s.fanTable[f]).present = true ∧ (table[f]).present = false then u.setFan f (u.fan f).madeAbsent
        else u) = moved f u := by
      rw [hmoved]
      split
      · unfold State.fanBecomesPresent
        rw [hentry]
        rfl
      · split <;> rfl
    unfold State.fanWritten
    rw [hentry]
    dsimp only
    rw [hsame, State.writePressurisation, hfields.2]
    rfl
  constructor
  · cases he : runEntry first es f.val with
    | none =>
      rw [he, Option.getD_none] at hrow
      rw [if_pos hrow]
      rfl
    | some e =>
      rw [he, Option.getD_some] at hrow
      rw [← hwritten, hrow]
      simp only [Option.map_some, Option.getD_some, State.unitActs, f.isLt, dif_pos]
      rfl
  · split
    · exact hut
    · exact hfields.1.trans hut

/-! ### Doors -/

/-- The fans that a changed door entry reaches, recomputed one after another (R76). -/
def State.doorRecomputes (old new : DoorEntry) (u : State) : State :=
  if new.galleryFan = old.galleryFan ∧ new.boost = old.boost then u
  else (old.galleryFan.toList ++ new.galleryFan.toList).foldl (fun v f => v.recomputePressurisation f) u

/-- A state with other doors. -/
def State.withDoors (u : State) (x : Vector Door 6) : State := { u with doors := x }

theorem recomputePressurisation_withDoors (f : Fin 6) (u : State) (x : Vector Door 6) :
    (u.withDoors x).recomputePressurisation f = (u.recomputePressurisation f).withDoors x := by
  unfold State.recomputePressurisation
  by_cases h : u.pressurisationDemand f = (u.fan f).pressurisationSlot
  · rw [if_pos h]
    exact if_pos h
  · rw [if_neg h]
    exact if_neg h

theorem doorRecomputes_withDoors (old new : DoorEntry) (u : State) (x : Vector Door 6) :
    State.doorRecomputes old new (u.withDoors x) = (State.doorRecomputes old new u).withDoors x := by
  unfold State.doorRecomputes
  split
  · rfl
  · generalize old.galleryFan.toList ++ new.galleryFan.toList = fs
    induction fs generalizing u with
    | nil => rfl
    | cons f fs ih => rw [List.foldl_cons, recomputePressurisation_withDoors, ih, List.foldl_cons]

theorem recomputePressurisation_eq (f : Fin 6) (u : State) :
    u.recomputePressurisation f = { u with fans := (u.recomputePressurisation f).fans } := by
  unfold State.recomputePressurisation
  split <;> rfl

theorem doorRecomputes_eq (old new : DoorEntry) (u : State) :
    State.doorRecomputes old new u = { u with fans := (State.doorRecomputes old new u).fans } := by
  unfold State.doorRecomputes
  split
  · rfl
  · generalize old.galleryFan.toList ++ new.galleryFan.toList = fs
    induction fs generalizing u with
    | nil => rfl
    | cons f fs ih =>
      rw [List.foldl_cons, ih, recomputePressurisation_eq]

theorem setDoor_setDoor (u : State) (d : Fin 6) (x y : Door) : (u.setDoor d x).setDoor d y = u.setDoor d y := by
  unfold State.setDoor
  simp only [Vector.set_set]

theorem doorWritten_eq (u : State) (d : Fin 6) (old : DoorEntry) :
    u.doorWritten d old =
      State.doorRecomputes old (u.doorEntry d)
        (u.withDoors
            (u.doors.set d
              (if old.present = false ∧ (u.doorEntry d).present = true then
                Door.settled (u.doorEntry d) (u.assigned (.doorClosed d) && u.assigned (.doorOpen d)) (u.shows d)
                  (u.door d).unheld
              else if old.present = true ∧ (u.doorEntry d).present = false then ((u.door d).toRest .disabled).unheld
              else u.door d))) := by
  have hrec : ∀ (o : Option (Fin 6)) (v : State), v.recomputeFor o = o.toList.foldl (fun v f => v.recomputePressurisation f) v :=
    fun o v => by cases o <;> rfl
  have hself : u.doors.set d (u.door d) = u.doors := Vector.set_getElem_self ..
  have hsilent : (u.setDoor d (u.door d).unheld).deriveDoorSilently d =
      u.setDoor d (u.derivedDoor d (u.door d).unheld) := by
    unfold State.deriveDoorSilently
    rw [door_setDoor_same, setDoor_setDoor]
    rfl
  have hmoved : (if old.present = false ∧ (u.doorEntry d).present = true then
        (u.setDoor d (u.door d).unheld).deriveDoorSilently d
      else if old.present = true ∧ (u.doorEntry d).present = false then
        u.setDoor d (((u.door d).toRest .disabled).unheld)
      else u) =
      u.withDoors
          (u.doors.set d
            (if old.present = false ∧ (u.doorEntry d).present = true then
              Door.settled (u.doorEntry d) (u.assigned (.doorClosed d) && u.assigned (.doorOpen d)) (u.shows d)
                (u.door d).unheld
            else if old.present = true ∧ (u.doorEntry d).present = false then ((u.door d).toRest .disabled).unheld
            else u.door d)) := by
    split
    · rw [hsilent, derivedDoor_eq]
      rfl
    · split
      · rfl
      · rw [hself]
        rfl
  unfold State.doorWritten
  dsimp only
  rw [hmoved]
  unfold State.doorRecomputes
  simp only [hrec, ← List.foldl_append, @eq_comm _ old.galleryFan, @eq_comm _ old.boost]

/-- A taken Door Table write: the doors that the rows still to come move may be moved first, for a recomputation of the
fans neither reads nor writes a door. -/
theorem foldl_doorWritten_eq {s : State} {table : Vector DoorEntry 6} {moved : Fin 6 → Door → Door}
    {written : State → Fin 6 → State}
    (hwritten : ∀ (u : State) (d : Fin 6), u.doorTable = table → u.points = s.points → u.pointTable = s.pointTable →
      written u d = State.doorRecomputes s.doorTable[d] table[d] (u.withDoors (u.doors.set d (moved d u.doors[d]))))
    (l : List (Fin 6)) (hl : l.Nodup) (u : State) (ht : u.doorTable = table) (hp : u.points = s.points)
    (hpt : u.pointTable = s.pointTable) :
    l.foldl written u =
      l.foldl (fun v d => State.doorRecomputes s.doorTable[d] table[d] v)
        (u.withDoors (tabulate fun d => if d ∈ l then moved d u.doors[d] else u.doors[d])) := by
  induction l generalizing u with
  | nil =>
    have hdoors : (tabulate fun d : Fin 6 => u.doors[d.val]) = u.doors := by
      ext1 i hi
      exact getElem_tabulate _ i hi
    simp only [List.foldl_nil, List.not_mem_nil, if_false, Fin.getElem_fin, hdoors]
    rfl
  | cons d l ih =>
    obtain ⟨hd, hl⟩ := List.nodup_cons.mp hl
    have heq := doorRecomputes_eq s.doorTable[d] table[d] u
    rw [List.foldl_cons, List.foldl_cons, hwritten u d ht hp hpt, doorRecomputes_withDoors, doorRecomputes_withDoors]
    generalize State.doorRecomputes s.doorTable[d] table[d] u = v at heq ⊢
    rw [ih hl (v.withDoors (u.doors.set d (moved d u.doors[d]))) ((congrArg State.doorTable heq).trans ht) ((congrArg State.points heq).trans hp)
      ((congrArg State.pointTable heq).trans hpt)]
    congr 1
    show v.withDoors _ = v.withDoors _
    congr 1
    ext1 j hj
    simp only [State.withDoors, getElem_tabulate, Fin.getElem_fin, List.mem_cons]
    by_cases hjd : (⟨j, hj⟩ : Fin 6) = d
    · subst hjd
      simp [hd]
    · have hne : d.val ≠ j := fun e => hjd (Fin.ext e.symm)
      simp [hjd, hne]

theorem door_takeBatch {s : State} {first : Nat} {es : List DoorEntry} {table : Vector DoorEntry 6}
    {moved : Fin 6 → Door → Door} (hlen : first + es.length ≤ 6) (htable : table = overlaid s.doorTable first es)
    (hmoved : ∀ d x, moved d x =
      if (s.doorTable[d]).present = false ∧ (table[d]).present = true then
        Door.settled table[d] (s.assigned (.doorClosed d) && s.assigned (.doorOpen d)) (s.shows d)
          { x with responseHolds := Vector.replicate 4 false, lineHold := false }
      else if (s.doorTable[d]).present = true ∧ (table[d]).present = false then
        { mode := .disabled, travelTimer := 0, dwellTimer := 0, responseHolds := Vector.replicate 4 false
          lineHold := false }
      else x) :
    s.takeBatch (runFrom first (es.map .door)) =
      (List.finRange 6).foldl (fun u d => State.doorRecomputes s.doorTable[d] table[d] u)
        { s with doorTable := table, doors := tabulate fun d => moved d s.doors[d] } := by
  rw [takeBatch_eq_foldl (n := 6) (fun _ => rfl) s first es hlen, storeBatch_door s first es hlen, ← htable]
  rw [foldl_doorWritten_eq (s := s) (table := table) (moved := moved) (fun u d ht hp hpt => ?_) _ (List.nodup_finRange 6)
    { s with doorTable := table } rfl rfl rfl]
  · simp only [List.mem_finRange, if_true]
    rfl
  · have hrow : table[d] = (runEntry first es d.val).getD s.doorTable[d] := by
      rw [htable]
      exact getElem_overlaid ..
    have hentry : u.doorEntry d = table[d] := congrArg (fun v : Vector DoorEntry 6 => v[d]) ht
    have hwritten : u.doorWritten d s.doorTable[d] =
        State.doorRecomputes s.doorTable[d] table[d] (u.withDoors (u.doors.set d (moved d u.doors[d]))) := by
      rw [doorWritten_eq, hentry, assigned_congr hpt, assigned_congr hpt, shows_congr hpt hp, hmoved]
      rfl
    have hsame : table[d] = s.doorTable[d] → u = u.doorWritten d s.doorTable[d] := fun he => by
      have hset : u.doors.set d u.doors[d] = u.doors := Vector.set_getElem_self ..
      rw [hwritten, hmoved, he, if_neg (by simp), if_neg (by simp), hset]
      exact (if_pos ⟨rfl, rfl⟩).symm
    rw [← hwritten]
    cases he : runEntry first es d.val with
    | none =>
      rw [he, Option.getD_none] at hrow
      exact hsame hrow
    | some e =>
      rw [he, Option.getD_some] at hrow
      simp only [Option.map_some, Option.getD_some, State.unitActs, d.isLt, dif_pos]
      split
      next h => exact hsame (hrow.trans h)
      next => rfl

/-- Settles O53, table by table. -/
theorem takenWritesMoveChannelsFansAndDoors : Obligations.TakenWritesMoveChannelsFansAndDoors := fun _ _ =>
  ⟨fun _ _ hlen htable => channel_takeBatch hlen htable, fun _ _ _ hlen htable hmoved => fan_takeBatch hlen htable hmoved,
    fun _ _ _ hlen htable hmoved => door_takeBatch hlen htable hmoved⟩

end Sys2Proof.Machine
end

section
/-! The checks of a WRITE ENTRIES request (O52). -/

namespace Sys2Proof.Machine

variable {s : State} {first count : Nat} {ws : List Word}

/-! ### Faulty entries -/

theorem parse_point_eq (vs : List Int) : TableId.parse .point vs = (PointEntry.parse vs).map .point := rfl

theorem parse_neighbour_eq (vs : List Int) : TableId.parse .neighbour vs = (NeighbourRecord.parse vs).map .neighbour := rfl

theorem claimAfter_point_eq (i : Fin 64) (sig : Signal) :
    s.claimAfter .point first count ws i.val = some (.signal sig) ↔
      (if first ≤ i.val ∧ i.val < first + count then
          (PointEntry.parse ((clampedValues .point ws (i.val - first)).set 2 0)).bind PointEntry.signal
        else (s.pointTable[i]).signal) = some sig := by
  have hmap : ∀ o : Option Signal, o.map Claim.signal = some (.signal sig) ↔ o = some sig := fun o => by
    cases o <;> simp
  unfold State.claimAfter TableId.offeredClaim State.standingClaim
  split
  · rw [if_pos rfl, parse_point_eq]
    cases PointEntry.parse ((clampedValues .point ws (i.val - first)).set 2 0) with
    | none => simp
    | some e => exact hmap e.signal
  · simp only [dif_pos i.isLt]
    exact hmap _

theorem claimAfter_neighbour_eq (i : Fin 16) {a : Byte} (ha : a ≠ 0) :
    s.claimAfter .neighbour first count ws i.val = some (.address a) ↔
      (if first ≤ i.val ∧ i.val < first + count then
          (NeighbourRecord.parse (clampedValues .neighbour ws (i.val - first))).map NeighbourRecord.address
        else some (s.neighbourTable[i]).address) = some a := by
  have hclaim : ∀ r : NeighbourRecord, (TableEntry.neighbour r).claim = some (.address a) ↔ r.address = a := fun r => by
    by_cases h : r.address = 0
    · rw [TableEntry.claim, if_pos h]
      exact ⟨nofun, fun e => absurd (e.symm.trans h) ha⟩
    · rw [TableEntry.claim, if_neg h]
      simp
  unfold State.claimAfter TableId.offeredClaim State.standingClaim
  split
  · rw [if_neg (by decide), parse_neighbour_eq]
    cases NeighbourRecord.parse (clampedValues .neighbour ws (i.val - first)) with
    | none => simp
    | some r => simpa using hclaim r
  · simp only [dif_pos i.isLt]
    simpa using hclaim (s.neighbourTable[i])

/-- An entry is faulty where it does not parse, or where another row would claim what it claims. -/
theorem entryFaulty_iff_claim (t : TableId) (k : Nat) :
    s.entryFaulty t first count ws k = true ↔
      t.parse (clampedValues t ws k) = none ∨
        ∃ e c i, t.parse (clampedValues t ws k) = some e ∧ e.claim = some c ∧ i < t.limit ∧ i ≠ first + k ∧
          s.claimAfter t first count ws i = some c := by
  unfold State.entryFaulty
  cases t.parse (clampedValues t ws k) with
  | none => simp
  | some e =>
    simp only [Bool.and_eq_true, List.any_eq_true, List.mem_range, decide_eq_true_iff, reduceCtorEq, false_or,
      Option.some.injEq]
    constructor
    · rintro ⟨hc, i, hi, hne, heq⟩
      obtain ⟨c, hc⟩ := Option.isSome_iff_exists.mp hc
      exact ⟨e, c, i, rfl, hc, hi, hne, heq.trans hc⟩
    · rintro ⟨e', c, i, rfl, hc, hi, hne, heq⟩
      exact ⟨by simp [hc], i, hi, hne, heq.trans hc.symm⟩

theorem entryFaulty_iff (t : TableId) (k : Nat) :
    s.entryFaulty t first count ws k = true ↔ s.offersFault t first count ws k := by
  rw [entryFaulty_iff_claim]
  unfold State.offersFault
  refine or_congr Iff.rfl ⟨?_, ?_⟩
  · rintro ⟨e, c, i, hp, hc, hi, hne, hafter⟩
    cases e with
    | point x =>
      obtain rfl : t = .point := (parse_clampedValues_spec hp).1.symm
      obtain ⟨sig, hsig, rfl⟩ := Option.map_eq_some_iff.mp hc
      rw [parse_point_eq] at hp
      obtain ⟨x', hx, hxe⟩ := Option.map_eq_some_iff.mp hp
      obtain rfl := TableEntry.point.inj hxe
      exact .inl ⟨rfl, sig, ⟨i, hi⟩, hne, by rw [hx]; exact hsig, (claimAfter_point_eq ⟨i, hi⟩ sig).mp hafter⟩
    | neighbour r =>
      obtain rfl : t = .neighbour := (parse_clampedValues_spec hp).1.symm
      simp only [TableEntry.claim] at hc
      split_ifs at hc with ha
      obtain rfl := Option.some.inj hc
      rw [parse_neighbour_eq] at hp
      obtain ⟨r', hr, hre⟩ := Option.map_eq_some_iff.mp hp
      obtain rfl := TableEntry.neighbour.inj hre
      exact .inr ⟨rfl, r'.address, ⟨i, hi⟩, hne, ha, by rw [hr]; rfl, (claimAfter_neighbour_eq ⟨i, hi⟩ ha).mp hafter⟩
    | _ => cases hc
  · rintro (⟨rfl, sig, i, hne, hsig, hafter⟩ | ⟨rfl, a, i, hne, ha, hr, hafter⟩)
    · obtain ⟨x, hx, hsig⟩ := Option.bind_eq_some_iff.mp hsig
      exact ⟨.point x, .signal sig, i.val, by rw [parse_point_eq, hx]; rfl, by simp [TableEntry.claim, hsig], i.isLt, hne,
        (claimAfter_point_eq i sig).mpr hafter⟩
    · obtain ⟨r, hparse, rfl⟩ := Option.map_eq_some_iff.mp hr
      exact ⟨.neighbour r, .address r.address, i.val, by rw [parse_neighbour_eq, hparse]; rfl, if_neg ha,
        i.isLt, hne, (claimAfter_neighbour_eq i ha).mpr hafter⟩

/-! ### Entries in use -/

theorem signalInUse_iff (sig : Signal) : s.signalInUse sig = true ↔ s.signalKept sig := by
  have hfan : ∀ f : Fin 6, ((s.fanEntry f).present && !(s.fan f).free) = true ↔
      (s.fanTable[f]).present = true ∧ (s.fans[f]).mode ≠ .disabled ∧ (s.fans[f]).mode ≠ .stopped ∧
        (s.fans[f]).mode ≠ .isolated := fun f => by
    rw [Bool.and_eq_true]
    refine and_congr Iff.rfl ?_
    simp only [Fan.free, State.fan]
    cases (s.fans[f]).mode <;> simp
  have hdoor : ∀ d : Fin 6, ((s.doorEntry d).present && !(s.door d).pointsFree) = true ↔
      (s.doorTable[d]).present = true ∧ (s.doors[d]).mode ≠ .closed ∧ (s.doors[d]).mode ≠ .outOfService := fun d => by
    rw [Bool.and_eq_true]
    refine and_congr Iff.rfl ?_
    simp only [Door.pointsFree, State.door]
    cases (s.doors[d]).mode <;> simp
  cases sig with
  | fanRun f | fanReverse f | fanConfirm f | fanIsolator f => exact hfan f
  | doorClosed d | doorOpen d | doorButton d | doorDriveOpen d | doorDriveClose d => exact hdoor d
  | maintKey | commissionKey => exact ⟨nofun, False.elim⟩

theorem contactGain_iff (sig : Signal) : s.contactGain sig = true ↔ s.contactWanted sig := by
  have hdoor : ∀ (d : Fin 6) (sig : Signal), (decide ((s.door d).mode = .contactFault) && !s.assigned sig) = true ↔
      (s.doors[d]).mode = .contactFault ∧ s.assigned sig = false := fun d sig => by
    simp only [Bool.and_eq_true, decide_eq_true_iff, Bool.not_eq_true']
    rfl
  cases sig with
  | doorClosed d =>
    exact (hdoor d _).trans ⟨fun h => ⟨d, .inl rfl, h⟩, fun ⟨_, he, h⟩ => by
      rcases he with he | he <;> cases he
      exact h⟩
  | doorOpen d =>
    exact (hdoor d _).trans ⟨fun h => ⟨d, .inr rfl, h⟩, fun ⟨_, he, h⟩ => by
      rcases he with he | he <;> cases he
      exact h⟩
  | _ => exact ⟨nofun, fun ⟨_, he, _⟩ => by rcases he with he | he <;> cases he⟩

theorem ChannelEntry.ne_enabled_iff (old e : ChannelEntry) :
    { e with enabled := old.enabled } ≠ old ↔ e ≠ { old with enabled := e.enabled } := by
  cases old
  cases e
  simp only [ne_eq, ChannelEntry.mk.injEq, true_and]

theorem entryInUse_iff (i : Nat) (e : TableEntry) : s.entryInUse i e = true ↔ s.refusesInUse i e := by
  have hrow : ∀ {n : Nat} {b : Fin n → Bool} {P : Fin n → Prop}, (∀ j, b j = true ↔ P j) →
      ((if h : i < n then b ⟨i, h⟩ else false) = true ↔ ∃ j : Fin n, j.val = i ∧ P j) := fun {n b P} hb => by
    split
    next h => exact ⟨fun hi => ⟨⟨i, h⟩, rfl, (hb _).mp hi⟩, fun ⟨j, hj, hP⟩ => (hb _).mpr (by subst hj; exact hP)⟩
    next h => exact ⟨nofun, fun ⟨j, hj, _⟩ => absurd (hj ▸ j.isLt) h⟩
  cases e with
  | node _ | watch _ | neighbour _ | trigger _ => exact ⟨nofun, False.elim⟩
  | channel e =>
    refine hrow (b := fun n => s.channelInUse n e) fun n => ?_
    simp only [State.channelInUse, Bool.or_eq_true, Bool.and_eq_true, decide_eq_true_iff, Bool.not_eq_true',
      ChannelEntry.ne_enabled_iff, and_assoc]
    rfl
  | calibration e =>
    refine hrow (b := fun n => decide (e ≠ s.calibrationTable[n]) && decide ((s.channel n).mode ≠ .off)) fun n => ?_
    simp only [Bool.and_eq_true, decide_eq_true_iff]
    rfl
  | fan e =>
    refine hrow (b := fun f => decide (e ≠ s.fanTable[f]) && !(s.fan f).free) fun f => ?_
    simp only [Bool.and_eq_true, decide_eq_true_iff]
    refine and_congr Iff.rfl ?_
    simp only [Fan.free, State.fan]
    cases (s.fans[f]).mode <;> simp
  | door e =>
    refine hrow (b := fun d => decide (e ≠ s.doorTable[d]) && !(s.door d).entryFree) fun d => ?_
    simp only [Bool.and_eq_true, decide_eq_true_iff]
    refine and_congr Iff.rfl ?_
    simp only [Door.entryFree, State.door]
    cases (s.doors[d]).mode <;> simp
  | point e =>
    refine hrow (b := fun n => s.pointInUse n e) fun n => ?_
    simp only [State.pointInUse, Bool.and_eq_true, Bool.or_eq_true, decide_eq_true_iff]
    refine and_congr Iff.rfl (or_congr ?_ ?_)
    · cases h : (s.pointEntry n).signal with
      | none =>
        have h' : (s.pointTable[n]).signal = none := h
        rw [h']
        exact ⟨nofun, fun ⟨_, e, _⟩ => nomatch e⟩
      | some sig =>
        have h' : (s.pointTable[n]).signal = some sig := h
        rw [h']
        exact ⟨fun hs => ⟨sig, rfl, (signalInUse_iff sig).mp hs⟩, fun ⟨_, e, hs⟩ => by
          obtain rfl := Option.some.inj e
          exact (signalInUse_iff _).mpr hs⟩
    · cases h : e.signal with
      | none => simp
      | some sig => simp [signalInUse_iff, ← contactGain_iff]

/-! ### The checks in order -/

theorem tableOf_eq_some_iff {id : Nat} {t : TableId} : tableOf id = some t ↔ t.code = id := by
  constructor
  · intro h
    simpa using List.find?_some h
  · rintro rfl
    cases t <;> rfl

theorem tableOf_eq_none {id : Nat} (h : ∀ t : TableId, t.code ≠ id) : tableOf id = none := by
  cases ht : tableOf id with
  | none => rfl
  | some t => exact absurd (tableOf_eq_some_iff.mp ht) (h t)

theorem TableId.writable_iff (t : TableId) : t.writable = true ↔ t.code < 16 := by cases t <;> decide

theorem TableId.length_pos (t : TableId) : 0 < t.length := by cases t <;> decide

theorem TableId.limit_le (t : TableId) : t.limit ≤ 128 := by cases t <;> decide

theorem firstFault_eq_some {t : TableId} {k : Nat} (hk : k < count) (h : s.offersFault t first count ws k)
    (hbefore : ∀ j < k, ¬s.offersFault t first count ws j) : s.firstFault t first count ws = some k := by
  unfold State.firstFault
  rw [List.find?_range_eq_some]
  refine ⟨(entryFaulty_iff t k).mpr h, List.mem_range.mpr hk, fun j hj => ?_⟩
  rw [Bool.not_eq_true', ← Bool.not_eq_true, entryFaulty_iff]
  exact hbefore j hj

theorem firstFault_eq_none {t : TableId} (h : ∀ k < count, ¬s.offersFault t first count ws k) :
    s.firstFault t first count ws = none :=
  List.find?_eq_none.mpr fun k hk hf => h k (List.mem_range.mp hk) ((entryFaulty_iff t k).mp hf)

/-- A request whose words fit its count and whose run fits the table comes to the checks of its entries. -/
theorem checkWrite_eq_checkBatch {image : Bool} {table : Nat} {t : TableId} (ht : t.code = table) (hw : t.code < 16)
    (hlen : ws.length = count * t.length) (hlimit : first + count ≤ t.limit) :
    s.checkWrite image table first count ws = s.checkBatch image t first count ws := by
  unfold State.checkWrite
  rw [tableOf_eq_some_iff.mpr ht]
  dsimp only
  rw [if_neg (by simp [t.writable_iff.mpr hw]), if_neg (by omega), if_neg (by omega), if_neg (by omega)]

theorem checkWrite_of_wrong_length {image : Bool} {table : Nat} {t : TableId} (ht : t.code = table) (hw : t.code < 16)
    (hlen : ws.length ≠ count * t.length) :
    s.checkWrite image table first count ws = .badEntry (first + min count (ws.length / t.length)) := by
  unfold State.checkWrite
  rw [tableOf_eq_some_iff.mpr ht]
  dsimp only
  rw [if_neg (by simp [t.writable_iff.mpr hw])]
  split
  next h =>
    have hdiv : ws.length / t.length < count := Nat.div_lt_of_lt_mul (by rw [Nat.mul_comm]; exact h)
    rw [Nat.min_eq_right hdiv.le]
  next h =>
    have hdiv : count ≤ ws.length / t.length := (Nat.le_div_iff_mul_le t.length_pos).mpr (by omega)
    rw [if_pos (by omega), Nat.min_eq_left hdiv]

theorem any_runFrom_inUse (es : List TableEntry) :
    ((runFrom first es).any fun p => s.entryInUse p.1 p.2) = true ↔
      ∃ (k : Nat) (h : k < es.length), s.refusesInUse (first + k) es[k] := by
  simp only [runFrom, List.any_map, List.any_eq_true, Function.comp_def, entryInUse_iff]
  constructor
  · rintro ⟨p, hp, hr⟩
    obtain ⟨k, hk, rfl⟩ := List.getElem_of_mem hp
    have hk' : k < es.length := by simpa using hk
    exact ⟨k, hk', by simpa using hr⟩
  · rintro ⟨k, hk, hr⟩
    exact ⟨(es[k], k), by simp [List.mem_zipIdx_iff_getElem?, hk], hr⟩

theorem anyClamped_eq_false_iff (t : TableId) :
    anyClamped t ws count = false ↔ ∀ k < count, clampedValues t ws k = offeredValues t ws k := by
  simp [anyClamped]

theorem checkBatch_of_fault {image : Bool} {t : TableId} {k : Nat} (h : s.firstFault t first count ws = some k) :
    s.checkBatch image t first count ws = .badEntry (first + k) := by
  simp only [State.checkBatch, h]

theorem checkBatch_of_entries {t : TableId} {es : List TableEntry} (h : s.firstFault t first count ws = none)
    (hlen : es.length = count) (hes : ∀ k < count, t.parse (clampedValues t ws k) = es[k]?) :
    s.checkBatch false t first count ws =
      if (runFrom first es).any (fun p => s.entryInUse p.1 p.2) = true then .inUse
      else .taken (anyClamped t ws count) (runFrom first es) := by
  simp only [State.checkBatch, h, offeredBatch_eq_runFrom first t count ws es hlen hes, true_and]

/-- A WRITE ENTRIES once the units have started, by the outcome of its checks. -/
theorem exec_writeEntries_of_refused {req : Request} {table first count : Word} {data : List Byte} {x : Answer}
    (hload : s.load = .running) (h : s.writeEntries table.toNat first.toNat count.toNat data = (s, x)) :
    exec (.writeEntries req table first count data) s = .next (s.answerAccess req 2 table first x) := by
  show Host.Outcome.next (s.access req 2 table first (State.writeEntries table.toNat first.toNat count.toNat data)) = _
  rw [access_of_running hload, h]

/-- Settles O52, check by check in the order of R192. -/
theorem writeEntriesChecksTheWholeRequest : Obligations.WriteEntriesChecksTheWholeRequest := by
  intro req table first count data s hs hload refuse hrefuse
  have hrefused : ∀ {status : AccessStatus} {number : Word},
      s.writeEntries table.toNat first.toNat count.toNat data = (s, { status := status, number := number, data := [] }) →
        exec (.writeEntries req table first count data) s = .next (refuse status number) := fun h => by
    rw [hrefuse]
    exact exec_writeEntries_of_refused hload h
  have hbad : ∀ {i : Nat}, s.checkWrite false table.toNat first.toNat count.toNat (wordsOf data) = .badEntry i →
      exec (.writeEntries req table first count data) s = .next (refuse .badEntry (indexWord i)) := fun h =>
    hrefused (by rw [State.writeEntries, h]; rfl)
  refine ⟨fun hnone => hrefused ?_, fun t ht => ⟨fun hro => hrefused ?_, fun hw => ⟨fun hlen => ?_, fun hlen =>
    ⟨fun hlimit => hrefused ?_, fun hlimit => ⟨fun k hk hf hbefore => ?_, fun es hes hparse => ?_⟩⟩⟩⟩⟩
  · rw [State.writeEntries, State.checkWrite, tableOf_eq_none hnone]
    rfl
  · have hw : t.writable = false := by
      rw [← Bool.not_eq_true, t.writable_iff]
      omega
    rw [State.writeEntries, State.checkWrite, tableOf_eq_some_iff.mpr ht]
    dsimp only
    rw [if_pos hw]
    rfl
  · exact ⟨_, hbad (checkWrite_of_wrong_length ht hw hlen), fun h => if_pos h⟩
  · rw [State.writeEntries, State.checkWrite, tableOf_eq_some_iff.mpr ht]
    dsimp only
    rw [if_neg (by simp [t.writable_iff.mpr hw]), if_neg (by omega), if_neg (by omega), if_pos hlimit]
    rfl
  · have hcheck := (checkWrite_eq_checkBatch (s := s) (image := false) ht hw hlen hlimit).trans
      (checkBatch_of_fault (firstFault_eq_some hk hf hbefore))
    have hindex : indexWord (first.toNat + k) = BitVec.ofNat 16 (first.toNat + k) := if_pos (by
      have := t.limit_le
      omega)
    rw [← hindex]
    exact hbad hcheck
  · have hcheck := (checkWrite_eq_checkBatch (s := s) (image := false) ht hw hlen hlimit).trans
      (checkBatch_of_entries (firstFault_eq_none fun k hk => (hparse k hk).1) hes fun k hk => (hparse k hk).2)
    constructor
    · intro huse
      rw [if_pos ((any_runFrom_inUse es).mpr huse)] at hcheck
      exact hrefused (by rw [State.writeEntries, hcheck]; rfl)
    · intro hfree
      rw [if_neg fun h => by
        obtain ⟨k, hk, hr⟩ := (any_runFrom_inUse es).mp h
        exact hfree k hk hr] at hcheck
      show Host.Outcome.next (s.access req 2 table first (State.writeEntries table.toNat first.toNat count.toNat data)) = _
      rw [access_of_running hload, State.writeEntries, hcheck]
      simp only [← anyClamped_eq_false_iff]
      cases anyClamped t (wordsOf data) count.toNat <;> rfl

end Sys2Proof.Machine
end

section
/-! The sample event and the evaluation of a result (O15, O16). -/

namespace Sys2Proof.Machine

/-! ### The evaluation of a result -/

theorem evaluated_eq (on : EvaluateOn) (r : WindowResult) :
    evaluated on r =
      match on with
      | .mean => r.mean
      | .max => r.maximum
      | .meanAbs => |r.mean|
      | .peakAbs => max |r.maximum| |r.minimum| := by
  cases on with
  | mean | max => rfl
  | meanAbs => exact Int.natCast_natAbs _
  | peakAbs =>
    simp only [evaluated]
    push_cast
    rfl

/-- The candidate is the number of thresholds the value has reached. -/
theorem candidate_eq {e : ChannelEntry} (h1 : e.t1 < e.t2) (h2 : e.t2 < e.t3) (v : Int) :
    e.candidate v = ([e.t1, e.t2, e.t3].filter fun t => decide (t ≤ v)).length := by
  simp only [List.filter_cons, List.filter_nil, decide_eq_true_iff, ChannelEntry.candidate]
  by_cases hv1 : v < e.t1
  · rw [if_pos hv1, if_neg (by omega), if_neg (by omega), if_neg (by omega)]
    rfl
  · rw [if_neg hv1]
    by_cases hv2 : v < e.t2
    · rw [if_pos hv2, if_pos (by omega), if_neg (by omega), if_neg (by omega)]
      rfl
    · rw [if_neg hv2]
      by_cases hv3 : v < e.t3
      · rw [if_pos hv3, if_pos (by omega), if_pos (by omega), if_neg (by omega)]
        rfl
      · rw [if_neg hv3, if_pos (by omega), if_pos (by omega), if_pos (by omega)]
        rfl

theorem threshold_eq (e : ChannelEntry) {level : Nat} (h0 : level ≠ 0) (h3 : level ≤ 3) :
    e.threshold level = [e.t1, e.t2, e.t3].getD (level - 1) 0 := by
  match level, h0, h3 with
  | 1, _, _ | 2, _, _ | 3, _, _ => rfl

theorem takesFailure_eq (e : ChannelEntry) {c : Channel} (hrun : c.mode = .run) :
    c.takesFailure e =
      if c.failedWindows + 1 < e.failLimit then ({ c with failedWindows := c.failedWindows + 1 }, [])
      else
        ({ c with mode := .failed, failedWindows := c.failedWindows + 1, level := max c.level e.failLevel },
          .failed :: if c.level < e.failLevel then [.up c.level e.failLevel] else []) := by
  unfold Channel.takesFailure
  rw [if_pos hrun]
  by_cases hlimit : c.failedWindows + 1 < e.failLimit
  · rw [if_pos hlimit, if_neg (by omega)]
  · rw [if_neg hlimit, if_pos (by omega)]
    dsimp only
    by_cases hlevel : c.level < e.failLevel
    · rw [if_pos hlevel, if_pos hlevel, Nat.max_eq_right hlevel.le]
    · rw [if_neg hlevel, if_neg hlevel, Nat.max_eq_left (by omega)]

theorem takesFailure_of_not_run (e : ChannelEntry) {c : Channel} (h : c.mode ≠ .run) : c.takesFailure e = (c, []) := if_neg h

theorem takesValues_of_failed (e : ChannelEntry) (r : WindowResult) {c : Channel} (h : c.mode = .failed) :
    c.takesValues e r = ({ c with mode := .run, rise := 0, fall := 0, failedWindows := 0 }, [.recovered]) := if_pos h

theorem settles_eq (e : ChannelEntry) (v : Int) (good : Bool) (c : Channel) :
    c.settles e v good =
      if good = false then ({ c with rise := 0 }, [])
      else if c.level = 0 ∨ e.threshold c.level - e.hysteresis ≤ v then ({ c with rise := 0, fall := 0 }, [])
      else if e.persistence ≤ c.fall + 1 then
        ({ c with rise := 0, level := c.level - 1, fall := 0 }, [.down c.level (c.level - 1)])
      else ({ c with rise := 0, fall := c.fall + 1 }, []) := rfl

theorem takesValues_eq {e : ChannelEntry} {r : WindowResult} {c : Channel} (hmode : c.mode ≠ .failed)
    (h1 : e.t1 < e.t2) (h2 : e.t2 < e.t3) (hlevel : c.level ≤ 3) (hgood : r.quality = .good ∨ r.quality = .doubtful)
    {v : Int} (hv : v = evaluated e.evaluateOn r) {candidate : Nat}
    (hcandidate : candidate = ([e.t1, e.t2, e.t3].filter fun t => decide (t ≤ v)).length) :
    c.takesValues e r =
      if c.level < candidate then
        if c.rise + 1 < e.persistence then ({ c with rise := c.rise + 1, fall := 0, failedWindows := 0 }, [])
        else ({ c with level := candidate, rise := 0, fall := 0, failedWindows := 0 }, [.up c.level candidate])
      else if r.quality = .doubtful then ({ c with rise := 0, failedWindows := 0 }, [])
      else if c.level = 0 ∨ [e.t1, e.t2, e.t3].getD (c.level - 1) 0 - e.hysteresis ≤ v then
        ({ c with rise := 0, fall := 0, failedWindows := 0 }, [])
      else if c.fall + 1 < e.persistence then
        ({ c with rise := 0, fall := c.fall + 1, failedWindows := 0 }, [])
      else ({ c with level := c.level - 1, rise := 0, fall := 0, failedWindows := 0 }, [.down c.level (c.level - 1)]) := by
  unfold Channel.takesValues
  dsimp only
  rw [if_neg hmode, ← hv, candidate_eq h1 h2, ← hcandidate]
  have hstays : ∀ {p q : Nat} {a b : Channel × List LevelReport},
      (if q ≤ p then a else b) = if p < q then b else a := fun {p q a b} => by
    by_cases h : p < q
    · rw [if_pos h, if_neg (by omega)]
    · rw [if_neg h, if_pos (by omega)]
  by_cases hrise : c.level < candidate
  · rw [if_pos hrise, if_pos hrise]
    exact hstays
  · rw [if_neg hrise, if_neg hrise]
    rw [settles_eq]
    dsimp only
    rcases hgood with hq | hq
    · have hgrade : decide (r.quality = .good) = true := by rw [hq]; rfl
      rw [hgrade, if_neg (show ¬true = false from nofun), if_neg (show ¬r.quality = .doubtful by rw [hq]; nofun)]
      by_cases hzero : c.level = 0
      · rw [if_pos (.inl hzero), if_pos (.inl hzero)]
      · rw [threshold_eq e hzero hlevel]
        split
        · rfl
        · exact hstays
    · have hgrade : decide (r.quality = .good) = false := by rw [hq]; rfl
      rw [hgrade, if_pos rfl, if_pos hq]

/-- Settles O16, by the quality of the result and the state of the channel. -/
theorem evaluationFollowsTheLevelRules : Obligations.EvaluationFollowsTheLevelRules := by
  refine ⟨fun e r c v candidate h1 h2 hlevel hv hcandidate => ?_, fun n s cls old new hcls => ?_⟩
  · have hv : v = evaluated e.evaluateOn r := hv.trans (evaluated_eq _ _).symm
    unfold Channel.evaluate
    have hvalues := fun hmode hgood =>
      takesValues_eq (e := e) (r := r) (c := c) hmode h1 h2 hlevel hgood hv hcandidate
    cases hq : r.quality with
    | warming => rfl
    | failed =>
      cases hm : c.mode with
      | run => simpa [hm] using takesFailure_eq e hm
      | off | warming | failed => exact takesFailure_of_not_run e (by simp [hm])
    | good | doubtful =>
      rw [hq] at hvalues
      cases hm : c.mode with
      | failed => exact takesValues_of_failed e r hm
      | off | warming | run =>
        simpa [hm] using hvalues (by simp [hm])
  · subst hcls
    exact ⟨rfl, rfl, rfl, rfl⟩

/-! ### The sample event -/

theorem smooth_eq (k : Nat) (a : Option Int) (v : Int) :
    smooth k a v = match a with | none => v * 256 | some a => a + (v * 256 - a) / 2 ^ k := by
  cases a with
  | none => rfl
  | some a => exact smooth_some k a v

theorem fillValue_eq (e : ChannelEntry) (fill : Option Int) :
    fillValue e fill = if e.fillPolicy = .hold then fill.getD e.fallback else e.fallback := by
  unfold fillValue
  cases e.fillPolicy <;> cases fill <;> rfl

theorem OpenWindow.add_eq (w : OpenWindow) (t2 out : Int) (valid : Bool) :
    w.add t2 out valid =
      { count := w.count + 1
        sum := w.sum + out
        maximum := some (w.maximum.elim out fun m => max m out)
        minimum := some (w.minimum.elim out fun m => min m out)
        valid := w.valid + valid.toNat
        exceedance := w.exceedance + (decide (t2 ≤ out)).toNat } := by
  have hvalid : (if valid then w.valid + 1 else w.valid) = w.valid + valid.toNat := by cases valid <;> rfl
  have hexceed : (if t2 ≤ out then w.exceedance + 1 else w.exceedance) = w.exceedance + (decide (t2 ≤ out)).toNat := by
    by_cases h : t2 ≤ out <;> simp [h]
  unfold OpenWindow.add
  rw [hvalid, hexceed]
  cases w.maximum <;> cases w.minimum <;> rfl

theorem gradeOf_eq (mode : ChannelMode) (valid length : Nat) :
    gradeOf mode valid length =
      if mode = .warming then .warming else if valid = 0 then .failed else if 2 * valid < length then .doubtful else .good := by
  cases mode <;> rfl

/-- A channel after a sample event's stages, its window and its result aside. -/
def Channel.sampled (e : ChannelEntry) (c : Channel) (raw : Nat) (v acc out : Int) (valid : Bool) : Channel :=
  { c with
    countdown := e.divider
    fill := if valid then some v else c.fill
    accumulator := some acc
    last := some { raw := raw, valid := valid, value := v, output := out } }

section

variable {e : ChannelEntry} {cal : CalibrationEntry} {c : Channel} {raw : Nat} {v acc out : Int} {valid : Bool}

theorem Channel.sample_of_open (hwindow : c.window.count + 1 < e.window)
    (hvalid : valid = decide (e.lowLimit ≤ raw ∧ raw ≤ e.highLimit))
    (hv : v = if valid then cal.calibrate raw else if e.fillPolicy = .hold then c.fill.getD e.fallback else e.fallback)
    (hacc : acc = match c.accumulator with | none => v * 256 | some a => a + (v * 256 - a) / 2 ^ e.smoothing)
    (hout : out = (acc + 128) / 256) :
    c.sample e cal raw =
      ({ c.sampled e raw v acc out valid with window := c.window.add e.t2 out valid }, []) := by
  have hacc : acc = smooth e.smoothing c.accumulator v := hacc.trans (smooth_eq _ _ _).symm
  rw [← fillValue_eq] at hv
  subst hvalid hv hacc hout
  exact if_neg (show ¬e.window ≤ c.window.count + 1 by omega)

theorem Channel.sample_of_full (hwindow : e.window ≤ c.window.count + 1)
    (hvalid : valid = decide (e.lowLimit ≤ raw ∧ raw ≤ e.highLimit))
    (hv : v = if valid then cal.calibrate raw else if e.fillPolicy = .hold then c.fill.getD e.fallback else e.fallback)
    (hacc : acc = match c.accumulator with | none => v * 256 | some a => a + (v * 256 - a) / 2 ^ e.smoothing)
    (hout : out = (acc + 128) / 256) :
    c.sample e cal raw =
      Channel.evaluate e ((c.window.add e.t2 out valid).close c.mode e.window)
        { c.sampled e raw v acc out valid with
          window := .empty, result := some ((c.window.add e.t2 out valid).close c.mode e.window) } := by
  have hacc : acc = smooth e.smoothing c.accumulator v := hacc.trans (smooth_eq _ _ _).symm
  rw [← fillValue_eq] at hv
  subst hvalid hv hacc hout
  exact if_pos hwindow

end

theorem sampleEvent_not_due {s : State} {n : Fin 12}
    (h : s.load ≠ .running ∨ (s.channels[n]).mode = .off ∨ (s.channels[n]).countdown ≠ 0) (x : Nat) :
    sampleEventEffect n x s = s := by
  unfold sampleEventEffect
  refine if_neg fun ⟨hs, hm, hc⟩ => ?_
  rcases h with h | h | h
  · exact h (s.started_iff.mp hs)
  · exact hm h
  · exact h hc

theorem sampleEvent_due {s : State} {n : Fin 12} (hload : s.load = .running) (hm : (s.channels[n]).mode ≠ .off)
    (hc : (s.channels[n]).countdown = 0) (x : Nat) :
    sampleEventEffect n x s =
      ((s.channels[n]).sample s.channelTable[n] s.calibrationTable[n] x).2.foldl (State.levelReport n)
        (s.setChannel n ((s.channels[n]).sample s.channelTable[n] s.calibrationTable[n] x).1) :=
  if_pos ⟨s.started_of_running hload, hm, hc⟩

/-- Settles O15, for an event that is not due, one that leaves the window open, and one that fills it. -/
theorem sampleEventFillsAndClosesTheWindow : Obligations.SampleEventFillsAndClosesTheWindow := by
  have hexec : ∀ (n : Fin 12) (raw : BitVec 12) (s : State),
      exec (.sampleEvent n raw) s = .next (sampleEventEffect n raw.toNat s).settle := fun _ _ _ => rfl
  refine ⟨fun n raw s hs hdue => ?_, fun n raw s e c v acc out valid hs hload he hc hm hcount hwindow hvalid hv hacc hout => ?_,
    fun n raw s e c v acc out valid r x hload he hc hm hcount hwindow hvalid hv hacc hout hr hx => ?_⟩
  · rw [hexec, sampleEvent_not_due hdue, settle_of_atRest hs]
  · subst he hc
    rw [hexec, sampleEvent_due hload hm hcount, Channel.sample_of_open hwindow hvalid hv hacc hout, List.foldl_nil,
      settle_of_atRest (atRest_setChannel _ _ hs), OpenWindow.add_eq]
    rfl
  · subst he hc
    have hclose : (((s.channels[n]).window.add (s.channelTable[n]).t2 out valid).close (s.channels[n]).mode
        (s.channelTable[n]).window) = r := by
      rw [OpenWindow.add_eq, OpenWindow.close, gradeOf_eq, hr]
      push_cast
      rfl
    have hsample : (s.channels[n]).sample s.channelTable[n] s.calibrationTable[n] raw.toNat = x := by
      rw [Channel.sample_of_full hwindow hvalid hv hacc hout, hclose, hx]
      rfl
    rw [hexec, sampleEvent_due hload hm hcount, hsample]
    rfl

end Sys2Proof.Machine
end

section
/-! Fan drives: the ramp tick, a resolution, the fan orders and the timer expiries (O18, O21 to O23). -/

namespace Sys2Proof.Machine

/-! ### The ramp tick -/

theorem Fan.tick_of_starting {x : Fan} (e : FanEntry) (h : x.mode = .starting) :
    x.tick e = { x with startTimer := x.startTimer - 1 } := by simp only [Fan.tick, h]

theorem Fan.tick_of_running {x : Fan} (e : FanEntry) (h : x.mode = .running) :
    x.tick e =
      { x with
        ramp := if x.wantsSame then rampToward (x.target.speed * 100) x.target.rate x.ramp else x.ramp
        lossTimer := x.lossTimer.map (· - 1) } := by
  simp only [Fan.tick, h]
  rfl

theorem Fan.tick_of_stopping {x : Fan} (e : FanEntry) (h : x.mode = .stopping) :
    x.tick e =
      if x.ramp ≤ x.target.rate then x.off .coasting (e.coastTime * 100)
      else { x with ramp := x.ramp - x.target.rate, lossTimer := x.lossTimer.map (· - 1) } := by
  simp only [Fan.tick, h]
  rfl

theorem Fan.tick_of_coasting {x : Fan} (e : FanEntry) (h : x.mode = .coasting) :
    x.tick e = { x with coastTimer := x.coastTimer - 1 } := by simp only [Fan.tick, h]

theorem Fan.tick_of_still {x : Fan} (e : FanEntry)
    (h : x.mode = .disabled ∨ x.mode = .stopped ∨ x.mode = .fault ∨ x.mode = .isolated) : x.tick e = x := by
  unfold Fan.tick
  rcases h with h | h | h | h <;> rw [h]

/-- Settles O18, from the drive's tick by its state. -/
theorem rampTickMovesEveryDrive : Obligations.RampTickMovesEveryDrive := by
  intro s hkeys
  refine ⟨rampTickEffect s, ?_, ?_, fun f => ⟨fun hload => ?_, fun hload => ?_⟩⟩
  · rw [exec_rampTick, settle_of_noKeys ((rampTickEffect_keys s).trans hkeys)]
  · rw [rampTickEffect_eq]
    split <;> rfl
  · rw [rampTickEffect_eq, if_neg (by simp [State.not_started hload])]
  · have hfan : (rampTickEffect s).fans[f] = (s.fans[f]).tick s.fanTable[f] := by
      rw [rampTickEffect_eq, if_pos (State.started_of_running hload)]
      exact getElem_tabulate _ f.val f.isLt
    rw [hfan]
    generalize s.fans[f] = x
    refine ⟨Fan.tick_of_starting _, fun h => ?_, Fan.tick_of_stopping _, Fan.tick_of_coasting _, Fan.tick_of_still _⟩
    rw [Fan.tick_of_running _ h]
    refine ⟨rfl, fun hstands => ?_⟩
    have hsame : x.wantsSame = false := by
      rw [← Bool.not_eq_true, Fan.wantsSame_iff]
      rintro ⟨hspeed, hdirection⟩
      rcases hstands with h0 | h0
      · omega
      · exact h0 hdirection
    simp [hsame]

/-! ### Resolution -/

theorem Fan.act_eq (e : FanEntry) (confirmed : Bool) (y : Fan) :
    y.act e confirmed =
      match y.mode with
      | .stopped =>
        if y.target.speed = 0 then y
        else
          { y with
            direction := y.target.direction
            mode := if confirmed then .running else .starting
            ramp := 0
            startTimer := if confirmed then 0 else e.startTimeout * 100
            lossTimer := none }
      | .starting => if y.wantsSame then y else y.off .coasting (e.coastTime * 100)
      | .running => if y.wantsSame then y else { y with mode := .stopping }
      | .stopping => if y.wantsSame then { y with mode := .running } else y
      | .coasting | .fault | .isolated | .disabled => y := by
  have hstart : (if 0 < y.target.speed then y.start e confirmed else y) =
      if y.target.speed = 0 then y
      else
        { y with
          direction := y.target.direction
          mode := if confirmed then .running else .starting
          ramp := 0
          startTimer := if confirmed then 0 else e.startTimeout * 100
          lossTimer := none } := by
    by_cases h : y.target.speed = 0
    · rw [if_pos h, if_neg (by omega)]
    · rw [if_neg h, if_pos (by omega)]
      cases confirmed <;> rfl
  unfold Fan.act
  cases h : y.mode with
  | stopped => exact hstart
  | _ => rfl

/-- Settles O21: the target formed, and the drive's rule for a target change. -/
theorem resolutionReachesTheDriveByItsState : Obligations.ResolutionReachesTheDriveByItsState := by
  intro f s e x y g confirmed same he hx hg hy hconfirmed hsame
  have htarget : x.resolved e = g := hg.symm
  have hwants : y.wantsSame = same := by rw [hsame, hy]; rfl
  unfold State.resolveFan
  dsimp only
  rw [show s.fanEntry f = e from he.symm, show s.fan f = x from hx.symm, htarget, ← hy,
    show s.fanConfirmed f = confirmed from hconfirmed.symm, Fan.act_eq, hwants]
  subst hy
  rfl

/-! ### Fan orders -/

theorem presentFan_eq_none {s : State} {fan : Word}
    (h : ∀ f : Fin 6, fan.toNat = f.val → (s.fanTable[f]).present = false) : s.presentFan fan = none := by
  unfold State.presentFan
  cases hf : indexOf 6 fan.toNat with
  | none => rfl
  | some f =>
    have hfan : fan.toNat = f.val := by exact_mod_cast indexOf_eq_some hf
    have habsent : (s.fanEntry f).present = false := h f hfan
    exact if_neg (by simp [habsent])

theorem presentFan_eq_some {s : State} {fan : Word} {f : Fin 6} (h : fan.toNat = f.val)
    (hp : (s.fanTable[f]).present = true) : s.presentFan fan = some f := by
  unfold State.presentFan
  rw [h, indexOf_val]
  exact if_pos hp

theorem clamp_eq {low high : Int} (_ : low ≤ high) (v : Int) : clamp low high v = min high (max low v) := by
  unfold clamp
  split_ifs <;> omega

theorem clamp_eq_self_iff {low high : Int} (_ : low ≤ high) (v : Int) : clamp low high v = v ↔ low ≤ v ∧ v ≤ high := by
  unfold clamp
  split_ifs <;> omega

theorem signed_eq_iff (w v : Word) : signed w = signed v ↔ w = v := BitVec.toInt_inj

theorem fanSetDemand_eq (direction speed rate precedence : Word) :
    fanSetDemand direction speed rate precedence =
      { precedence := (min 15 (max 1 precedence.toInt)).toNat
        direction := if direction = 0 then .fwd else .rev
        speed := (min 1000 (max 0 speed.toInt)).toNat
        rate := (min 500 (max 1 rate.toInt)).toNat } := by
  have hdirection : (if signed direction = 0 then Direction.fwd else .rev) = if direction = 0 then .fwd else .rev :=
    if_congr (signed_eq_iff direction 0) rfl rfl
  unfold fanSetDemand
  rw [clamp_eq (by decide), clamp_eq (by decide), clamp_eq (by decide), hdirection]
  rfl

theorem fanSetClamped_eq_false_iff (direction speed rate precedence : Word) :
    fanSetClamped direction speed rate precedence = false ↔
      (direction = 0 ∨ direction = 1) ∧ 0 ≤ speed.toInt ∧ speed.toInt ≤ 1000 ∧ 1 ≤ rate.toInt ∧ rate.toInt ≤ 500 ∧
        1 ≤ precedence.toInt ∧ precedence.toInt ≤ 15 := by
  have h0 : signed direction = 0 ↔ direction = 0 := signed_eq_iff direction 0
  have h1 : signed direction = 1 ↔ direction = 1 := signed_eq_iff direction 1
  have hd : ¬(¬direction = 0 ∧ ¬direction = 1) ↔ direction = 0 ∨ direction = 1 := by tauto
  unfold fanSetClamped
  simp only [Bool.or_eq_false_iff, decide_eq_false_iff_not, not_not, ne_eq, clamp_eq_self_iff (by decide : (0 : Int) ≤ 1000),
    clamp_eq_self_iff (by decide : (1 : Int) ≤ 500), clamp_eq_self_iff (by decide : (1 : Int) ≤ 15), h0, h1, hd, and_assoc]
  rfl

/-- An order whose work offers no key, executed once the units have started. -/
theorem order_of_keyless {s t : State} {r : OrderResult} {req : Request} {kind : Word} {run : State → State × OrderResult}
    (hload : s.load = .running) (hrun : run s = (t, r)) (hkeys : t.keys = []) :
    s.order req kind run = t.followed.answerOrder req kind r := by
  rw [order_of_running hload, hrun, settle_of_noKeys hkeys]

/-- An order that leaves a machine at rest as it is. -/
theorem order_of_idle {s : State} {r : OrderResult} {req : Request} {kind : Word} {run : State → State × OrderResult}
    (hs : s.atRest) (hload : s.load = .running) (hrun : run s = (s, r)) :
    s.order req kind run = s.answerOrder req kind r := by
  rw [order_of_running hload, hrun, settle_of_atRest hs]

/-- Settles O22, order by order. -/
theorem fanSetReleaseAndReset : Obligations.FanSetReleaseAndReset := by
  refine ⟨fun req fan direction speed rate precedence s hs hload => ⟨fun hnone => ?_, fun f hf hp => ?_⟩,
    fun req fan s hs hload => ⟨fun hnone => ?_, fun f hf hp => ?_⟩⟩
  · refine congrArg Host.Outcome.next (order_of_idle hs hload ?_)
    rw [State.fanSet, presentFan_eq_none hnone]
  · rw [← fanSetDemand_eq]
    refine congrArg Host.Outcome.next (order_of_keyless hload ?_ ((keys_resolveFan f _).trans hs.1))
    rw [State.fanSet, presentFan_eq_some hf hp]
    simp only [← fanSetClamped_eq_false_iff]
    cases fanSetClamped direction speed rate precedence <;> rfl
  · constructor
    · refine congrArg Host.Outcome.next (order_of_idle hs hload ?_)
      rw [State.fanRelease, presentFan_eq_none hnone]
    · refine congrArg Host.Outcome.next (order_of_idle hs hload ?_)
      rw [State.fanReset, presentFan_eq_none hnone]
  · have hfan := presentFan_eq_some hf hp
    refine ⟨?_, fun hfault => ?_, fun hfault => ?_⟩
    · refine congrArg Host.Outcome.next (order_of_keyless hload ?_ ((keys_resolveFan f _).trans hs.1))
      rw [State.fanRelease, hfan]
      rfl
    · refine congrArg Host.Outcome.next (order_of_keyless hload ?_ hs.1)
      rw [State.fanReset, hfan]
      exact if_pos hfault
    · refine congrArg Host.Outcome.next (order_of_idle hs hload ?_)
      rw [State.fanReset, hfan]
      exact if_neg hfault

/-! ### Timer expiries -/

theorem Door.held_iff (x : Door) : x.held = true ↔ x.isHeld := by
  unfold Door.held Door.isHeld
  rw [Bool.or_eq_true]
  refine or_congr Iff.rfl ?_
  rw [List.any_eq_true]
  constructor
  · rintro ⟨b, hb, htrue⟩
    obtain ⟨k, hk, rfl⟩ := List.getElem_of_mem hb
    exact ⟨⟨k, by simpa using hk⟩, by simpa using htrue⟩
  · rintro ⟨k, hk⟩
    exact ⟨true, by rw [← hk]; simp, rfl⟩

theorem Door.held_eq_false_iff (x : Door) : x.held = false ↔ ¬x.isHeld := by
  rw [← Door.held_iff, Bool.not_eq_true]

/-- Settles O23, expiry by expiry. -/
theorem fanAndDoorTimerExpiries : Obligations.FanAndDoorTimerExpiries := by
  refine ⟨fun f s x e faulted confirmed hs hx he hconfirmed hfaulted => ?_, fun d s x hs hx =>
    ⟨fun hm ht => ?_, fun hdue => ?_, fun hm ht hheld hshows => ?_, fun hm ht hheld hshows => ?_, fun hdue => ?_⟩⟩
  · have hfault : s.fanToFault f = faulted := by
      rw [hfaulted, hx, State.fanToFault, State.offer]
      simp only [setFan_keys, hs.1]
      rfl
    have hfan : s.fan f = x := hx.symm
    refine ⟨?_, ?_, ?_⟩
    · show Host.Outcome.next (startTimerExpiryEffect f s).settle = _
      unfold startTimerExpiryEffect
      rw [hfan, hfault]
      split
      · rfl
      · exact congrArg _ (settle_of_atRest hs)
    · show Host.Outcome.next (lossTimerExpiryEffect f s).settle = _
      unfold lossTimerExpiryEffect
      rw [hfan, hfault]
      split
      · rfl
      · exact congrArg _ (settle_of_atRest hs)
    · show Host.Outcome.next (coastTimerExpiryEffect f s).settle = _
      unfold coastTimerExpiryEffect
      rw [hfan, show s.fanEntry f = e from he.symm, show s.fanConfirmed f = confirmed from hconfirmed.symm, Fan.act_eq]
      split
      · rw [settle_of_noKeys ((setFan_keys ..).trans hs.1)]
        rfl
      · exact congrArg _ (settle_of_atRest hs)
  · subst hx
    show Host.Outcome.next (travelTimerExpiryEffect d s).settle = _
    rw [travelTimerExpiryEffect, if_pos ⟨hm, ht⟩, State.doorJams, State.offer]
    simp only [setDoor_keys, hs.1]
    rfl
  · subst hx
    show Host.Outcome.next (travelTimerExpiryEffect d s).settle = _
    rw [travelTimerExpiryEffect, if_neg]
    · exact congrArg _ (settle_of_atRest hs)
    · rintro ⟨hm, ht⟩
      rcases hdue with ⟨h1, h2⟩ | h
      · exact hm.elim h1 h2
      · exact h ht
  · subst hx
    show Host.Outcome.next (dwellExpiryEffect d s).settle = _
    rw [dwellExpiryEffect, if_pos ⟨hm, ht, (Door.held_eq_false_iff _).mpr hheld⟩, State.doorStartsClosing, contacts_eq,
      if_neg hshows, settle_of_noKeys ((setDoor_keys ..).trans hs.1)]
    rfl
  · subst hx
    have hfree : (s.door d).held = false := (Door.held_eq_false_iff _).mpr hheld
    show Host.Outcome.next (dwellExpiryEffect d s).settle = _
    rw [dwellExpiryEffect, if_pos ⟨hm, ht, hfree⟩, State.doorStartsClosing, contacts_eq, if_pos hshows, State.doorShuts, hfree]
    simp only [State.offer, setDoor_keys, hs.1]
    rfl
  · subst hx
    show Host.Outcome.next (dwellExpiryEffect d s).settle = _
    rw [dwellExpiryEffect, if_neg]
    · exact congrArg _ (settle_of_atRest hs)
    · rintro ⟨hm, ht, hheld⟩
      rcases hdue with h | h | h
      · exact h hm
      · exact h ht
      · exact (Door.held_eq_false_iff _).mp hheld h

end Sys2Proof.Machine
end

section
/-! The line's operations read and write the event latch and the ports, and read the address, the cycle and the Node
Table besides: whatever else of a state is exchanged comes out exchanged. -/

namespace Sys2Proof.Machine

/-- The line of a state with the units of another. -/
def State.lineOver (s t : State) : State :=
  { t with
    events := s.events, portA := s.portA, portB := s.portB, address := s.address, cycle := s.cycle
    nodeTable := s.nodeTable }

variable (s t : State)

theorem lineOver_insertAt (p : Port) (f : Frame) :
    (s.lineOver t).insertAt p f = ((s.insertAt p f).1.lineOver t, (s.insertAt p f).2) := by
  cases p <;> rfl

theorem lineOver_insertBoth (f : Frame) :
    (s.lineOver t).insertBoth f = ((s.insertBoth f).1.lineOver t, (s.insertBoth f).2) := by
  simp only [State.insertBoth, lineOver_insertAt]

theorem lineOver_latchInsertLoss : (s.lineOver t).latchInsertLoss = s.latchInsertLoss.lineOver t := by
  unfold State.latchInsertLoss
  by_cases h : s.latched .insertLoss = true
  · rw [if_pos h]
    exact if_pos h
  · rw [if_neg h]
    refine (if_neg h).trans ?_
    dsimp only
    by_cases hm : ((s.setEvent .insertLoss).masked .insertLoss && (s.setEvent .insertLoss).address.isSome) = true
    · rw [if_pos hm]
      exact (if_pos hm).trans (congrArg Prod.fst (lineOver_insertBoth (s.setEvent .insertLoss) t _))
    · rw [if_neg hm]
      exact if_neg hm

theorem lineOver_queueToAll (f : Frame) : (s.lineOver t).queueToAll f = (s.queueToAll f).lineOver t := by
  unfold State.queueToAll
  rw [lineOver_insertBoth]
  dsimp only
  split
  · exact lineOver_latchInsertLoss _ t
  · rfl

theorem lineOver_notify (c : Byte) : (s.lineOver t).notify c = (s.notify c).lineOver t := by
  unfold State.notify
  by_cases h : s.address.isSome = true
  · rw [if_pos h]
    exact (if_pos h).trans (lineOver_queueToAll s t _)
  · rw [if_neg h]
    exact if_neg h

theorem lineOver_latch (k : EventKind) : (s.lineOver t).latch k = (s.latch k).lineOver t := by
  unfold State.latch
  by_cases h : s.latched k = true
  · rw [if_pos h]
    exact if_pos h
  · rw [if_neg h]
    refine (if_neg h).trans ?_
    dsimp only
    by_cases hm : (s.setEvent k).masked k = true
    · rw [if_pos hm]
      exact (if_pos hm).trans (lineOver_notify (s.setEvent k) t _)
    · rw [if_neg hm]
      exact if_neg hm

variable {s t}

/-- Latching a kind in a state that agrees with another in all the line reads. -/
theorem latch_congr (he : t.events = s.events) (ha : t.portA = s.portA) (hb : t.portB = s.portB)
    (haddress : t.address = s.address) (hc : t.cycle = s.cycle) (hn : t.nodeTable = s.nodeTable) (k : EventKind) :
    t.latch k = { t with events := (s.latch k).events, portA := (s.latch k).portA, portB := (s.latch k).portB } := by
  have hover : t = s.lineOver t := by
    unfold State.lineOver
    rw [← he, ← ha, ← hb, ← haddress, ← hc, ← hn]
  have hlatch : t.latch k = (s.latch k).lineOver t := by
    rw [← lineOver_latch, ← hover]
  rw [hlatch]
  unfold State.lineOver
  rw [address_latch, cycle_latch, nodeTable_latch, ← haddress, ← hc, ← hn]

/-- Several kinds latched one after another. -/
def State.latchAll (s : State) (ks : List EventKind) : State := ks.foldl State.latch s

theorem latchAll_eq (s : State) (ks : List EventKind) :
    s.latchAll ks = { s with events := (s.latchAll ks).events, portA := (s.latchAll ks).portA, portB := (s.latchAll ks).portB } := by
  refine State.eq_of_sansLine ?_
  induction ks generalizing s with
  | nil => rfl
  | cons k ks ih => exact (ih (s.latch k)).trans (sansLine_latch s k)

/-- Latching commutes with moving the doors and offering keys. -/
theorem latch_withDoors (s : State) (k : EventKind) (x : Vector Door 6) (ks : List Key) :
    ({ s with doors := x, keys := ks } : State).latch k = { s.latch k with doors := x, keys := ks } := by
  refine (latch_congr (s := s) (t := { s with doors := x, keys := ks }) rfl rfl rfl rfl rfl rfl k).trans ?_
  have hl := latch_eq s k
  generalize s.latch k = l at hl ⊢
  rw [hl]

end Sys2Proof.Machine
end

section
/-! A door that is given a new state, its keys offered and its event latched: one door, and one door after another. -/

namespace Sys2Proof.Machine

/-- What an operation makes of a door: its new state, the key kinds it emits in order, and the event it latches. -/
abbrev DoorChange := Door × List KeyKind × Option EventKind

/-- A key of a door. -/
def doorKey (d : Fin 6) (kind : KeyKind) : Key := { kind := kind, index := d.val }

/-- A door given a new state, its keys offered and its event latched. -/
def State.doorBecomes (d : Fin 6) (r : DoorChange) (s : State) : State :=
  ({ s with doors := s.doors.set d r.1, keys := s.keys ++ r.2.1.map (doorKey d) } : State).latchAll r.2.2.toList

variable (s : State) (d : Fin 6)

theorem doorBecomes_silent (x : Door) : s.doorBecomes d (x, [], none) = s.setDoor d x := by
  show ({ s with doors := s.doors.set d x, keys := s.keys ++ [] } : State) = s.setDoor d x
  rw [List.append_nil]
  rfl

theorem setDoor_self : s.setDoor d (s.door d) = s := by
  have hself : s.doors.set d s.doors[d] = s.doors := Vector.set_getElem_self ..
  rw [State.setDoor, State.door, hself]

theorem doorBecomes_self : s.doorBecomes d (s.door d, [], none) = s := by
  rw [doorBecomes_silent, setDoor_self]

/-! ### Entries into states -/

theorem doorOpens_eq :
    s.doorOpens d = s.doorBecomes d ((s.door d).toOpen (s.doorEntry d), [.doorOpened], none) := rfl

theorem doorJams_eq :
    s.doorJams d = s.doorBecomes d ((s.door d).toRest .jammed, [.doorJammed], some .doorJammed) := rfl

theorem doorContactFaults_eq :
    s.doorContactFaults d =
      s.doorBecomes d ((s.door d).toRest .contactFault, [.doorContactFault], some .doorContactFault) := rfl

theorem doorStartsOpening_eq :
    s.doorStartsOpening d =
      s.doorBecomes d
        (((s.door d).driven (s.doorEntry d) (s.shows d)).1, ((s.door d).driven (s.doorEntry d) (s.shows d)).2, none) := by
  unfold State.doorStartsOpening Door.driven
  rw [contacts_eq]
  split
  · rfl
  · exact (doorBecomes_silent s d _).symm

/-- A door shut: it opens at once where it is held, for its contacts do not show open. -/
theorem doorShuts_eq (h : s.shows d ≠ .opened) :
    s.doorShuts d =
      s.doorBecomes d
        (if (s.door d).held then (s.door d).toOpening (s.doorEntry d) else (s.door d).toRest .closed, [.doorShut], none) := by
  have hshut : ∀ x : Door, s.doorBecomes d (x, [.doorShut], none) = (s.setDoor d x).offer (plainKey .doorShut d.val) :=
    fun _ => rfl
  unfold State.doorShuts
  by_cases hheld : (s.door d).held = true
  · rw [if_pos hheld, if_pos hheld, hshut]
    unfold State.doorStartsOpening
    rw [contacts_eq, show ((s.setDoor d ((s.door d).toRest .closed)).offer (plainKey .doorShut d.val)).shows d = s.shows d
      from rfl, if_neg h]
    unfold State.setDoor State.offer State.door
    simp only [Fin.getElem_fin, Vector.getElem_set_self, Vector.set_set]
    rfl
  · rw [if_neg hheld, if_neg hheld, hshut]

theorem deriveDoor_eq :
    s.deriveDoor d =
      s.doorBecomes d
        (Door.derived s.doorTable[d] (s.assigned (.doorClosed d) && s.assigned (.doorOpen d)) (s.shows d) (s.door d)) := by
  unfold State.deriveDoor Door.derived
  rw [contacts_eq, State.contactsAssigned]
  cases s.assigned (.doorClosed d) && s.assigned (.doorOpen d) with
  | false => exact doorContactFaults_eq s d
  | true =>
    cases hshows : s.shows d with
    | conflict => exact doorContactFaults_eq s d
    | opened => exact doorOpens_eq s d
    | neither => exact doorJams_eq s d
    | closed =>
      refine (doorShuts_eq s d (by rw [hshows]; nofun)).trans ?_
      simp only [reduceCtorEq, or_self, if_false, if_true]
      split
      next h =>
        have hheld : (s.door d).lineHold = true ∨ ∃ k : Fin 4, (s.door d).responseHolds[k] = true := (Door.held_iff _).mp h
        rw [if_pos hheld]
        rfl
      next h =>
        have hfree : ¬((s.door d).lineHold = true ∨ ∃ k : Fin 4, (s.door d).responseHolds[k] = true) :=
          mt (Door.held_iff _).mpr h
        rw [if_neg hfree]
        rfl

theorem Door.asked_of_opened {x : Door} (e : DoorEntry) (shows : Contacts) (h : x.mode = .opened) :
    x.asked e shows = ({ x with dwellTimer := e.dwell * 100 }, false) := by simp only [Door.asked, h]

theorem openRequest_eq :
    s.openRequest d =
      s.doorBecomes d
        ((Door.asked s.doorTable[d] (s.shows d) (s.door d)).1,
          if (Door.asked s.doorTable[d] (s.shows d) (s.door d)).2 then [.doorOpened] else [], none) := by
  have hself := (doorBecomes_self s d).symm
  show s.openRequest d =
    s.doorBecomes d
      ((Door.asked (s.doorEntry d) (s.shows d) (s.door d)).1,
        if (Door.asked (s.doorEntry d) (s.shows d) (s.door d)).2 then [.doorOpened] else [], none)
  have hstarts : ∀ hm : (s.door d).mode = .closed ∨ (s.door d).mode = .closing ∨ (s.door d).mode = .jammed,
      s.doorStartsOpening d =
        s.doorBecomes d
          ((Door.asked (s.doorEntry d) (s.shows d) (s.door d)).1,
            if (Door.asked (s.doorEntry d) (s.shows d) (s.door d)).2 then [.doorOpened] else [], none) := fun hm => by
    rw [doorStartsOpening_eq, Door.driven, Door.asked]
    rcases hm with hm | hm | hm <;> rw [hm] <;> by_cases h : s.shows d = .opened <;> simp only [h, if_true, if_false] <;> rfl
  unfold State.openRequest
  cases hm : (s.door d).mode with
  | closed => exact hstarts (.inl hm)
  | closing => exact hstarts (.inr (.inl hm))
  | jammed => exact hstarts (.inr (.inr hm))
  | opened =>
    rw [Door.asked_of_opened _ _ hm]
    exact (doorBecomes_silent s d _).symm
  | opening | contactFault | outOfService | disabled =>
    simp only [Door.asked, hm]
    exact hself

/-! ### One door after another -/

/-- A state with other doors and other keys. -/
def State.moveDoors (x : Vector Door 6) (ks : List Key) (s : State) : State := { s with doors := x, keys := ks }

theorem moveDoors_latchAll (x : Vector Door 6) (ks : List Key) (es : List EventKind) (s : State) :
    (s.moveDoors x ks).latchAll es = (s.latchAll es).moveDoors x ks := by
  induction es generalizing s with
  | nil => rfl
  | cons e es ih =>
    show ((s.moveDoors x ks).latch e).latchAll es = _
    rw [show (s.moveDoors x ks).latch e = (s.latch e).moveDoors x ks from latch_withDoors s e x ks, ih]
    rfl

/-- What a change of a door leaves unchanged, and the doors and keys it leaves. -/
theorem doorBecomes_fields (s : State) (d : Fin 6) (r : DoorChange) :
    (s.doorBecomes d r).doors = s.doors.set d r.1 ∧ (s.doorBecomes d r).keys = s.keys ++ r.2.1.map (doorKey d) ∧
      (s.doorBecomes d r).doorTable = s.doorTable ∧ (s.doorBecomes d r).pointTable = s.pointTable ∧
      (s.doorBecomes d r).points = s.points := by
  have h := latchAll_eq ({ s with doors := s.doors.set d r.1, keys := s.keys ++ r.2.1.map (doorKey d) } : State) r.2.2.toList
  exact ⟨(congrArg State.doors h :), (congrArg State.keys h :), (congrArg State.doorTable h :),
    (congrArg State.pointTable h :), (congrArg State.points h :)⟩

/-- Doors given their new states one after another, each by its own old state. -/
theorem foldl_doorBecomes (r : Fin 6 → Door → DoorChange) (l : List (Fin 6)) (hl : l.Nodup) (s : State) :
    l.foldl (fun u d => u.doorBecomes d (r d (u.door d))) s =
      (s.moveDoors (tabulate fun d => if d ∈ l then (r d s.doors[d]).1 else s.doors[d])
        (s.keys ++ l.flatMap fun d => (r d s.doors[d]).2.1.map (doorKey d))).latchAll
        (l.filterMap fun d => (r d s.doors[d]).2.2) := by
  induction l generalizing s with
  | nil =>
    have hdoors : (tabulate fun d : Fin 6 => s.doors[d.val]) = s.doors := by
      ext1 i hi
      exact getElem_tabulate _ i hi
    simp only [List.foldl_nil, List.not_mem_nil, if_false, Fin.getElem_fin, hdoors, List.flatMap_nil, List.append_nil]
    rfl
  | cons d l ih =>
    obtain ⟨hd, hl⟩ := List.nodup_cons.mp hl
    obtain ⟨hdoors, hkeys, -⟩ := doorBecomes_fields s d (r d (s.door d))
    have hrest : ∀ j ∈ l, (s.doors.set d (r d (s.door d)).1)[j] = s.doors[j] := fun j hj =>
      Vector.getElem_set_ne _ _ fun e => hd (Fin.ext e ▸ hj)
    rw [List.foldl_cons, ih hl, hdoors, hkeys]
    have hmove : ∀ x ks, (s.doorBecomes d (r d (s.door d))).moveDoors x ks =
        (s.moveDoors x ks).latchAll (r d (s.door d)).2.2.toList := fun x ks => (moveDoors_latchAll x ks _ _).symm
    rw [hmove]
    have hevents : (d :: l).filterMap (fun j => (r j s.doors[j]).2.2) =
        (r d (s.door d)).2.2.toList ++ l.filterMap fun j => (r j (s.doors.set d (r d (s.door d)).1)[j]).2.2 := by
      rw [List.filterMap_cons, List.filterMap_congr fun j hj => by rw [← hrest j hj]]
      unfold State.door
      cases (r d s.doors[d]).2.2 <;> rfl
    have hoffered : (d :: l).flatMap (fun j => (r j s.doors[j]).2.1.map (doorKey j)) =
        (r d (s.door d)).2.1.map (doorKey d) ++
          l.flatMap fun j => (r j (s.doors.set d (r d (s.door d)).1)[j]).2.1.map (doorKey j) := by
      rw [List.flatMap_cons, List.flatMap_congr fun j hj => by rw [← hrest j hj]]
      rfl
    have hstates : (tabulate fun j => if j ∈ d :: l then (r j s.doors[j]).1 else s.doors[j]) =
        tabulate fun j => if j ∈ l then (r j (s.doors.set d (r d (s.door d)).1)[j]).1
          else (s.doors.set d (r d (s.door d)).1)[j] := by
      ext1 j hj
      simp only [getElem_tabulate, List.mem_cons]
      by_cases e : (⟨j, hj⟩ : Fin 6) = d
      · subst e
        simp [hd, State.door]
      · have hne : d.val ≠ j := fun e' => e (Fin.ext e'.symm)
        simp [e, hne]
    rw [hevents, hoffered, hstates, ← List.append_assoc]
    exact (List.foldl_append ..).symm

/-- Doors that take an order one after another, each by its own old state. -/
theorem doorsTake_eq {act : Fin 6 → State → State × Bool} {r : Fin 6 → Door → DoorChange} {b : Fin 6 → Door → Bool}
    {s : State}
    (hact : ∀ d u, u.doorTable = s.doorTable → u.pointTable = s.pointTable → u.points = s.points →
      act d u = (u.doorBecomes d (r d (u.door d)), b d (u.door d)))
    (l : List (Fin 6)) (hl : l.Nodup) (u : State) (ht : u.doorTable = s.doorTable) (hpt : u.pointTable = s.pointTable)
    (hp : u.points = s.points) :
    doorsTake act l u = (l.foldl (fun u d => u.doorBecomes d (r d (u.door d))) u, l.all fun d => b d u.doors[d]) := by
  induction l generalizing u with
  | nil => rfl
  | cons d l ih =>
    obtain ⟨hd, hl⟩ := List.nodup_cons.mp hl
    obtain ⟨hdoors, -, ht', hpt', hp'⟩ := doorBecomes_fields u d (r d (u.door d))
    have hrest : (l.all fun j => b j (u.doorBecomes d (r d (u.door d))).doors[j]) = l.all fun j => b j u.doors[j] := by
      rw [Bool.eq_iff_iff, List.all_eq_true, List.all_eq_true, hdoors]
      refine forall₂_congr fun j hj => ?_
      rw [show (u.doors.set d (r d (u.door d)).1)[j] = u.doors[j] from
        Vector.getElem_set_ne _ _ fun e => hd (Fin.ext e ▸ hj)]
    rw [doorsTake, hact d u ht hpt hp, ih hl _ (ht'.trans ht) (hpt'.trans hpt) (hp'.trans hp), hrest]
    rfl

end Sys2Proof.Machine
end

section
/-! The door orders (O24, O25). -/

namespace Sys2Proof.Machine

variable {s : State} {doors : Word}

theorem nodup_doorsOf (s : State) (doors : Word) : (s.doorsOf doors).Nodup := (List.nodup_finRange 6).filter _

theorem doorBecomes_setDoor (u : State) (d : Fin 6) (x : Door) (r : DoorChange) :
    (u.setDoor d x).doorBecomes d r = u.doorBecomes d r := by
  unfold State.doorBecomes State.setDoor
  simp only [Vector.set_set]

/-- A door order taken by the doors it names, each by its own old state. -/
theorem doorOrder_eq {act : Fin 6 → State → State × Bool} {r : Fin 6 → Door → DoorChange} {b : Fin 6 → Door → Bool}
    (hact : ∀ d u, u.doorTable = s.doorTable → u.pointTable = s.pointTable → u.points = s.points →
      act d u = (u.doorBecomes d (r d (u.door d)), b d (u.door d)))
    (hs : s.keys = []) (hdoors : s.doorsOf doors ≠ []) :
    s.doorOrder doors act =
      ((s.moveDoors (tabulate fun d => if d ∈ s.doorsOf doors then (r d s.doors[d]).1 else s.doors[d])
        ((s.doorsOf doors).flatMap fun d => (r d s.doors[d]).2.1.map (doorKey d))).latchAll
        ((s.doorsOf doors).filterMap fun d => (r d s.doors[d]).2.2),
        if (s.doorsOf doors).all fun d => b d s.doors[d] then .done else .refusedState) := by
  unfold State.doorOrder
  refine (if_neg hdoors).trans ?_
  rw [show s.namedDoors doors = s.doorsOf doors from rfl,
    doorsTake_eq hact _ (nodup_doorsOf s doors) s rfl rfl rfl, foldl_doorBecomes r _ (nodup_doorsOf s doors), hs,
    List.nil_append]

theorem doorOrder_of_none {act : Fin 6 → State → State × Bool} (h : s.doorsOf doors = []) :
    s.doorOrder doors act = (s, .unknownTarget) := if_pos h

theorem filterMap_none {α β : Type} (l : List α) : l.filterMap (fun _ => (none : Option β)) = [] :=
  List.filterMap_eq_nil_iff.mpr fun _ _ => rfl

theorem flatMap_const_nil {α β : Type} (l : List α) : (l.flatMap fun _ => ([] : List β)) = [] :=
  List.flatMap_eq_nil_iff.mpr fun _ _ => rfl

theorem all_const_true {α : Type} (l : List α) : (l.all fun _ => true) = true := by simp

theorem flatMap_ite_eq {α β : Type} (l : List α) (p : α → Bool) (f : α → β) :
    (l.flatMap fun x => if p x then [f x] else []) = (l.filter p).map f := by
  induction l with
  | nil => rfl
  | cons x l ih =>
    rw [List.flatMap_cons, ih, List.filter_cons]
    split <;> rfl

theorem flatMap_filter_eq {α β : Type} (l : List α) (p : α → Bool) (f : α → List β) :
    (l.filter p).flatMap f = l.flatMap fun x => if p x then f x else [] := by
  induction l with
  | nil => rfl
  | cons x l ih =>
    rw [List.flatMap_cons, ← ih, List.filter_cons]
    split <;> rfl

theorem doorKey_asked (d : Fin 6) (b : Bool) :
    (if b then [KeyKind.doorOpened] else []).map (doorKey d) = if b then [doorKey d .doorOpened] else [] := by
  cases b <;> rfl

/-! ### One door's part in each order -/

theorem doorOrderOpen_eq (d : Fin 6) (u : State) :
    u.doorOrderOpen d =
      (u.doorBecomes d
        ((Door.asked u.doorTable[d] (u.shows d) (u.door d)).1,
          if (Door.asked u.doorTable[d] (u.shows d) (u.door d)).2 then [.doorOpened] else [], none),
        decide ((u.door d).mode ≠ .contactFault ∧ (u.door d).mode ≠ .outOfService)) := by
  unfold State.doorOrderOpen
  rw [← openRequest_eq, State.openRequest]
  cases hm : (u.door d).mode <;> rfl

theorem doorOrderHold_eq (d : Fin 6) (u : State) :
    u.doorOrderHold d =
      (u.doorBecomes d
        ((Door.asked u.doorTable[d] (u.shows d) { u.door d with lineHold := true }).1,
          if (Door.asked u.doorTable[d] (u.shows d) { u.door d with lineHold := true }).2 then [.doorOpened] else [], none),
        true) := by
  have hdoor : (u.setDoor d { u.door d with lineHold := true }).door d = { u.door d with lineHold := true } :=
    door_setDoor_same u d _
  unfold State.doorOrderHold State.writeLineHold
  rw [openRequest_eq, hdoor, doorBecomes_setDoor]
  rfl

/-- A door whose line hold slot is made absent (R89, R92). -/
def Door.lineFreed (e : DoorEntry) (x : Door) : Door :=
  if x.lineHold = true then
    { x with
      lineHold := false
      dwellTimer :=
        if x.mode = .opened ∧ ∀ k : Fin 4, x.responseHolds[k] = false then e.dwell * 100 else x.dwellTimer }
  else x

theorem doorOrderFree_eq (d : Fin 6) (u : State) :
    u.doorOrderFree d = (u.doorBecomes d (Door.lineFreed u.doorTable[d] (u.door d), [], none), true) := by
  unfold State.doorOrderFree State.withdrawLineHold Door.lineFreed
  rw [doorBecomes_silent]
  congr 1
  dsimp only
  split
  · unfold Door.afterWithdrawal
    have hheld : ({ u.door d with lineHold := false } : Door).held = false ↔ ∀ k : Fin 4, (u.door d).responseHolds[k] = false := by
      rw [Door.held_eq_false_iff, Door.isHeld]
      simp
    simp only [hheld]
    split <;> rfl
  · exact (setDoor_self u d).symm

theorem Door.lineFreed_eq (e : DoorEntry) (x : Door) (p : Prop) [Decidable p] :
    (if p then x.lineFreed e else x) =
      if p ∧ x.lineHold = true then
        { x with
          lineHold := false
          dwellTimer :=
            if x.mode = .opened ∧ ∀ k : Fin 4, x.responseHolds[k] = false then e.dwell * 100 else x.dwellTimer }
      else x := by
  unfold Door.lineFreed
  by_cases hp : p
  · simp only [hp, true_and, if_true]
  · simp only [hp, false_and, if_false]

theorem Door.lineFreed_mode (e : DoorEntry) (x : Door) : (x.lineFreed e).mode = x.mode := by
  unfold Door.lineFreed
  split <;> rfl

/-- Whether a door told to close is driven shut (R92, R94). -/
def Door.canClose (x : Door) : Bool := decide (x.mode = .opened ∨ x.mode = .jammed) && !x.held

/-- A door driven shut, or shut at once where its contacts show closed. -/
def Door.closedOver (e : DoorEntry) (shows : Contacts) (x : Door) : DoorChange :=
  if x.canClose then if shows = .closed then (x.toRest .closed, [.doorShut], none) else (x.toClosing e, [], none)
  else (x, [], none)

theorem doorOrderClose_eq (d : Fin 6) (u : State) :
    u.doorOrderClose d =
      (u.doorBecomes d (Door.closedOver u.doorTable[d] (u.shows d) (u.door d)),
        (u.door d).canClose || decide ((u.door d).mode = .closed)) := by
  have hself := doorBecomes_self u d
  have hdriven : (u.door d).held = false →
      u.doorStartsClosing d =
        u.doorBecomes d
          (if u.shows d = .closed then ((u.door d).toRest .closed, [.doorShut], none)
          else ((u.door d).toClosing u.doorTable[d], [], none)) := fun hheld => by
    unfold State.doorStartsClosing
    rw [contacts_eq]
    split
    next h =>
      rw [doorShuts_eq u d (by rw [h]; nofun), hheld]
      rfl
    next => exact (doorBecomes_silent u d _).symm
  unfold State.doorOrderClose Door.closedOver Door.canClose
  cases hm : (u.door d).mode with
  | opened | jammed =>
    cases hheld : (u.door d).held with
    | true => simp only [reduceCtorEq, decide_true, decide_false, or_true, true_or, Bool.not_true, Bool.and_false,
        Bool.false_eq_true, if_false, if_true, Bool.or_false, hself]
    | false => simp only [decide_true, or_true, true_or, Bool.not_false, Bool.and_true, Bool.false_eq_true, if_false,
        if_true, Bool.true_or, hdriven hheld]
  | closed | opening | closing | contactFault | outOfService | disabled =>
    simp only [reduceCtorEq, or_self, decide_true, decide_false, Bool.false_and, Bool.false_eq_true, if_false, Bool.or_true,
      Bool.or_false, hself]

theorem doorOrderServiceOff_eq (d : Fin 6) (u : State) :
    u.doorOrderServiceOff d = (u.doorBecomes d ((u.door d).toRest .outOfService, [], none), true) := by
  rw [doorBecomes_silent]
  rfl

theorem doorOrderServiceOn_eq (d : Fin 6) (u : State) :
    u.doorOrderServiceOn d =
      (u.doorBecomes d
        (if (u.door d).mode = .outOfService then
          Door.derived u.doorTable[d] (u.assigned (.doorClosed d) && u.assigned (.doorOpen d)) (u.shows d) (u.door d)
        else (u.door d, [], none)), true) := by
  unfold State.doorOrderServiceOn
  rw [deriveDoor_eq]
  split
  · rfl
  · rw [doorBecomes_self]

theorem moveDoors_keyless (hs : s.atRest) (x : Vector Door 6) : s.moveDoors x [] = { s with doors := x } := by
  unfold State.moveDoors
  rw [hs.1]

theorem mem_doorsOf (d : Fin 6) :
    decide (d ∈ s.doorsOf doors) = (doors.getLsbD d.val && (s.doorTable[d]).present) := by
  rw [Bool.eq_iff_iff, decide_eq_true_iff, State.doorsOf, List.mem_filter]
  exact ⟨And.right, fun h => ⟨List.mem_finRange d, h⟩⟩

theorem filter_doorsOf (p : Fin 6 → Bool) :
    (s.doorsOf doors).filter p = (List.finRange 6).filter fun d => decide (d ∈ s.doorsOf doors) && p d := by
  simp only [mem_doorsOf]
  rw [State.doorsOf, List.filter_filter]
  exact List.filter_congr fun _ _ => Bool.and_comm _ _

theorem Door.closedOver_keys (e : DoorEntry) (shows : Contacts) (x : Door) (d : Fin 6) :
    (Door.closedOver e shows x).2.1.map (doorKey d) =
      if x.canClose && decide (shows = .closed) then [doorKey d .doorShut] else [] := by
  unfold Door.closedOver
  by_cases h1 : x.canClose = true <;> by_cases h2 : shows = .closed <;> simp [h1, h2]

/-- A machine at rest whose doors keep their states is at rest. -/
theorem atRest_moveDoors (hs : s.atRest) {x : Vector Door 6} (hx : ∀ d : Fin 6, (x[d]).mode = (s.doors[d]).mode) :
    (s.moveDoors x []).atRest := by
  refine atRest_of_outputs (s := s) hs.1.symm rfl (fun _ => ⟨rfl, rfl⟩) (fun sig => ?_) hs
  have hopen : ∀ d : Fin 6, ((s.moveDoors x []).door d).mode = (s.door d).mode := hx
  cases sig with
  | doorDriveOpen d | doorDriveClose d =>
    simp only [State.unitOutput, Door.driveOpen, Door.driveClose, hopen]
  | _ => rfl

/-- Doors that an operation leaves as they are where a condition fails: those that meet it are moved. -/
theorem moveDoors_filter (p : Door → Bool) (r : Fin 6 → Door → DoorChange) (l : List (Fin 6)) (ks : List Key) (s : State) :
    (s.moveDoors
        (tabulate fun d =>
          if d ∈ l then (if p s.doors[d] then r d s.doors[d] else (s.doors[d], [], none)).1 else s.doors[d])
        (ks ++ l.flatMap fun d =>
          (if p s.doors[d] then r d s.doors[d] else (s.doors[d], [], none)).2.1.map (doorKey d))).latchAll
        (l.filterMap fun d => (if p s.doors[d] then r d s.doors[d] else (s.doors[d], [], none)).2.2) =
      (s.moveDoors
        (tabulate fun d => if d ∈ l.filter fun d => p s.doors[d] then (r d s.doors[d]).1 else s.doors[d])
        (ks ++ (l.filter fun d => p s.doors[d]).flatMap fun d => (r d s.doors[d]).2.1.map (doorKey d))).latchAll
        ((l.filter fun d => p s.doors[d]).filterMap fun d => (r d s.doors[d]).2.2) := by
  congr 1
  · congr 1
    · congr 1
      funext d
      have hmem : (d ∈ l.filter fun d => p s.doors[d]) ↔ d ∈ l ∧ p s.doors[d] = true := List.mem_filter
      by_cases hd : d ∈ l
      · by_cases hp : p s.doors[d] = true
        · rw [if_pos hd, if_pos hp, if_pos (hmem.mpr ⟨hd, hp⟩)]
        · rw [if_pos hd, if_neg hp, if_neg fun h => hp (hmem.mp h).2]
      · rw [if_neg hd, if_neg fun h => hd (hmem.mp h).1]
    · congr 1
      rw [flatMap_filter_eq]
      exact List.flatMap_congr fun d _ => by split <;> rfl
  · rw [List.filterMap_filter]
    exact List.filterMap_congr fun d _ => by split <;> rfl

/-! ### The orders -/

section

variable {req : Request} (hs : s.atRest) (hload : s.load = .running)

include hs hload

theorem doorOrder_unknownTarget {act : Fin 6 → State → State × Bool} (h : s.doorsOf doors = []) (kind : Word) :
    s.order req kind (State.doorOrder doors act) = s.answerOrder req kind .unknownTarget :=
  order_of_idle hs hload (doorOrder_of_none h)

theorem doorOpen_eq (h : s.doorsOf doors ≠ []) :
    doorOpenEffect req doors s =
      ((({ s with
        doors :=
          tabulate fun d =>
            if d ∈ s.doorsOf doors then (Door.asked s.doorTable[d] (s.shows d) s.doors[d]).1 else s.doors[d]
        keys :=
          ((s.doorsOf doors).filter fun d => (Door.asked s.doorTable[d] (s.shows d) s.doors[d]).2).map fun d =>
            { kind := .doorOpened, index := d.val } } : State).settle).answerOrder req 4
        (if ∀ d ∈ s.doorsOf doors, (s.doors[d]).mode ≠ .contactFault ∧ (s.doors[d]).mode ≠ .outOfService then .done
        else .refusedState)) := by
  unfold doorOpenEffect
  rw [order_of_running hload, doorOrder_eq
    (r := fun d x => ((Door.asked s.doorTable[d] (s.shows d) x).1,
      if (Door.asked s.doorTable[d] (s.shows d) x).2 then [.doorOpened] else [], none))
    (b := fun _ x => decide (x.mode ≠ .contactFault ∧ x.mode ≠ .outOfService))
    (fun d u ht hpt hp => by rw [doorOrderOpen_eq, ht, shows_congr hpt hp]) hs.1 h]
  simp only [doorKey_asked, flatMap_ite_eq, filterMap_none, List.all_eq_true, decide_eq_true_iff]
  rfl

theorem doorHold_eq (h : s.doorsOf doors ≠ []) :
    doorHoldEffect req doors s =
      ((({ s with
        doors :=
          tabulate fun d =>
            if d ∈ s.doorsOf doors then
              (Door.asked s.doorTable[d] (s.shows d) { s.doors[d] with lineHold := true }).1
            else s.doors[d]
        keys :=
          ((s.doorsOf doors).filter fun d => (Door.asked s.doorTable[d] (s.shows d) s.doors[d]).2).map fun d =>
            { kind := .doorOpened, index := d.val } } : State).settle).answerOrder
        req 5 .done) := by
  have hheld : ∀ (e : DoorEntry) (shows : Contacts) (x : Door),
      (Door.asked e shows { x with lineHold := true }).2 = (Door.asked e shows x).2 := fun e shows x => by
    unfold Door.asked
    cases x.mode <;> by_cases h : shows = .opened <;> simp only [h, if_true, if_false]
  unfold doorHoldEffect
  rw [order_of_running hload, doorOrder_eq
    (r := fun d x => ((Door.asked s.doorTable[d] (s.shows d) { x with lineHold := true }).1,
      if (Door.asked s.doorTable[d] (s.shows d) { x with lineHold := true }).2 then [.doorOpened] else [], none))
    (b := fun _ _ => true)
    (fun d u ht hpt hp => by rw [doorOrderHold_eq, ht, shows_congr hpt hp]) hs.1 h]
  simp only [doorKey_asked, flatMap_ite_eq, filterMap_none, hheld, all_const_true, if_true]
  rfl

theorem doorFree_eq (h : s.doorsOf doors ≠ []) :
    doorFreeEffect req doors s =
      (({ s with
        doors :=
          tabulate fun d =>
            if d ∈ s.doorsOf doors ∧ (s.doors[d]).lineHold = true then
              { s.doors[d] with
                lineHold := false
                dwellTimer :=
                  if (s.doors[d]).mode = .opened ∧ ∀ k : Fin 4, (s.doors[d]).responseHolds[k] = false then
                    (s.doorTable[d]).dwell * 100
                  else (s.doors[d]).dwellTimer }
            else s.doors[d] } : State).answerOrder req 6 .done) := by
  unfold doorFreeEffect
  rw [order_of_running hload, doorOrder_eq
    (r := fun d x => (x.lineFreed s.doorTable[d], [], none))
    (b := fun _ _ => true)
    (fun d u ht _ _ => by rw [doorOrderFree_eq, ht]) hs.1 h]
  simp only [filterMap_none, all_const_true, if_true, List.map_nil, flatMap_const_nil]
  have hrest := atRest_moveDoors hs
    (x := tabulate fun d => if d ∈ s.doorsOf doors then (s.doors[d]).lineFreed s.doorTable[d] else s.doors[d])
    fun d => by
      simp only [Fin.getElem_fin, getElem_tabulate]
      split
      · exact Door.lineFreed_mode _ _
      · rfl
  show ((s.moveDoors _ []).settle).answerOrder req 6 .done = _
  rw [settle_of_atRest hrest, moveDoors_keyless hs]
  simp only [Door.lineFreed_eq]

theorem doorClose_eq {closes : Fin 6 → Bool}
    (hcloses : ∀ d : Fin 6, closes d = true ↔
      d ∈ s.doorsOf doors ∧ ((s.doors[d]).mode = .opened ∨ (s.doors[d]).mode = .jammed) ∧ ¬(s.doors[d]).isHeld)
    (h : s.doorsOf doors ≠ []) :
    doorCloseEffect req doors s =
      ((({ s with
        doors :=
          tabulate fun d =>
            if closes d = true then
              if s.shows d = .closed then { s.doors[d] with mode := .closed, travelTimer := 0, dwellTimer := 0 }
              else
                { s.doors[d] with
                  mode := .closing
                  travelTimer := (s.doorTable[d]).travelLimit * 100
                  dwellTimer := 0 }
            else s.doors[d]
        keys :=
          ((List.finRange 6).filter fun d => closes d && decide (s.shows d = .closed)).map fun d =>
            { kind := .doorShut, index := d.val } } : State).settle).answerOrder req 7
        (if ∀ d ∈ s.doorsOf doors, closes d = true ∨ (s.doors[d]).mode = .closed then .done
        else .refusedState)) := by
  have hcan : ∀ d : Fin 6, closes d = (decide (d ∈ s.doorsOf doors) && (s.doors[d]).canClose) := fun d => by
    rw [Bool.eq_iff_iff, hcloses, Bool.and_eq_true, decide_eq_true_iff, Door.canClose, Bool.and_eq_true, decide_eq_true_iff,
      Bool.not_eq_true', Door.held_eq_false_iff]
  have hmember : ∀ d ∈ s.doorsOf doors, closes d = (s.doors[d]).canClose := fun d hd => by
    rw [hcan, decide_eq_true hd, Bool.true_and]
  have hstates : (tabulate fun d => if d ∈ s.doorsOf doors then
        (Door.closedOver s.doorTable[d] (s.shows d) s.doors[d]).1 else s.doors[d]) =
      tabulate fun d =>
        if closes d = true then
          if s.shows d = .closed then { s.doors[d] with mode := .closed, travelTimer := 0, dwellTimer := 0 }
          else
            { s.doors[d] with
              mode := .closing
              travelTimer := (s.doorTable[d]).travelLimit * 100
              dwellTimer := 0 }
        else s.doors[d] := by
    congr 1
    funext d
    unfold Door.closedOver
    by_cases hd : d ∈ s.doorsOf doors
    · rw [if_pos hd, hmember d hd]
      split
      · split <;> rfl
      · rfl
    · rw [if_neg hd, hcan, decide_eq_false hd, Bool.false_and, if_neg Bool.false_ne_true]
  have hkeys : ((s.doorsOf doors).flatMap fun d =>
        (Door.closedOver s.doorTable[d] (s.shows d) s.doors[d]).2.1.map (doorKey d)) =
      ((List.finRange 6).filter fun d => closes d && decide (s.shows d = .closed)).map fun d =>
        { kind := .doorShut, index := d.val } := by
    simp only [Door.closedOver_keys, flatMap_ite_eq, filter_doorsOf, ← Bool.and_assoc, ← hcan]
    rfl
  have hevents : (s.doorsOf doors).filterMap (fun d => (Door.closedOver s.doorTable[d] (s.shows d) s.doors[d]).2.2) = [] :=
    List.filterMap_eq_nil_iff.mpr fun d _ => by
      unfold Door.closedOver
      split
      · split <;> rfl
      · rfl
  have hresult : ((s.doorsOf doors).all fun d => (s.doors[d]).canClose || decide ((s.doors[d]).mode = .closed)) = true ↔
      ∀ d ∈ s.doorsOf doors, closes d = true ∨ (s.doors[d]).mode = .closed := by
    rw [List.all_eq_true]
    exact forall₂_congr fun d hd => by rw [Bool.or_eq_true, decide_eq_true_iff, hmember d hd]
  unfold doorCloseEffect
  rw [order_of_running hload, doorOrder_eq
    (r := fun d x => Door.closedOver s.doorTable[d] (s.shows d) x)
    (b := fun _ x => x.canClose || decide (x.mode = .closed))
    (fun d u ht hpt hp => by rw [doorOrderClose_eq, ht, shows_congr hpt hp]) hs.1 h]
  simp only [hstates, hkeys, hevents, hresult]
  rfl

theorem doorServiceOff_eq (h : s.doorsOf doors ≠ []) (hm : s.engine.mode = .maintenance) :
    doorServiceOffEffect req doors s =
      ((({ s with
        doors :=
          tabulate fun d =>
            if d ∈ s.doorsOf doors then
              { s.doors[d] with mode := .outOfService, travelTimer := 0, dwellTimer := 0 }
            else s.doors[d] } : State).followed).answerOrder req 8 .done) := by
  have hallowed : s.doorServiceOff doors = s.doorOrder doors State.doorOrderServiceOff := if_neg fun hc => hc.2 hm
  unfold doorServiceOffEffect
  rw [order_of_running hload, hallowed, doorOrder_eq
    (r := fun _ x => (x.toRest .outOfService, [], none))
    (b := fun _ _ => true)
    (fun d u _ _ _ => doorOrderServiceOff_eq d u) hs.1 h]
  simp only [filterMap_none, all_const_true, if_true, List.map_nil, flatMap_const_nil]
  show ((s.moveDoors _ []).settle).answerOrder req 8 .done = _
  rw [settle_of_noKeys rfl, moveDoors_keyless hs]
  rfl

theorem doorServiceOn_eq {back : List (Fin 6)}
    (hback : back = (s.doorsOf doors).filter (fun d => decide ((s.doors[d]).mode = .outOfService)))
    (h : s.doorsOf doors ≠ []) :
    doorServiceOnEffect req doors s =
      (((back.filterMap fun d =>
          (Door.derived s.doorTable[d] (s.assigned (.doorClosed d) && s.assigned (.doorOpen d)) (s.shows d)
            s.doors[d]).2.2).foldl
          State.latch
          { s with
            doors :=
              tabulate fun d =>
                if d ∈ back then
                  (Door.derived s.doorTable[d] (s.assigned (.doorClosed d) && s.assigned (.doorOpen d))
                    (s.shows d) s.doors[d]).1
                else s.doors[d]
            keys :=
              back.flatMap fun d =>
                (Door.derived s.doorTable[d] (s.assigned (.doorClosed d) && s.assigned (.doorOpen d))
                  (s.shows d) s.doors[d]).2.1.map fun kind =>
                    { kind := kind, index := d.val } }).settle.answerOrder req 9 .done) := by
  unfold doorServiceOnEffect
  rw [order_of_running hload, doorOrder_eq
    (r := fun d x =>
      if decide (x.mode = .outOfService) then
        Door.derived s.doorTable[d] (s.assigned (.doorClosed d) && s.assigned (.doorOpen d)) (s.shows d) x
      else (x, [], none))
    (b := fun _ _ => true)
    (fun d u ht hpt hp => by
      rw [doorOrderServiceOn_eq, ht, shows_congr hpt hp, assigned_congr hpt, assigned_congr hpt]
      simp only [decide_eq_true_iff]) hs.1 h]
  have hmoved := moveDoors_filter (fun x => decide (x.mode = .outOfService))
    (fun d x => Door.derived s.doorTable[d] (s.assigned (.doorClosed d) && s.assigned (.doorOpen d)) (s.shows d) x)
    (s.doorsOf doors) [] s
  rw [← hback, List.nil_append, List.nil_append] at hmoved
  rw [hmoved, all_const_true]
  rfl

end

/-- Settles O24, order by order. -/
theorem doorOpenHoldFreeAndClose : Obligations.DoorOpenHoldFreeAndClose := by
  refine ⟨⟨fun req doors s hs hload => ⟨fun h => ?_, fun h => ?_⟩, fun req doors s hs hload => ⟨fun h => ⟨?_, ?_⟩, fun h =>
    ⟨?_, ?_⟩⟩⟩, fun req doors s hs hload => ⟨fun h => ?_, fun closes hcloses h => ?_⟩⟩
  · exact congrArg Host.Outcome.next (doorOrder_unknownTarget hs hload h 4)
  · exact congrArg Host.Outcome.next (doorOpen_eq hs hload h)
  · exact congrArg Host.Outcome.next (doorOrder_unknownTarget hs hload h 5)
  · exact congrArg Host.Outcome.next (doorOrder_unknownTarget hs hload h 6)
  · exact congrArg Host.Outcome.next (doorHold_eq hs hload h)
  · exact congrArg Host.Outcome.next (doorFree_eq hs hload h)
  · exact congrArg Host.Outcome.next (doorOrder_unknownTarget hs hload h 7)
  · exact congrArg Host.Outcome.next (doorClose_eq hs hload hcloses h)

/-- Settles O25, order by order. -/
theorem doorServiceOffAndOn : Obligations.DoorServiceOffAndOn := by
  intro req doors s hs hload
  refine ⟨fun h => ⟨?_, ?_⟩, fun h hm => ?_, fun h hm => ?_, fun back hback h => ?_⟩
  · have hnone : s.doorServiceOff doors = (s, .unknownTarget) :=
      (if_neg fun hc => hc.1 h).trans (doorOrder_of_none h)
    exact congrArg Host.Outcome.next (order_of_idle hs hload hnone)
  · exact congrArg Host.Outcome.next (doorOrder_unknownTarget hs hload h 9)
  · exact congrArg Host.Outcome.next (order_of_idle hs hload (if_pos ⟨h, hm⟩))
  · exact congrArg Host.Outcome.next (doorServiceOff_eq hs hload h hm)
  · exact congrArg Host.Outcome.next (doorServiceOn_eq hs hload hback h)

end Sys2Proof.Machine
end

section
/-! A frame on the line: the checks, what arriving and relaying do, and how the node's own frames are queued
(R103 to R113, R194, R198). -/

namespace Sys2Proof.Machine

/-! ### The check -/

theorem checkOf_concat (front : List Byte) (b : Byte) :
    checkOf (front ++ [b]) =
      (fun r : Word => if r.getLsbD 15 = true then (r <<< 1) ^^^ 0x1021 else r <<< 1)^[8]
        (checkOf front ^^^ (b ++ (0 : Byte))) := by
  rw [checkOf, List.foldl_concat]
  rfl

theorem frameGood_iff (f : List Byte) :
    frameGood f = true ↔
      10 ≤ f.length ∧ f.length ≤ 130 ∧ (f.getD 6 0xFF).toNat ≤ 120 ∧ f.length = 10 + (f.getD 6 0xFF).toNat ∧
        f.getD (f.length - 2) 0xFF ++ f.getD (f.length - 1) 0xFF = checkOf (f.take (f.length - 2)) := by
  have hlength : f.length = 8 + (byteAt f 6).toNat + 2 ↔ f.length = 10 + (f.getD 6 0xFF).toNat := by
    rw [byteAt]
    omega
  simp only [frameGood, Bool.and_eq_true, decide_eq_true_eq, hlength, and_assoc]
  rfl

theorem framePayload_of_frameGood {f : List Byte} (h : frameGood f = true) :
    framePayload f = (f.drop 8).take (f.length - 10) := by
  obtain ⟨-, -, -, hlength, -⟩ := (frameGood_iff f).1 h
  rw [framePayload, hlength, byteAt, Nat.add_sub_cancel_left]

/-! ### Ports -/

theorem setPort_port (s : State) (p : Port) : s.setPort p (s.port p) = s := by cases p <;> rfl

theorem PortState.kick_of_sending {p : PortState} (h : p.sending.isSome = true) : p.kick = p :=
  if_neg fun hn => by simp [hn] at h

theorem PortState.kick_pass_of_sending {p : PortState} (f : Frame) (h : p.sending.isSome = true) :
    ({ p with pass := p.pass ++ [f] } : PortState).kick = { p with pass := p.pass ++ [f] } := kick_of_sending h

theorem PortState.kick_insert_of_sending {p : PortState} (f : Frame) (h : p.sending.isSome = true) :
    ({ p with insertQueue := p.insertQueue ++ [f] } : PortState).kick = { p with insertQueue := p.insertQueue ++ [f] } :=
  kick_of_sending h

theorem PortState.kick_pass {p : PortState} (f : Frame) (hi : p.insertQueue = []) (hp : p.pass = [])
    (hs : p.sending = none) : ({ p with pass := p.pass ++ [f] } : PortState).kick = { p with sending := some f } := by
  cases p
  simp only at hi hp hs
  subst hi hp hs
  rfl

theorem PortState.kick_insert {p : PortState} (f : Frame) (hi : p.insertQueue = []) (hp : p.pass = [])
    (hs : p.sending = none) :
    ({ p with insertQueue := p.insertQueue ++ [f] } : PortState).kick = { p with sending := some f, starvation := 0 } := by
  cases p
  simp only at hi hp hs
  subst hi hp hs
  rfl

/-! ### Arrival -/

/-- A state whose port has heard a frame, with a source of the node's own address noted (R103, R109). -/
def State.heardFrom (p : Port) (f : Frame) (s : State) : State :=
  if s.address = some (f.getD 2 0xFF) then
    (s.setPort p { s.port p with up := true, linkTimer := 250 }).latch .addressConflict
  else s.setPort p { s.port p with up := true, linkTimer := 250 }

theorem sansLine_heardFrom (p : Port) (f : Frame) (s : State) : (s.heardFrom p f).sansLine = s.sansLine := by
  unfold State.heardFrom
  split_ifs <;> simp

theorem classify_of_sansLine {s t : State} (h : t.sansLine = s.sansLine) (b : Byte) : t.classify b = s.classify b := by
  have ht := State.eq_of_sansLine h
  have ha : t.address = s.address := (congrArg State.address ht :)
  have hn : t.nodeTable = s.nodeTable := (congrArg State.nodeTable ht :)
  unfold State.classify
  rw [ha, hn]

theorem classify_eq_own {s : State} {b : Byte} : s.classify b = .own ↔ s.address = some b := by
  unfold State.classify
  split_ifs <;> simp_all

theorem classify_ne_elsewhere {s : State} {b : Byte} : s.classify b ≠ .elsewhere ↔ s.isFor b := by
  have hgroup : (251 ≤ b.toNat ∧ s.address.isSome = true ∧ s.nodeTable.groups.getLsbD (b.toNat - 251) = true) ↔
      s.address.isSome = true ∧ ∃ g : Fin 4, b.toNat = 251 + g.val ∧ s.nodeTable.groups.getLsbD g.val = true := by
    constructor
    · rintro ⟨hb, ha, hg⟩
      have hlt : b.toNat - 251 < 4 := by
        by_contra hge
        rw [BitVec.getLsbD_of_ge _ _ (by omega)] at hg
        exact absurd hg (by decide)
      exact ⟨ha, ⟨b.toNat - 251, hlt⟩, by simp only; omega, hg⟩
    · rintro ⟨ha, g, hb, hg⟩
      rw [hb, Nat.add_sub_cancel_left]
      exact ⟨Nat.le_add_right _ _, ha, hg⟩
  rw [State.isFor, ← hgroup]
  unfold State.classify
  split_ifs <;> simp_all

theorem destination_eq (p : Port) (f : Frame) (s : State) : s.destination p f = s.classify (f.getD 1 0xFF) := by
  have h : s.destination p f = (s.heardFrom p f).classify (f.getD 1 0xFF) := by cases p <;> rfl
  rw [h, classify_of_sansLine (sansLine_heardFrom p f s)]

theorem relay_eq (p : Port) (f : Frame) (s : State) :
    s.relay p f =
      if (s.port (otherPort p)).up = false ∧ isMark f = false then s
      else if 4 ≤ (s.port (otherPort p)).pass.length then s.latch .passOverflow
      else s.setPort (otherPort p)
        (PortState.kick { s.port (otherPort p) with pass := (s.port (otherPort p)).pass ++ [f] }) := by
  unfold State.relay PortState.placePass
  split_ifs <;> simp_all [setPort_port]

theorem isMark_iff (f : Frame) : isMark f = true ↔ f.head? = some 1 := by simp [isMark]

theorem carried_eq (p : Port) (f : Frame) (s : State) :
    s.carried p f =
      if f.head? ≠ some 1 ∧ (s.address = some (f.getD 1 0xFF) ∨ ((s.heardFrom p f).port (otherPort p)).up = false) then
        s.heardFrom p f
      else if 4 ≤ ((s.heardFrom p f).port (otherPort p)).pass.length then (s.heardFrom p f).latch .passOverflow
      else (s.heardFrom p f).setPort (otherPort p)
        (PortState.kick
          { (s.heardFrom p f).port (otherPort p) with pass := ((s.heardFrom p f).port (otherPort p)).pass ++ [f] }) :=
  rfl

/-- What the model carries of a frame that arrives is what the statements say it carries. -/
theorem passed_eq_carried (p : Port) (f : Frame) (s : State) : s.passed p f = s.carried p f := by
  have hpassed : s.passed p f =
      if relayed ((s.heardFrom p f).classify (f.getD 1 0xFF)) f then (s.heardFrom p f).relay p f
      else s.heardFrom p f := by cases p <;> rfl
  have hrelayed : relayed ((s.heardFrom p f).classify (f.getD 1 0xFF)) f = true ↔
      f.head? = some 1 ∨ s.address ≠ some (f.getD 1 0xFF) := by
    rw [classify_of_sansLine (sansLine_heardFrom p f s), relayed, Bool.or_eq_true, isMark_iff, decide_eq_true_eq,
      ne_eq, classify_eq_own]
  have hmark : isMark f = false ↔ f.head? ≠ some 1 := by rw [← Bool.not_eq_true, isMark_iff]
  rw [hpassed, carried_eq, relay_eq]
  simp only [hrelayed, hmark]
  by_cases hm : f.head? = some 1
  · have hdrop : ¬(((s.heardFrom p f).port (otherPort p)).up = false ∧ f.head? ≠ some 1) := fun hx => hx.2 hm
    rw [if_pos (.inl hm), if_neg hdrop]
    exact (if_neg fun hx => hx.1 hm).symm
  · by_cases ha : s.address = some (f.getD 1 0xFF)
    · rw [if_neg fun hx => hx.elim hm fun hn => hn ha, if_pos ⟨hm, .inl ha⟩]
    · rw [if_pos (.inr ha)]
      by_cases hu : ((s.heardFrom p f).port (otherPort p)).up = false
      · rw [if_pos ⟨hu, hm⟩, if_pos ⟨hm, .inr hu⟩]
      · have hdrop : ¬(((s.heardFrom p f).port (otherPort p)).up = false ∧ f.head? ≠ some 1) := fun hx => hu hx.1
        rw [if_neg hdrop]
        exact (if_neg fun hx => hx.2.elim ha hu).symm

theorem sansLine_carried (p : Port) (f : Frame) (s : State) : (s.carried p f).sansLine = s.sansLine := by
  rw [← passed_eq_carried, sansLine_passed]

theorem atRest_carried (p : Port) (f : Frame) {s : State} (h : s.atRest) : (s.carried p f).atRest :=
  atRest_of_sansLine (sansLine_carried p f s) h

theorem frameArrival_of_good {f : List Byte} (h : frameGood f = true) (p : Port) (s : State) :
    exec (.frameArrival p f) s = .next ((s.carried p f).handOn p (s.classify (f.getD 1 0xFF)) f).settle := by
  rw [← passed_eq_carried, ← destination_eq p f s, ← goodFrame_eq]
  exact congrArg Host.Outcome.next (if_pos h)

theorem frameArrival_of_bad {f : List Byte} (h : frameGood f = false) (p : Port) (s : State) :
    exec (.frameArrival p f) s = .next (s.latch .frameError) :=
  congrArg Host.Outcome.next (if_neg (by rw [h]; exact Bool.false_ne_true))

/-- A frame that its kind's block leaves alone is relayed and no more. -/
theorem frameArrival_of_relayed {f : List Byte} (h : frameGood f = true) (p : Port) {s : State} (hs : s.atRest)
    (hon : (s.carried p f).handOn p (s.classify (f.getD 1 0xFF)) f = s.carried p f) :
    exec (.frameArrival p f) s = .next (s.carried p f) := by
  rw [frameArrival_of_good h, hon, settle_of_atRest (atRest_carried p f hs)]

/-! ### Handing on, kind by kind -/

variable {p : Port} {f : Frame} {s : State} {d : Destination}

theorem started_iff_load {s : State} : s.started = true ↔ s.load = .running := by simp [State.started]

theorem handOn_of_mark (h : f.head? = some 1) :
    s.handOn p d f = if s.load = .running then s.offerMark (f.getD 4 0xFF ++ f.getD 5 0xFF) else s := by
  cases f with
  | nil => simp at h
  | cons b bs =>
    obtain rfl : b = 1 := by simpa using h
    show (if s.started = true then _ else _) = _
    simp only [started_iff_load]
    rfl

theorem watches_iff {b : Byte} : s.watches b = true ↔ s.load = .running ∧ s.address ≠ some b := by
  rw [State.watches, Bool.and_eq_true, started_iff_load, decide_eq_true_eq]

theorem handOn_of_report (h : f.head? = some 2) :
    s.handOn p d f =
      if s.load = .running ∧ s.address ≠ some (f.getD 2 0xFF) then
        s.handReport (f.getD 2 0xFF) (f.getD 4 0xFF ++ f.getD 5 0xFF) (framePayload f) else s := by
  cases f with
  | nil => simp at h
  | cons b bs =>
    obtain rfl : b = 2 := by simpa using h
    show (if s.watches _ = true then _ else _) = _
    simp only [watches_iff]
    rfl

theorem handOn_of_notice (h : f.head? = some 7) :
    s.handOn p d f =
      if s.load = .running ∧ s.address ≠ some (f.getD 2 0xFF) then s.handNotice (f.getD 2 0xFF) (framePayload f)
      else s := by
  cases f with
  | nil => simp at h
  | cons b bs =>
    obtain rfl : b = 7 := by simpa using h
    show (if s.watches _ = true then _ else _) = _
    simp only [watches_iff]
    rfl

theorem handOn_of_order (h : f.head? = some 3) :
    s.handOn p d f =
      if d = .elsewhere then s
      else s.handOrder { port := p, source := f.getD 2 0xFF, tag := f.getD 3 0xFF, own := decide (d = .own) }
        (framePayload f) := by
  cases f with
  | nil => simp at h
  | cons b bs =>
    obtain rfl : b = 3 := by simpa using h
    rfl

theorem handOn_of_access (h : f.head? = some 5) :
    s.handOn p d f =
      if d = .elsewhere then s
      else s.handAccess { port := p, source := f.getD 2 0xFF, tag := f.getD 3 0xFF, own := decide (d = .own) }
        (framePayload f) := by
  cases f with
  | nil => simp at h
  | cons b bs =>
    obtain rfl : b = 5 := by simpa using h
    rfl

theorem handOn_of_other (h1 : f.head? ≠ some 1) (h2 : f.head? ≠ some 2) (h3 : f.head? ≠ some 3)
    (h5 : f.head? ≠ some 5) (h7 : f.head? ≠ some 7) (hf : f ≠ []) : s.handOn p d f = s := by
  cases f with
  | nil => exact absurd rfl hf
  | cons b bs =>
    have hb : ∀ n : Byte, (b :: bs).head? ≠ some n → b.toNat ≠ n.toNat := fun n hn he =>
      hn (congrArg some (BitVec.eq_of_toNat_eq he))
    unfold State.handOn
    dsimp only
    split
    next h => exact absurd h (hb 1 h1)
    next h => exact absurd h (hb 2 h2)
    next h => exact absurd h (hb 3 h3)
    next h => exact absurd h (hb 5 h5)
    next h => exact absurd h (hb 7 h7)
    next => rfl

theorem load_carried (p : Port) (f : Frame) (s : State) : (s.carried p f).load = s.load :=
  (congrArg State.load (State.eq_of_sansLine (sansLine_carried p f s)) :)

theorem address_carried (p : Port) (f : Frame) (s : State) : (s.carried p f).address = s.address :=
  (congrArg State.address (State.eq_of_sansLine (sansLine_carried p f s)) :)

theorem cycle_carried (p : Port) (f : Frame) (s : State) : (s.carried p f).cycle = s.cycle :=
  (congrArg State.cycle (State.eq_of_sansLine (sansLine_carried p f s)) :)

theorem nodeTable_carried (p : Port) (f : Frame) (s : State) : (s.carried p f).nodeTable = s.nodeTable :=
  (congrArg State.nodeTable (State.eq_of_sansLine (sansLine_carried p f s)) :)

/-- A good frame that no block takes: of no kind the node acts on, a mark, report or notice in start-up load, a report
or notice of the node's own address, or a request not for the node. -/
theorem handOn_of_untaken (hgood : frameGood f = true)
    (h : (f.head? ≠ some 1 ∧ f.head? ≠ some 2 ∧ f.head? ≠ some 3 ∧ f.head? ≠ some 5 ∧ f.head? ≠ some 7) ∨
        ((f.head? = some 1 ∨ f.head? = some 2 ∨ f.head? = some 7) ∧ s.load ≠ .running) ∨
        ((f.head? = some 2 ∨ f.head? = some 7) ∧ s.address = some (f.getD 2 0xFF)) ∨
        ((f.head? = some 3 ∨ f.head? = some 5) ∧ ¬s.isFor (f.getD 1 0xFF))) :
    (s.carried p f).handOn p (s.classify (f.getD 1 0xFF)) f = s.carried p f := by
  have hload := load_carried p f s
  have haddress := address_carried p f s
  rcases h with ⟨h1, h2, h3, h5, h7⟩ | ⟨h1 | h2 | h7, hl⟩ | ⟨h2 | h7, ha⟩ | ⟨h3 | h5, hn⟩
  · refine handOn_of_other h1 h2 h3 h5 h7 fun hf => ?_
    rw [hf] at hgood
    exact absurd hgood (by decide)
  · rw [handOn_of_mark h1, if_neg (by rwa [hload])]
  · rw [handOn_of_report h2, if_neg (by rw [hload]; exact fun hx => hl hx.1)]
  · rw [handOn_of_notice h7, if_neg (by rw [hload]; exact fun hx => hl hx.1)]
  · rw [handOn_of_report h2, if_neg (by rw [haddress]; exact fun hx => hx.2 ha)]
  · rw [handOn_of_notice h7, if_neg (by rw [haddress]; exact fun hx => hx.2 ha)]
  · rw [handOn_of_order h3, if_pos (not_not.1 fun hx => hn (classify_ne_elsewhere.1 hx))]
  · rw [handOn_of_access h5, if_pos (not_not.1 fun hx => hn (classify_ne_elsewhere.1 hx))]

end Sys2Proof.Machine

namespace Sys2Proof.Machine

/-- Settles O26: the checks are the model's, and a frame no block takes is carried, case by case of the other port. -/
theorem framesAreCheckedHeardAndRelayed : Obligations.FramesAreCheckedHeardAndRelayed := by
  refine ⟨fun p f s => ⟨fun hbad => frameArrival_of_bad ?_ p s, rfl⟩, frameGood_iff, ⟨rfl, checkOf_concat⟩, ?_⟩
  · rw [← Bool.not_eq_true, frameGood_iff]
    rintro ⟨h10, h130, h120, hlength, hcheck⟩
    rcases hbad with h | h | h | h | h
    · omega
    · omega
    · omega
    · exact h hlength
    · exact h hcheck
  · intro p f s heard checked q hs hgood huntaken hheard hchecked hq
    have hcarried := frameArrival_of_relayed hgood p hs (handOn_of_untaken hgood huntaken)
    have hfrom : s.heardFrom p f = checked := by rw [hchecked, hheard]; rfl
    have hcase := carried_eq p f s
    rw [hfrom, ← hq] at hcase
    rw [hcarried]
    refine ⟨rfl, fun hmark hdrop => ?_, fun hplace => ?_⟩
    · rw [hcase, if_pos ⟨hmark, hdrop⟩]
    · have hkept : ¬(f.head? ≠ some 1 ∧ (s.address = some (f.getD 1 0xFF) ∨ q.up = false)) := by
        rcases hplace with hm | ⟨ha, hup⟩
        · exact fun hx => hx.1 hm
        · rintro ⟨-, hx | hx⟩
          · exact ha hx
          · rw [hup] at hx
            exact absurd hx (by decide)
      rw [hcase, if_neg hkept]
      refine ⟨fun hfull => by rw [if_pos hfull], fun hroom hsend => ?_, fun hp hi hsend => ?_⟩
      · rw [if_neg (by omega), PortState.kick_pass_of_sending f hsend]
      · rw [if_neg (by rw [hp]; decide), PortState.kick_pass f hi hp hsend]

end Sys2Proof.Machine
end

section
/-! The frames the node originates: a latched kind's notice, the insert queues, and the report (R109, R111, R112, R194,
R198). -/

namespace Sys2Proof.Machine

/-! ### Latching and notices -/

theorem noticeFrame_eq {s : State} {a : Byte} (ha : s.address = some a) (c : Byte) (body : List Byte)
    (hb : body = [7, 255, a, 0, s.cycle.number.extractLsb' 8 8, s.cycle.number.extractLsb' 0 8, 1, 0, c]) :
    s.noticeFrame c = body ++ [(checkOf body).extractLsb' 8 8, (checkOf body).extractLsb' 0 8] :=
  buildFrame_eq ha 7 255 0 [c] body hb

theorem notify_of_unaddressed {s : State} (h : s.address = none) (c : Byte) : s.notify c = s := if_neg (by simp [h])

theorem notify_of_addressed {s : State} {a : Byte} (h : s.address = some a) (c : Byte) :
    s.notify c = s.queueToAll (s.noticeFrame c) := if_pos (by simp [h])

theorem latch_of_masked {s : State} {k : EventKind} (hl : s.latched k = false) (hm : s.masked k = true) :
    s.latch k = (s.setEvent k).notify (BitVec.ofNat 8 k.code) :=
  (if_neg (by simp [hl])).trans (if_pos hm)

/-- The loss that latches INSERT_LOSS with its own notice is the latching of that kind (R111). -/
theorem latchInsertLoss_eq (s : State) : s.latchInsertLoss = s.latch .insertLoss := by
  unfold State.latchInsertLoss
  by_cases hl : s.latched .insertLoss = true
  · rw [if_pos hl, latch_of_latched hl]
  · rw [if_neg hl]
    replace hl : s.latched .insertLoss = false := Bool.eq_false_iff.2 hl
    dsimp only
    by_cases hm : s.masked .insertLoss = true
    · rw [latch_of_masked hl hm]
      have hset : (s.setEvent .insertLoss).masked .insertLoss = true := hm
      cases ha : s.address with
      | none =>
        rw [notify_of_unaddressed (by exact ha), if_neg]
        simp [ha]
      | some a =>
        rw [notify_of_addressed (s := s.setEvent .insertLoss) ha, if_pos (by simp [hset, ha])]
        have hlatched : ((s.setEvent .insertLoss).insertBoth ((s.setEvent .insertLoss).noticeFrame 4)).1.latched
            .insertLoss = true := by
          have := latched_setEvent s .insertLoss .insertLoss
          rw [decide_eq_true rfl, Bool.or_true] at this
          exact this
        have hsecond : ((s.setEvent .insertLoss).insertBoth ((s.setEvent .insertLoss).noticeFrame 4)).1.latchInsertLoss =
            ((s.setEvent .insertLoss).insertBoth ((s.setEvent .insertLoss).noticeFrame 4)).1 := if_pos hlatched
        show _ = State.queueToAll _ ((s.setEvent .insertLoss).noticeFrame 4)
        unfold State.queueToAll
        dsimp only
        rw [hsecond, ite_self]
    · rw [latch_of_unmasked (Bool.eq_false_iff.2 hm), if_neg]
      rw [Bool.and_eq_true]
      exact fun hx => hm hx.1

theorem queueTo_eq_latch (s : State) (p : Port) (f : Frame) :
    s.queueTo p f =
      if ((s.port p).placeInsert f).2 = .lost then (s.setPort p ((s.port p).placeInsert f).1).latch .insertLoss
      else s.setPort p ((s.port p).placeInsert f).1 := by
  rw [← latchInsertLoss_eq, State.queueTo]
  simp only [State.insertAt, decide_eq_true_eq]

theorem queueToAll_eq_latch (s : State) (f : Frame) :
    s.queueToAll f =
      if (s.portA.placeInsert f).2 = .lost ∨ (s.portB.placeInsert f).2 = .lost then
        ({ s with portA := (s.portA.placeInsert f).1, portB := (s.portB.placeInsert f).1 } : State).latch .insertLoss
      else { s with portA := (s.portA.placeInsert f).1, portB := (s.portB.placeInsert f).1 } := by
  rw [← latchInsertLoss_eq, State.queueToAll]
  show (if (decide ((s.portA.placeInsert f).2 = .lost) || decide ((s.portB.placeInsert f).2 = .lost)) = true then
    State.latchInsertLoss _ else _) = _
  simp only [Bool.or_eq_true, decide_eq_true_eq]
  rfl

/-! ### The insert queue -/

theorem isReport_iff (f : Frame) : isReport f = true ↔ f.head? = some 2 := by simp [isReport]

theorem isReport_eq_false (f : Frame) : isReport f = false ↔ f.head? ≠ some 2 := by simp [isReport]

theorem replaceReport_append {before : List Frame} (h : ∀ x ∈ before, isReport x = false) (f g : Frame)
    (hg : isReport g = true) (after : List Frame) :
    replaceReport f (before ++ g :: after) = before ++ f :: after := by
  induction before with
  | nil => exact if_pos hg
  | cons x xs ih =>
    rw [List.cons_append, replaceReport, if_neg (by simp [h x List.mem_cons_self]),
      ih fun y hy => h y (List.mem_cons_of_mem _ hy), List.cons_append]

theorem placeInsert_of_down {p : PortState} (h : p.up = false) (f : Frame) : p.placeInsert f = (p, .dropped) := if_pos h

theorem placeInsert_of_report {p : PortState} {f g : Frame} {before after : List Frame} (hup : p.up = true)
    (hf : isReport f = true) (hq : p.insertQueue = before ++ g :: after) (hg : isReport g = true)
    (hbefore : ∀ x ∈ before, isReport x = false) :
    p.placeInsert f = ({ p with insertQueue := before ++ f :: after }, .placed) := by
  have hany : (isReport f && p.insertQueue.any isReport) = true := by simp [hf, hq, hg]
  unfold PortState.placeInsert
  rw [if_neg (by simp [hup]), if_pos hany, hq, replaceReport_append hbefore f g hg]

theorem placeInsert_of_new {p : PortState} {f : Frame} (hup : p.up = true)
    (hf : isReport f = true → ∀ x ∈ p.insertQueue, isReport x = false) :
    p.placeInsert f =
      if 8 ≤ p.insertQueue.length then (p, .lost)
      else (({ p with insertQueue := p.insertQueue ++ [f] } : PortState).kick, .placed) := by
  have hany : ¬(isReport f && p.insertQueue.any isReport) = true := by
    rw [Bool.and_eq_true, List.any_eq_true]
    rintro ⟨hr, x, hx, hxr⟩
    rw [hf hr x hx] at hxr
    exact absurd hxr (by decide)
  unfold PortState.placeInsert
  rw [if_neg (by simp [hup]), if_neg hany]

/-- Settles O27: latching by its cases, placing by the cases of the queue, and the copies with their loss. -/
theorem eventsNotifyThroughTheInsertQueues : Obligations.EventsNotifyThroughTheInsertQueues := by
  refine ⟨fun k s => ⟨fun h => latch_of_latched h, ?_⟩, fun p f before after g => ⟨?_, ?_, ?_⟩, ?_⟩
  · rintro u rfl hl
    refine ⟨fun hquiet => ?_, fun a body hm ha hb => ?_⟩
    · by_cases hm : s.masked k = true
      · rw [latch_of_masked hl hm]
        have ha : s.address = none := hquiet.resolve_left fun hx => by
          rw [State.masked, hx] at hm
          exact absurd hm (by decide)
        exact notify_of_unaddressed (s := s.setEvent k) ha _
      · exact latch_of_unmasked (Bool.eq_false_iff.2 hm)
    · rw [latch_of_masked hl hm, notify_of_addressed (s := s.setEvent k) ha,
        noticeFrame_eq (s := s.setEvent k) ha _ body hb]
      rfl
  · exact fun hup => placeInsert_of_down hup f
  · exact fun hup hf hq hg hbefore =>
      placeInsert_of_report hup ((isReport_iff f).2 hf) hq ((isReport_iff g).2 hg)
        fun x hx => (isReport_eq_false x).2 (hbefore x hx)
  · intro hup hf
    rw [placeInsert_of_new hup fun hr x hx => (isReport_eq_false x).2 (hf ((isReport_iff f).1 hr) x hx)]
    refine ⟨fun hfull => if_pos hfull, fun hroom hsend => ?_, fun hi hp hsend => ?_⟩
    · rw [if_neg (by omega), PortState.kick_insert_of_sending f hsend]
    · rw [if_neg (by rw [hi]; decide), PortState.kick_insert f hi hp hsend]
  · rintro f s u lost rfl hlost
    refine ⟨?_, ?_⟩
    · rw [queueToAll_eq_latch]
      simp only [hlost]
    · rintro p v rfl
      exact queueTo_eq_latch s p f

/-! ### The report -/

/-- The items of a list of blocks of one length, found by their place. -/
theorem getElem?_flatMap {α β : Type} {k : Nat} {g : α → List β} (hk : ∀ a, (g a).length = k) {j : Nat} (hj : j < k)
    (l : List α) (i : Nat) : (l.flatMap g)[k * i + j]? = (l[i]?).bind fun a => (g a)[j]? := by
  induction l generalizing i with
  | nil => rfl
  | cons a l ih =>
    rw [List.flatMap_cons]
    cases i with
    | zero => rw [List.getElem?_append_left (by rw [hk]; omega), Nat.mul_zero, Nat.zero_add]; rfl
    | succ i =>
      rw [List.getElem?_append_right (by rw [hk, Nat.mul_succ]; omega), hk,
        show k * (i + 1) + j - k = k * i + j by rw [Nat.mul_succ]; omega, ih]
      rfl

theorem getElem?_flatMap_finRange {β : Type} {m k : Nat} {g : Fin m → List β} (hk : ∀ a, (g a).length = k) {j : Nat}
    (hj : j < k) (i : Fin m) : ((List.finRange m).flatMap g)[k * i.val + j]? = (g i)[j]? := by
  rw [getElem?_flatMap hk hj]
  simp

theorem length_flatMap_finRange {β : Type} {m k : Nat} {g : Fin m → List β} (hk : ∀ a, (g a).length = k) :
    ((List.finRange m).flatMap g).length = m * k := by
  simp [List.length_flatMap, hk]

/-- What stands in the middle of three lists. -/
theorem getElem?_middle {α : Type} {before mid after : List α} {n i : Nat} (hn : before.length = n)
    (hi : i < mid.length) : (before ++ mid ++ after)[n + i]? = mid[i]? := by
  rw [List.getElem?_append_left (by rw [List.length_append]; omega), List.getElem?_append_right (by omega), hn,
    Nat.add_sub_cancel_left]

variable (s : State)

theorem length_channelItem (n : Fin 12) : (s.channelItem n).length = 5 := rfl
theorem length_fanItem (f : Fin 6) : (s.fanItem f).length = 4 := rfl
theorem length_doorItem (d : Fin 6) : (s.doorItem d).length = 2 := rfl

/-- The node's part of the report, before the channels. -/
def State.reportHead : List Byte :=
  [s.statusByte, s.events.extractLsb' 16 8, s.events.extractLsb' 8 8, s.events.extractLsb' 0 8]

theorem reportPayload_eq :
    s.reportPayload =
      s.reportHead ++ (List.finRange 12).flatMap s.channelItem ++ (List.finRange 6).flatMap s.fanItem ++
        (List.finRange 6).flatMap s.doorItem ++ (List.finRange 4).map s.activeItem := rfl

theorem length_reportPayload : s.reportPayload.length = 104 := by
  simp only [reportPayload_eq, List.length_append, length_flatMap_finRange (length_channelItem s),
    length_flatMap_finRange (length_fanItem s), length_flatMap_finRange (length_doorItem s)]
  rfl

theorem reportPayload_channel (n : Fin 12) {i j : Nat} (hi : i = 4 + (5 * n.val + j)) (hj : j < 5) :
    s.reportPayload[i]? = (s.channelItem n)[j]? := by
  rw [hi, reportPayload_eq, List.append_assoc, List.append_assoc,
    getElem?_middle (n := 4) rfl (by rw [length_flatMap_finRange (length_channelItem s)]; omega),
    getElem?_flatMap_finRange (length_channelItem s) hj]

theorem reportPayload_fan (f : Fin 6) {i j : Nat} (hi : i = 64 + (4 * f.val + j)) (hj : j < 4) :
    s.reportPayload[i]? = (s.fanItem f)[j]? := by
  rw [hi, reportPayload_eq, List.append_assoc,
    getElem?_middle (by rw [List.length_append, length_flatMap_finRange (length_channelItem s)]; rfl)
      (by rw [length_flatMap_finRange (length_fanItem s)]; omega),
    getElem?_flatMap_finRange (length_fanItem s) hj]

theorem reportPayload_door (d : Fin 6) {i j : Nat} (hi : i = 88 + (2 * d.val + j)) (hj : j < 2) :
    s.reportPayload[i]? = (s.doorItem d)[j]? := by
  rw [hi, reportPayload_eq,
    getElem?_middle
      (by
        rw [List.length_append, List.length_append, length_flatMap_finRange (length_channelItem s),
          length_flatMap_finRange (length_fanItem s)]
        rfl)
      (by rw [length_flatMap_finRange (length_doorItem s)]; omega),
    getElem?_flatMap_finRange (length_doorItem s) hj]

theorem reportPayload_active (k : Fin 4) : s.reportPayload[100 + k.val]? = some (s.activeItem k) := by
  have hlength : (s.reportHead ++ (List.finRange 12).flatMap s.channelItem ++ (List.finRange 6).flatMap s.fanItem ++
      (List.finRange 6).flatMap s.doorItem).length = 100 := by
    simp only [List.length_append, length_flatMap_finRange (length_channelItem s),
      length_flatMap_finRange (length_fanItem s), length_flatMap_finRange (length_doorItem s)]
    rfl
  rw [reportPayload_eq, List.getElem?_append_right (by omega), hlength, Nat.add_sub_cancel_left]
  simp

theorem reportPayload_head {i : Nat} (hi : i < 4) : s.reportPayload[i]? = s.reportHead[i]? := by
  rw [reportPayload_eq, List.append_assoc, List.append_assoc, List.append_assoc,
    List.getElem?_append_left (show i < s.reportHead.length from hi)]

variable {s}

theorem sendReport_of_unaddressed (h : s.address = none) : s.sendReport = s := if_neg (by simp [h])

theorem sendReport_of_addressed {a : Byte} (h : s.address = some a) :
    s.sendReport = s.queueToAll (s.buildFrame 2 255 s.cycle.sequence s.reportPayload) := if_pos (by simp [h])

theorem elim_mean (x : Option WindowResult) :
    (match x with | some r => r.mean | none => 0) = x.elim 0 WindowResult.mean := by cases x <;> rfl

theorem speedReference_eq (x : Fan) :
    BitVec.ofNat 16 x.speedReference =
      (match x.mode with
      | .starting | .running | .stopping => BitVec.ofNat 16 (x.ramp / 100)
      | _ => 0) := by
  unfold Fan.speedReference Fan.runOutput
  cases hm : x.mode <;> rfl

theorem Direction.codeByte_eq (d : Direction) : codeByte d.code = (match d with | .fwd => 0 | .rev => 1) := by
  cases d <;> rfl

end Sys2Proof.Machine

namespace Sys2Proof.Machine

/-- Settles O32: each item of the report at its place, and the frame that carries it. -/
theorem nicheReportLayout : Obligations.NicheReportLayout := by
  rintro s b rfl
  refine ⟨⟨sendReport_of_unaddressed, fun a body ha hb => ?_⟩, length_reportPayload s, ?_, ?_, ?_, ?_, ?_, ?_, ?_, ?_⟩
  · rw [sendReport_of_addressed ha, buildFrame_eq ha _ _ _ _ body (by rw [hb, length_reportPayload]; rfl)]
  · rw [reportPayload_head s (by decide)]
    simp only [State.reportHead, State.statusByte, started_iff_load]
    cases s.engine.mode <;> rfl
  · exact reportPayload_head s (by decide)
  · exact reportPayload_head s (by decide)
  · exact reportPayload_head s (by decide)
  · rintro n m rfl
    rw [← elim_mean]
    exact ⟨reportPayload_channel s n (j := 0) (by omega) (by decide),
      reportPayload_channel s n (j := 1) (by omega) (by decide),
      reportPayload_channel s n (j := 2) (by omega) (by decide),
      reportPayload_channel s n (j := 3) (by omega) (by decide),
      reportPayload_channel s n (j := 4) (by omega) (by decide)⟩
  · intro f r hr
    obtain rfl : BitVec.ofNat 16 (s.fan f).speedReference = r := (speedReference_eq (s.fan f)).trans hr.symm
    have hdirection := Direction.codeByte_eq (s.fan f).direction
    exact ⟨reportPayload_fan s f (j := 0) (by omega) (by decide),
      (reportPayload_fan s f (j := 1) (by omega) (by decide)).trans (congrArg some hdirection),
      reportPayload_fan s f (j := 2) (by omega) (by decide),
      reportPayload_fan s f (j := 3) (by omega) (by decide)⟩
  · exact fun d => ⟨reportPayload_door s d (j := 0) (by omega) (by decide),
      reportPayload_door s d (j := 1) (by omega) (by decide)⟩
  · intro k
    rw [reportPayload_active, State.activeItem]
    cases s.engine.active[k] <;> rfl

end Sys2Proof.Machine
end

section
/-! The cycle, reports and notices heard, and requests carried by frames (R108 to R131, R187 to R199). -/

namespace Sys2Proof.Machine

/-! ### Keys and latching -/

theorem takeKeys_eq (s : State) : s.takeKeys = ({ s with keys := [] } : State).takes s.keys := rfl

theorem latched_latch (s : State) (k : EventKind) : (s.latch k).latched k = true := by
  by_cases hl : s.latched k = true
  · rw [latch_of_latched hl, hl]
  · have hset : (s.setEvent k).latched k = true := by simp [latched_setEvent]
    have hinsert : ∀ t : State, t.latched k = true → t.latchInsertLoss.latched k = true := fun t ht => by
      unfold State.latchInsertLoss
      have hloss : (t.setEvent .insertLoss).latched k = true := by simp [latched_setEvent, ht]
      dsimp only
      split_ifs
      · exact ht
      · cases k <;> exact hloss
      · exact hloss
    unfold State.latch
    rw [if_neg hl]
    dsimp only
    split_ifs
    · unfold State.notify
      split_ifs
      · unfold State.queueToAll
        dsimp only
        split_ifs
        · exact hinsert _ hset
        · exact hset
      · exact hset
    · exact hset

theorem latch_latch (s : State) (k : EventKind) : (s.latch k).latch k = s.latch k :=
  latch_of_latched (latched_latch s k)

/-- Steps one after another of which some latch a kind: the kind is latched once, after them all. -/
theorem foldl_latching {ι : Type} {k : EventKind} {g body : ι → State → State} {p : ι → State → Bool}
    (hbody : ∀ i s, body i s = if p i s then (g i s).latch k else g i s)
    (hcomm : ∀ i s, g i (s.latch k) = (g i s).latch k) (hlatch : ∀ i s, p i (s.latch k) = p i s)
    (hother : ∀ i j s, j ≠ i → p j (g i s) = p j s) (l : List ι) (hl : l.Nodup) (s : State) :
    l.foldl (fun s i => body i s) s =
      if l.any (p · s) then (l.foldl (fun s i => g i s) s).latch k else l.foldl (fun s i => g i s) s := by
  have hfold : ∀ (l : List ι) (s : State),
      l.foldl (fun s i => g i s) (s.latch k) = (l.foldl (fun s i => g i s) s).latch k := by
    intro l
    induction l with
    | nil => exact fun _ => rfl
    | cons i l ih => exact fun s => by rw [List.foldl_cons, hcomm, ih]; rfl
  induction l generalizing s with
  | nil => rfl
  | cons i l ih =>
    obtain ⟨hi, hl⟩ := List.nodup_cons.mp hl
    have hlater : l.any (p · (g i s)) = l.any (p · s) := by
      rw [Bool.eq_iff_iff, List.any_eq_true, List.any_eq_true]
      exact exists_congr fun j => and_congr_right fun hj => by rw [hother i j s fun e => hi (e ▸ hj)]
    have hlater' : l.any (p · ((g i s).latch k)) = l.any (p · s) := by
      rw [← hlater]
      exact congrArg l.any (funext fun j => hlatch j _)
    rw [List.foldl_cons, List.foldl_cons, hbody, List.any_cons]
    by_cases hp : p i s = true
    · rw [if_pos hp, hp, Bool.true_or, if_pos rfl, ih hl]
      split_ifs
      · rw [hfold, latch_latch]
      · rw [hfold]
    · rw [if_neg hp, Bool.eq_false_iff.2 hp, Bool.false_or, ih hl, hlater]

/-! ### Cycle events -/

/-- A neighbour record after a cycle event (R130). -/
def NeighbourRecord.advanced (r : NeighbourRecord) : NeighbourRecord :=
  if r.address = 0 ∨ r.state = .silent then r
  else if r.silenceCount + 1 < r.silenceLimit then { r with silenceCount := r.silenceCount + 1 }
  else { r with state := .silent, silenceCount := r.silenceCount + 1 }

/-- Whether a cycle event makes a neighbour record SILENT. -/
def NeighbourRecord.fallsSilent (r : NeighbourRecord) : Bool :=
  decide (r.state ≠ .silent ∧ r.advanced.state = .silent)

theorem NeighbourRecord.fallsSilent_iff (r : NeighbourRecord) :
    r.fallsSilent = true ↔ r.address ≠ 0 ∧ r.state ≠ .silent ∧ r.silenceLimit ≤ r.silenceCount + 1 := by
  unfold fallsSilent advanced
  rw [decide_eq_true_eq]
  split_ifs with h h'
  · exact ⟨fun hx => absurd hx.2 hx.1, fun ⟨ha, hs, _⟩ => (h.elim ha hs).elim⟩
  · exact ⟨fun hx => absurd hx.2 hx.1, fun ⟨_, _, hc⟩ => by omega⟩
  · obtain ⟨ha, hs⟩ := not_or.1 h
    exact ⟨fun _ => ⟨ha, hs, by omega⟩, fun _ => ⟨hs, rfl⟩⟩

/-- A neighbour record advanced by a cycle event, with its key, before NEIGHBOUR_SILENT is latched. -/
def State.countNeighbour (i : Fin 16) (s : State) : State :=
  neighbourRows.put s (s.neighbourTable.set i (s.neighbourTable[i]).advanced)
    (s.keys ++
      if (s.neighbourTable[i]).fallsSilent then [nodeKey .neighbourSilent i.val (s.neighbourTable[i]).address] else [])

/-- Emitting keys and latching a kind do not meet. -/
theorem latch_withKeys (s : State) (k : EventKind) (ks : List Key) :
    ({ s with keys := ks } : State).latch k = { s.latch k with keys := ks } := by
  refine (latch_congr (s := s) (t := { s with keys := ks }) rfl rfl rfl rfl rfl rfl k).trans ?_
  have hl := latch_eq s k
  generalize s.latch k = l at hl ⊢
  rw [hl]

theorem offer_latch (s : State) (k : EventKind) (key : Key) : (s.latch k).offer key = (s.offer key).latch k := by
  refine Eq.trans ?_ (latch_withKeys s k (s.keys ++ [key])).symm
  rw [← keys_latch s k]
  rfl

theorem latch_neighbourRows (s : State) (k : EventKind) (v : Vector NeighbourRecord 16) (ks : List Key) :
    neighbourRows.put (s.latch k) v ks = (neighbourRows.put s v ks).latch k := by
  refine Eq.trans ?_ (latch_congr (s := s) (t := neighbourRows.put s v ks) rfl rfl rfl rfl rfl rfl k).symm
  have hl := latch_eq s k
  generalize s.latch k = l at hl ⊢
  rw [hl]
  rfl

theorem advanceNeighbour_eq (i : Fin 16) (s : State) :
    s.advanceNeighbour i =
      if (s.neighbourTable[i]).fallsSilent then (s.countNeighbour i).latch .neighbourSilent else s.countNeighbour i := by
  have hself : s.neighbourTable.set i s.neighbourTable[i] = s.neighbourTable := Vector.set_getElem_self ..
  have hiff := (s.neighbourTable[i]).fallsSilent_iff
  unfold State.advanceNeighbour State.countNeighbour State.setNeighbour
  dsimp only
  generalize hr : s.neighbourTable[i] = r at hself hiff ⊢
  by_cases hidle : r.address = 0 ∨ r.state = .silent
  · have hf : ¬r.fallsSilent = true := fun hx => by
      obtain ⟨ha, hs, -⟩ := hiff.1 hx
      exact hidle.elim ha hs
    have hadv : r.advanced = r := if_pos hidle
    rw [if_pos hidle, if_neg hf, if_neg hf, hadv, hself, List.append_nil]
    rfl
  · rw [if_neg hidle]
    by_cases hsilent : r.silenceLimit ≤ r.silenceCount + 1
    · have hf : r.fallsSilent = true := hiff.2 ⟨fun h => hidle (.inl h), fun h => hidle (.inr h), hsilent⟩
      have hadv : r.advanced = { r with state := .silent, silenceCount := r.silenceCount + 1 } :=
        (if_neg hidle).trans (if_neg (by omega))
      rw [if_pos hsilent, if_pos hf, if_pos hf, hadv, offer_latch]
      rfl
    · have hf : ¬r.fallsSilent = true := fun hx => hsilent (hiff.1 hx).2.2
      have hadv : r.advanced = { r with silenceCount := r.silenceCount + 1 } :=
        (if_neg hidle).trans (if_pos (by omega))
      rw [if_neg hsilent, if_neg hf, if_neg hf, hadv, List.append_nil]
      rfl

theorem countNeighbour_latch (i : Fin 16) (s : State) (k : EventKind) :
    (s.latch k).countNeighbour i = (s.countNeighbour i).latch k := by
  unfold State.countNeighbour
  rw [neighbourTable_latch, keys_latch, latch_neighbourRows]

theorem neighbour_countNeighbour_ne (i j : Fin 16) (s : State) (h : j ≠ i) :
    ((s.countNeighbour i).neighbourTable)[j] = s.neighbourTable[j] :=
  Vector.getElem_set_ne i.isLt j.isLt fun e => h (Fin.ext e.symm)

theorem forEach_countNeighbour (s : State) :
    forEach State.countNeighbour s =
      neighbourRows.put s (tabulate fun i => (s.neighbourTable[i]).advanced)
        (s.keys ++ (List.finRange 16).flatMap fun i =>
          if (s.neighbourTable[i]).fallsSilent then [nodeKey .neighbourSilent i.val (s.neighbourTable[i]).address]
          else []) :=
  neighbourRows.forEach_eq (m := fun _ => NeighbourRecord.advanced)
    (k := fun i r => if r.fallsSilent then [nodeKey .neighbourSilent i.val r.address] else []) (fun _ _ => rfl) s

theorem forEach_advanceNeighbour (s : State) :
    forEach State.advanceNeighbour s =
      if (List.finRange 16).any fun i => (s.neighbourTable[i]).fallsSilent then
        (forEach State.countNeighbour s).latch .neighbourSilent
      else forEach State.countNeighbour s :=
  foldl_latching (k := .neighbourSilent) (g := State.countNeighbour)
    (p := fun i s => (s.neighbourTable[i]).fallsSilent) advanceNeighbour_eq
    (fun i s => countNeighbour_latch i s _) (fun i s => by rw [neighbourTable_latch])
    (fun i j s h => by rw [neighbour_countNeighbour_ne i j s h]) _ (List.nodup_finRange 16) s

theorem advance_eq (c : CycleState) (interval : Nat) :
    c.advance interval =
      (if interval ≤ c.interval + 1 then { c with interval := 0, sequence := c.sequence + 1 }
        else { c with interval := c.interval + 1 }, decide (interval ≤ c.interval + 1)) := by
  unfold CycleState.advance
  split_ifs with h <;> simp [h]

/-- Settles O29: every record advances by its own row, the kind latched once for all that fall silent. -/
theorem cycleEventsCountSilenceAndReports : Obligations.CycleEventsCountSilenceAndReports := by
  intro s counted noted due silent hkeys hdue hcounted hsilent hnoted
  let cycle : CycleState :=
    if due then { s.cycle with interval := 0, sequence := s.cycle.sequence + 1 }
    else { s.cycle with interval := s.cycle.interval + 1 }
  have hadvance : s.cycle.advance s.nodeTable.reportInterval = (cycle, due) := by
    rw [advance_eq, ← hdue, hdue]
    simp [cycle, hdue]
  have hcounted' : counted = neighbourRows.put (s.setCycle cycle) (tabulate fun i => (s.neighbourTable[i]).advanced) [] := by
    rw [hcounted, ← hkeys]
    rfl
  have hrow : ∀ i : Fin 16, counted.neighbourTable[i] = (s.neighbourTable[i]).advanced := fun i => by
    rw [hcounted']
    exact getElem_tabulate ..
  have hfalls : silent = (List.finRange 16).filter fun i => (s.neighbourTable[i]).fallsSilent := by
    rw [hsilent]
    exact List.filter_congr fun i _ => by rw [hrow]; rfl
  have hany : ((List.finRange 16).any fun i => ((s.setCycle cycle).neighbourTable[i]).fallsSilent) = true ↔ ¬silent = [] := by
    rw [hfalls, List.filter_eq_nil_iff, List.any_eq_true]
    push Not
    rfl
  have hoffered : (List.finRange 16).flatMap (fun i =>
        if (s.neighbourTable[i]).fallsSilent then [nodeKey .neighbourSilent i.val (s.neighbourTable[i]).address] else []) =
      silent.map fun i => { kind := .neighbourSilent, index := i.val, address := some (s.neighbourTable[i]).address } := by
    rw [hfalls, flatMap_ite_eq]
    rfl
  have hcount : forEach State.countNeighbour (s.setCycle cycle) =
      neighbourRows.put counted counted.neighbourTable
        (silent.map fun i =>
          { kind := .neighbourSilent, index := i.val, address := some (s.neighbourTable[i]).address }) := by
    rw [forEach_countNeighbour, ← hoffered, hcounted']
    show neighbourRows.put _ _ (s.keys ++ _) = _
    rw [hkeys]
    rfl
  have htaken : (forEach State.advanceNeighbour (s.setCycle cycle)).takeKeys = noted := by
    rw [forEach_advanceNeighbour, hcount, hnoted]
    have hput : ∀ ks, neighbourRows.put counted counted.neighbourTable ks = { counted with keys := ks } := fun _ => rfl
    have hempty : ({ counted with keys := [] } : State) = counted := by rw [hcounted']; rfl
    by_cases hs : silent = []
    · rw [if_neg fun hx => hany.1 hx hs, if_pos hs, hput, takeKeys_eq]
      exact congrArg (State.takes · _) hempty
    · rw [if_pos (hany.2 hs), if_neg hs, takeKeys_eq, keys_latch]
      refine congrArg (State.takes · _) ?_
      rw [← latch_withKeys]
      exact congrArg (State.latch · _) hempty
  unfold State.cycleEvent
  rw [hadvance]
  dsimp only
  rw [htaken]

end Sys2Proof.Machine
end

section
/-! Marks, reports, notices and requests heard from the line (R107 to R131, R187 to R199). -/

namespace Sys2Proof.Machine

/-! ### Marks -/

theorem takeMark_eq (number : Word) (s : State) :
    s.takeMark number =
      (State.setCycle
        (if s.cycle.firstMark = true ∧ number ≠ s.cycle.number + 1 then
          (s.setCycle { s.cycle with number := number }).latch .cycleBreak
        else s.setCycle { s.cycle with number := number })
        { s.cycle with
          number := number, firstMark := true, marked := true
          markTimer := s.nodeTable.markTimeout * 100, localTimer := none }).cycleEvent := by
  have hbroken : (s.cycle.firstMark && decide (number ≠ s.cycle.number + 1)) = true ↔
      s.cycle.firstMark = true ∧ number ≠ s.cycle.number + 1 := by
    rw [Bool.and_eq_true, decide_eq_true_eq]
  unfold State.takeMark
  dsimp only
  by_cases h : s.cycle.firstMark = true ∧ number ≠ s.cycle.number + 1
  · rw [if_pos (hbroken.2 h), if_pos h, cycle_latch, State.markTimeoutMs, nodeTable_latch]
    rfl
  · rw [if_neg fun hx => h (hbroken.1 hx), if_neg h]
    rfl

/-- Settles O28: a mark carried and offered, and the two timers, by the cases of the model. -/
theorem marksAndTimersRunTheCycle : Obligations.MarksAndTimersRunTheCycle := by
  refine ⟨fun p f s passed number hs hgood hmark hnumber hpassed => ⟨fun hl => ?_, fun hl hm hn => ?_, fun hl hn => ?_⟩,
    fun s hs => ⟨?_, ?_⟩⟩
  · rw [hpassed, frameArrival_of_relayed hgood p hs]
    rw [handOn_of_mark hmark, load_carried, if_neg hl]
  · rw [hpassed, frameArrival_of_relayed hgood p hs]
    rw [handOn_of_mark hmark, load_carried, if_pos hl, ← hnumber, State.offerMark, cycle_carried, if_pos ⟨hm, hn⟩]
  · refine ⟨_, rfl, ?_⟩
    have hoffered : ¬((s.carried p f).cycle.marked = true ∧ number = (s.carried p f).cycle.number) := by
      rw [cycle_carried]
      rintro ⟨hm, he⟩
      rcases hn with hx | hx
      · rw [hx] at hm
        exact absurd hm (by decide)
      · exact hx he
    rw [frameArrival_of_good hgood, handOn_of_mark hmark, load_carried, if_pos hl, ← hnumber, State.offerMark,
      if_neg hoffered, takeMark_eq, cycle_carried, nodeTable_carried, hpassed]
    rfl
  · by_cases hdue : s.cycle.marked = true ∧ s.cycle.markTimer = 0
    · rw [if_pos hdue]
      refine congrArg (fun t : State => Host.Outcome.next t.settle) ((if_pos hdue).trans ?_)
      dsimp only
      rw [cycle_latch]
      rfl
    · rw [if_neg hdue]
      exact (congrArg (fun t : State => Host.Outcome.next t.settle) (if_neg hdue)).trans
        (congrArg Host.Outcome.next (settle_of_atRest hs))
  · by_cases hdue : s.cycle.marked = false ∧ s.cycle.localTimer = some 0
    · rw [if_pos hdue]
      exact congrArg (fun t : State => Host.Outcome.next t.settle) (if_pos hdue)
    · rw [if_neg hdue]
      exact (congrArg (fun t : State => Host.Outcome.next t.settle) (if_neg hdue)).trans
        (congrArg Host.Outcome.next (settle_of_atRest hs))

/-! ### Requests -/

/-- A word is not a small number it does not stand for. -/
theorem toNat_ne_of_ne {w : Word} {n : Nat} (h : w ≠ BitVec.ofNat 16 n) (hn : n < 2 ^ 16) : w.toNat ≠ n := fun he =>
  h (BitVec.eq_of_toNat_eq (by rw [he, BitVec.toNat_ofNat, Nat.mod_eq_of_lt hn]))

/-- The command a payload's words carry is run by what the frame hands over (R188, R199). -/
theorem exec_orderCommand (req : Request) (payload : List Byte) (s : State) :
    exec (orderCommand req (wordsOf payload)) s = .next (s.handOrder req payload) := by
  unfold State.handOrder
  match wordsOf payload with
  | [] => rfl
  | kind :: values =>
    by_cases h1 : kind = 1
    · subst h1
      match values with
      | [] | [_] | [_, _] | [_, _, _] | [_, _, _, _] | _ :: _ :: _ :: _ :: _ :: _ => rfl
    by_cases h2 : kind = 2
    · subst h2
      match values with
      | [] | _ :: _ => rfl
    by_cases h3 : kind = 3
    · subst h3
      match values with
      | [] | _ :: _ => rfl
    by_cases h4 : kind = 4
    · subst h4
      match values with
      | [] | _ :: _ => rfl
    by_cases h5 : kind = 5
    · subst h5
      match values with
      | [] | _ :: _ => rfl
    by_cases h6 : kind = 6
    · subst h6
      match values with
      | [] | _ :: _ => rfl
    by_cases h7 : kind = 7
    · subst h7
      match values with
      | [] | _ :: _ => rfl
    by_cases h8 : kind = 8
    · subst h8
      match values with
      | [] | _ :: _ => rfl
    by_cases h9 : kind = 9
    · subst h9
      match values with
      | [] | _ :: _ => rfl
    by_cases h10 : kind = 10
    · subst h10
      rfl
    by_cases h11 : kind = 11
    · subst h11
      rfl
    by_cases h12 : kind = 12
    · subst h12
      match values with
      | [] | _ :: _ => rfl
    by_cases h13 : kind = 13
    · subst h13
      match values with
      | [] | _ :: _ => rfl
    by_cases h14 : kind = 14
    · subst h14
      rfl
    have hunknown : orderCommand req (kind :: values) = .unknownOrder req (some kind) := by
      cases values <;>
        simp only [orderCommand, h1, h2, h3, h4, h5, h6, h7, h8, h9, h10, h11, h12, h13, h14, if_false]
    rw [hunknown]
    refine congrArg Host.Outcome.next ?_
    dsimp only
    split
    · exact (toNat_ne_of_ne h1 (by decide) ‹_›).elim
    · exact (toNat_ne_of_ne h2 (by decide) ‹_›).elim
    · exact (toNat_ne_of_ne h3 (by decide) ‹_›).elim
    · exact (toNat_ne_of_ne h4 (by decide) ‹_›).elim
    · exact (toNat_ne_of_ne h5 (by decide) ‹_›).elim
    · exact (toNat_ne_of_ne h6 (by decide) ‹_›).elim
    · exact (toNat_ne_of_ne h7 (by decide) ‹_›).elim
    · exact (toNat_ne_of_ne h8 (by decide) ‹_›).elim
    · exact (toNat_ne_of_ne h9 (by decide) ‹_›).elim
    · exact (toNat_ne_of_ne h10 (by decide) ‹_›).elim
    · exact (toNat_ne_of_ne h11 (by decide) ‹_›).elim
    · exact (toNat_ne_of_ne h12 (by decide) ‹_›).elim
    · exact (toNat_ne_of_ne h13 (by decide) ‹_›).elim
    · exact (toNat_ne_of_ne h14 (by decide) ‹_›).elim
    · rfl

/-- The table access a payload carries is run by what the frame hands over (R190, R199). -/
theorem exec_accessCommand (req : Request) (payload : List Byte) (s : State) :
    exec (accessCommand req (wordsOf (payload.take 8)) (payload.drop 8)) s = .next (s.handAccess req payload) := by
  unfold State.handAccess
  match wordsOf (payload.take 8) with
  | [] | [_] | [_, _] | [_, _, _] | _ :: _ :: _ :: _ :: _ :: _ => rfl
  | [op, a, b, c] =>
    by_cases h1 : op = 1
    · subst h1
      rfl
    by_cases h2 : op = 2
    · subst h2
      rfl
    by_cases h3 : op = 3
    · subst h3
      rfl
    by_cases h4 : op = 4
    · subst h4
      rfl
    by_cases h5 : op = 5
    · subst h5
      rfl
    by_cases h6 : op = 6
    · subst h6
      rfl
    by_cases h7 : op = 7
    · subst h7
      rfl
    by_cases h8 : op = 8
    · subst h8
      rfl
    by_cases h9 : op = 9
    · subst h9
      rfl
    by_cases h10 : op = 10
    · subst h10
      rfl
    by_cases h11 : op = 11
    · subst h11
      rfl
    by_cases h12 : op = 12
    · subst h12
      rfl
    by_cases h13 : op = 13
    · subst h13
      rfl
    by_cases h14 : op = 14
    · subst h14
      rfl
    have hunknown : accessCommand req [op, a, b, c] (payload.drop 8) = .unknownOperation req [op, a, b, c] := by
      simp only [accessCommand, h1, h2, h3, h4, h5, h6, h7, h8, h9, h10, h11, h12, h13, h14, if_false]
    rw [hunknown]
    refine congrArg Host.Outcome.next ?_
    dsimp only
    split
    · exact (toNat_ne_of_ne h1 (by decide) ‹_›).elim
    · exact (toNat_ne_of_ne h2 (by decide) ‹_›).elim
    · exact (toNat_ne_of_ne h3 (by decide) ‹_›).elim
    · exact (toNat_ne_of_ne h4 (by decide) ‹_›).elim
    · exact (toNat_ne_of_ne h5 (by decide) ‹_›).elim
    · exact (toNat_ne_of_ne h6 (by decide) ‹_›).elim
    · exact (toNat_ne_of_ne h7 (by decide) ‹_›).elim
    · exact (toNat_ne_of_ne h8 (by decide) ‹_›).elim
    · exact (toNat_ne_of_ne h9 (by decide) ‹_›).elim
    · exact (toNat_ne_of_ne h10 (by decide) ‹_›).elim
    · exact (toNat_ne_of_ne h11 (by decide) ‹_›).elim
    · exact (toNat_ne_of_ne h12 (by decide) ‹_›).elim
    · exact (toNat_ne_of_ne h13 (by decide) ‹_›).elim
    · exact (toNat_ne_of_ne h14 (by decide) ‹_›).elim
    · rfl

theorem decide_classify (s : State) (b : Byte) : decide (s.classify b = .own) = decide (s.address = some b) :=
  decide_eq_decide.2 classify_eq_own

/-- An effect that some command runs leaves nothing for the end of the event to do. -/
theorem settle_of_exec {c : Instr} {s t : State} (h : exec c s = .next t) (hs : s.atRest) : t.settle = t := by
  obtain ⟨u, hu, hrest⟩ := exec_atRest (s := s) c hs
  obtain rfl : u = t := Host.Outcome.next.inj (hu.symm.trans h)
  exact settle_of_atRest hrest

/-- Settles O35: what the frame hands over is the command its payload spells, on the state that has carried it. -/
theorem requestFramesRunTheirCommands : Obligations.RequestFramesRunTheirCommands := by
  refine ⟨fun p f payload s req hs hgood hpayload hreq => ⟨fun hfor => ⟨fun hkind => ?_, fun hkind => ?_⟩,
    fun hnot hkind => ?_⟩, fun req kind op a b r x s hown =>
      ⟨answerOrder_unanswered (.inl hown) .., answerAccess_unanswered (.inl hown) ..⟩⟩
  · rw [frameArrival_of_good hgood, handOn_of_order hkind, if_neg (classify_ne_elsewhere.2 hfor), decide_classify, ← hreq,
      framePayload_of_frameGood hgood, ← hpayload]
    have hexec := exec_orderCommand req payload (s.carried p f)
    rw [settle_of_exec hexec (atRest_carried p f hs), hexec]
  · rw [frameArrival_of_good hgood, handOn_of_access hkind, if_neg (classify_ne_elsewhere.2 hfor), decide_classify, ← hreq,
      framePayload_of_frameGood hgood, ← hpayload]
    have hexec := exec_accessCommand req payload (s.carried p f)
    rw [settle_of_exec hexec (atRest_carried p f hs), hexec]
  · exact frameArrival_of_relayed hgood p hs
      (handOn_of_untaken hgood (.inr (.inr (.inr ⟨hkind, hnot⟩))))

end Sys2Proof.Machine
end

section
/-! What the Watch Matcher makes of reports and notices (R122 to R131). -/

namespace Sys2Proof.Machine

/-! ### Hand-overs -/

theorem stale_eq_false (limit : Nat) (current origin : Word) :
    stale limit current origin = false ↔
      (current - origin).toNat ≤ limit ∨ 65536 - (current - origin).toNat ≤ limit := by
  rw [stale, decide_eq_false_iff_not]
  omega

/-- A neighbour record after a report of a source (R131). -/
def NeighbourRecord.refreshed (source : Byte) (r : NeighbourRecord) : NeighbourRecord :=
  if r.address = source ∧ source ≠ 0 then { r with state := .present, silenceCount := 0 } else r

/-- Whether a report of a source finds a neighbour record SILENT (R131). -/
def NeighbourRecord.isBack (source : Byte) (r : NeighbourRecord) : Bool :=
  decide (r.address = source ∧ source ≠ 0 ∧ r.state = .silent)

theorem refreshNeighbour_eq (source : Byte) (i : Fin 16) (s : State) :
    s.refreshNeighbour source i =
      neighbourRows.put s (s.neighbourTable.set i ((s.neighbourTable[i]).refreshed source))
        (s.keys ++ if (s.neighbourTable[i]).isBack source then [nodeKey .neighbourBack i.val source] else []) := by
  have hself : s.neighbourTable.set i s.neighbourTable[i] = s.neighbourTable := Vector.set_getElem_self ..
  unfold State.refreshNeighbour State.setNeighbour NeighbourRecord.refreshed NeighbourRecord.isBack
  generalize s.neighbourTable[i] = r at hself ⊢
  dsimp only
  by_cases hr : r.address = source ∧ source ≠ 0
  · obtain ⟨ha, h0⟩ := hr
    subst ha
    have hown : r.address ≠ 0 ∧ r.address = r.address := ⟨h0, rfl⟩
    have hself : r.address = r.address ∧ r.address ≠ 0 := ⟨rfl, h0⟩
    rw [if_pos hown, if_pos hself]
    by_cases hs : r.state = .silent
    · rw [if_pos hs, if_pos (decide_eq_true ⟨rfl, h0, hs⟩)]
      rfl
    · rw [if_neg hs, if_neg (by simp [hs]), List.append_nil]
      rfl
  · have hback : ¬decide (r.address = source ∧ source ≠ 0 ∧ r.state = .silent) = true := fun hx =>
      hr ⟨(of_decide_eq_true hx).1, (of_decide_eq_true hx).2.1⟩
    have hown : ¬(r.address ≠ 0 ∧ r.address = source) := fun hx => hr ⟨hx.2, hx.2 ▸ hx.1⟩
    rw [if_neg hr, if_neg hback, if_neg hown, hself, List.append_nil]
    rfl

/-- Whether a watch entry is hit by a report of a source (R127). -/
def WatchEntry.isHit (source : Byte) (payload : List Byte) (w : WatchEntry) : Bool :=
  w.applies .report source && w.comparison.holds (testValue payload w.test w.testIndex) w.operand &&
    decide (w.latch = none)

/-- Whether a watch entry is cleared by a report of a source (R127). -/
def WatchEntry.isCleared (source : Byte) (payload : List Byte) (w : WatchEntry) : Bool :=
  w.applies .report source && !w.comparison.holds (testValue payload w.test w.testIndex) w.operand &&
    decide (w.latch = some source)

theorem watchReport_eq (source : Byte) (payload : List Byte) (i : Fin 32) (s : State) :
    s.watchReport source payload i =
      watchRows.put s
        (s.watchTable.set i
          (if (s.watchTable[i]).isHit source payload then { s.watchTable[i] with latch := some source }
          else if (s.watchTable[i]).isCleared source payload then { s.watchTable[i] with latch := none }
          else s.watchTable[i]))
        (s.keys ++
          if ((s.watchTable[i]).isHit source payload || (s.watchTable[i]).isCleared source payload) = true then
            [nodeKey (if (s.watchTable[i]).isHit source payload then .watchHit else .watchClear) i.val source]
          else []) := by
  have hself : s.watchTable.set i s.watchTable[i] = s.watchTable := Vector.set_getElem_self ..
  unfold State.watchReport State.setLatch WatchEntry.isHit WatchEntry.isCleared
  generalize s.watchTable[i] = w at hself ⊢
  dsimp only
  by_cases ha : w.applies .report source = true
  · rw [if_pos ha, ha]
    cases w.comparison.holds (testValue payload w.test w.testIndex) w.operand <;> cases hl : w.latch with
    | none => simp [hself, watchRows, State.offer]
    | some a => by_cases he : a = source <;> simp [he, hself, watchRows, State.offer]
  · rw [if_neg ha, Bool.eq_false_iff.2 ha]
    simp [hself, watchRows]

theorem watchNotice_eq (source code : Byte) (i : Fin 32) (s : State) :
    s.watchNotice source code i =
      watchRows.put s (s.watchTable.set i s.watchTable[i])
        (s.keys ++
          if ((s.watchTable[i]).applies .notice source &&
              (s.watchTable[i]).comparison.holds code.toNat (s.watchTable[i]).operand) = true then
            [nodeKey .watchHit i.val source]
          else []) := by
  have hself : s.watchTable.set i s.watchTable[i] = s.watchTable := Vector.set_getElem_self ..
  unfold State.watchNotice
  rw [hself]
  dsimp only
  split_ifs
  · rfl
  · rw [List.append_nil]
    rfl

theorem applies_iff (w : WatchEntry) (kind : WatchKind) (source : Byte) :
    w.applies kind source = true ↔ w.enabled = true ∧ w.kind = kind ∧ (w.source = 255 ∨ w.source = source) := by
  simp only [WatchEntry.applies, Bool.and_eq_true, Bool.or_eq_true, decide_eq_true_eq, and_assoc]

theorem holds_iff (c : Comparison) (v operand : Int) :
    c.holds v operand = true ↔
      (match c with | .atOrAbove => operand ≤ v | .equal => v = operand | .below => v < operand) := by
  cases c <;> exact decide_eq_true_iff

theorem getElem_tabulate_fin {α : Type} {n : Nat} (f : Fin n → α) (i : Fin n) : (tabulate f)[i] = f i := by simp

theorem forEach_watchReport (source : Byte) (payload : List Byte) (s : State) :
    forEach (State.watchReport source payload) s =
      watchRows.put s
        (tabulate fun i =>
          if (s.watchTable[i]).isHit source payload then { s.watchTable[i] with latch := some source }
          else if (s.watchTable[i]).isCleared source payload then { s.watchTable[i] with latch := none }
          else s.watchTable[i])
        (s.keys ++
          ((List.finRange 32).filter fun i =>
              (s.watchTable[i]).isHit source payload || (s.watchTable[i]).isCleared source payload).map fun i =>
            nodeKey (if (s.watchTable[i]).isHit source payload then .watchHit else .watchClear) i.val source) := by
  rw [← flatMap_ite_eq]
  exact watchRows.forEach_eq
    (m := fun _ w =>
      if w.isHit source payload then { w with latch := some source }
      else if w.isCleared source payload then { w with latch := none } else w)
    (k := fun i w =>
      if (w.isHit source payload || w.isCleared source payload) = true then
        [nodeKey (if w.isHit source payload then .watchHit else .watchClear) i.val source] else [])
    (watchReport_eq source payload) s

theorem forEach_refreshNeighbour (source : Byte) (s : State) :
    forEach (State.refreshNeighbour source) s =
      neighbourRows.put s (tabulate fun i => (s.neighbourTable[i]).refreshed source)
        (s.keys ++ ((List.finRange 16).filter fun i => (s.neighbourTable[i]).isBack source).map fun i =>
          nodeKey .neighbourBack i.val source) := by
  rw [← flatMap_ite_eq]
  exact neighbourRows.forEach_eq (m := fun _ r => r.refreshed source)
    (k := fun i r => if r.isBack source then [nodeKey .neighbourBack i.val source] else [])
    (refreshNeighbour_eq source) s

theorem forEach_watchNotice (source code : Byte) (s : State) :
    forEach (State.watchNotice source code) s =
      { s with
        keys := s.keys ++
          ((List.finRange 32).filter fun i =>
              (s.watchTable[i]).applies .notice source &&
                (s.watchTable[i]).comparison.holds code.toNat (s.watchTable[i]).operand).map fun i =>
            nodeKey .watchHit i.val source } := by
  have htable : (tabulate fun i : Fin 32 => s.watchTable[i]) = s.watchTable := by ext i hi; simp
  rw [← flatMap_ite_eq]
  refine (watchRows.forEach_eq (m := fun _ w => w)
    (k := fun i w =>
      if (w.applies .notice source && w.comparison.holds code.toNat w.operand) = true then
        [nodeKey .watchHit i.val source] else [])
    (watchNotice_eq source code) s).trans ?_
  show watchRows.put s (tabulate fun i => s.watchTable[i]) _ = _
  rw [htable]
  rfl

/-- Settles O30: the frame carried and handed over, and each hand-over row by row. -/
theorem reportsAndNoticesAreWatched : Obligations.ReportsAndNoticesAreWatched := by
  refine ⟨fun p f payload source s passed hs hgood hsource hpayload hpassed => ⟨fun hkind hleft => ?_, fun hl ha =>
    ⟨fun hkind => ?_, fun hkind => ?_⟩⟩, ?_, ?_⟩
  · rw [hpassed]
    refine frameArrival_of_relayed hgood p hs (handOn_of_untaken hgood ?_)
    rcases hleft with hl | ha
    · exact .inr (.inl ⟨.inr hkind, hl⟩)
    · exact .inr (.inr (.inl ⟨hkind, hsource ▸ ha⟩))
  · rw [frameArrival_of_good hgood, handOn_of_report hkind, load_carried, address_carried, ← hsource, if_pos ⟨hl, ha⟩,
      framePayload_of_frameGood hgood, hpayload, hpassed]
  · rw [frameArrival_of_good hgood, handOn_of_notice hkind, load_carried, address_carried, ← hsource, if_pos ⟨hl, ha⟩,
      framePayload_of_frameGood hgood, hpayload, hpassed]
  · intro source origin payload s d applies condition hit cleared keys hkeys hd happlies hcondition hhit hcleared hall
    subst hd
    have hfresh : stale s.nodeTable.staleLimit s.cycle.number origin = false ∧ 104 ≤ payload.length ↔
        ((s.cycle.number - origin).toNat ≤ s.nodeTable.staleLimit ∨
          65536 - (s.cycle.number - origin).toNat ≤ s.nodeTable.staleLimit) ∧ 104 ≤ payload.length := by
      rw [stale_eq_false]
    have hcondition' : ∀ i, condition i =
        (s.watchTable[i]).comparison.holds (testValue payload (s.watchTable[i]).test (s.watchTable[i]).testIndex)
          (s.watchTable[i]).operand := fun i => by
      rw [Bool.eq_iff_iff]
      exact (hcondition i _ rfl).trans (holds_iff ..).symm
    unfold State.handReport
    rw [forEach_refreshNeighbour, hkeys, List.nil_append, hall]
    dsimp only
    by_cases hf : stale s.nodeTable.staleLimit s.cycle.number origin = false ∧ 104 ≤ payload.length
    · have happlies' : ∀ i, applies i = (s.watchTable[i]).applies .report source := fun i => by
        rw [Bool.eq_iff_iff, happlies, applies_iff]
        obtain ⟨hs, hl⟩ := hfresh.1 hf
        exact ⟨fun ⟨_, _, h⟩ => h, fun h => ⟨hs, hl, h⟩⟩
      have hhit' : hit = fun i => (s.watchTable[i]).isHit source payload :=
        funext fun i => by rw [hhit, happlies', hcondition']; rfl
      have hcleared' : cleared = fun i => (s.watchTable[i]).isCleared source payload :=
        funext fun i => by rw [hcleared, happlies', hcondition']; rfl
      rw [if_pos hf, forEach_watchReport, hhit', hcleared']
      rfl
    · have happlies' : ∀ i, applies i = false := fun i => Bool.eq_false_iff.2 fun h =>
        let ⟨hs, hl, _⟩ := (happlies i).1 h
        hf (hfresh.2 ⟨hs, hl⟩)
      have hhit' : hit = fun _ => false := funext fun i => by rw [hhit, happlies', Bool.false_and, Bool.false_and]
      have hcleared' : cleared = fun _ => false :=
        funext fun i => by rw [hcleared, happlies', Bool.false_and, Bool.false_and]
      have htable : (tabulate fun i : Fin 32 => s.watchTable[i]) = s.watchTable := by ext i hi; simp
      rw [if_neg hf, hhit', hcleared']
      simp only [Bool.or_self, List.filter_false, List.map_nil, List.append_nil, Bool.false_eq_true, if_false, htable]
      rfl
  · intro source code rest s met hkeys hmet
    refine ⟨rfl, ?_⟩
    have hmet' : met = fun i => (s.watchTable[i]).applies .notice source &&
        (s.watchTable[i]).comparison.holds code.toNat (s.watchTable[i]).operand := by
      funext i
      rw [Bool.eq_iff_iff, hmet, Bool.and_eq_true, applies_iff, and_assoc, and_assoc]
      exact and_congr_right fun _ => and_congr_right fun _ => and_congr_right fun _ => (holds_iff ..).symm
    have hkeyless : ({ s with keys := [] } : State) = s := by rw [← hkeys]
    show (forEach (State.watchNotice source code) s).takeKeys = _
    rw [forEach_watchNotice, takeKeys_eq, hmet', hkeys, List.nil_append]
    show State.takes { s with keys := [] } _ = _
    rw [hkeyless, State.takes, List.foldl_map]
    rfl

end Sys2Proof.Machine
end

section
/-! The test values a report yields (R124, R198). -/

namespace Sys2Proof.Machine

theorem foldl_if_max (l : List Nat) (p : Nat → Bool) (f : Nat → Nat) (a : Nat) :
    l.foldl (fun acc n => if p n = true then max acc (f n) else acc) a = ((l.filter p).map f).foldl max a := by
  induction l generalizing a with
  | nil => rfl
  | cons n l ih =>
    rw [List.foldl_cons, ih, List.filter_cons]
    by_cases hp : p n = true
    · rw [if_pos hp, if_pos hp]
      rfl
    · rw [if_neg hp, if_neg hp]

theorem le_foldl_max (l : List Nat) (a : Nat) : a ≤ l.foldl max a ∧ ∀ x ∈ l, x ≤ l.foldl max a := by
  induction l generalizing a with
  | nil => simp
  | cons b l ih =>
    obtain ⟨hstart, hall⟩ := ih (max a b)
    refine ⟨le_trans (le_max_left a b) hstart, fun x hx => ?_⟩
    rcases List.mem_cons.mp hx with rfl | hx
    · exact le_trans (le_max_right a x) hstart
    · exact hall x hx

theorem foldl_max_mem (l : List Nat) (a : Nat) : l.foldl max a = a ∨ l.foldl max a ∈ l := by
  induction l generalizing a with
  | nil => exact .inl rfl
  | cons b l ih =>
    rw [List.foldl_cons]
    rcases ih (max a b) with h | h
    · rw [h]
      rcases max_choice a b with hm | hm
      · exact .inl hm
      · exact .inr (by rw [hm]; exact List.mem_cons_self)
    · exact .inr (List.mem_cons_of_mem _ h)

theorem length_filter_eq_sum {α : Type} (l : List α) (p : α → Bool) :
    ((l.filter p).length : Int) = (l.map fun x => if p x = true then (1 : Int) else 0).sum := by
  induction l with
  | nil => rfl
  | cons x l ih =>
    rw [List.filter_cons, List.map_cons, List.sum_cons, ← ih]
    by_cases hp : p x = true
    · rw [if_pos hp, if_pos hp, List.length_cons]
      omega
    · rw [if_neg hp, if_neg hp]
      omega

/-- A class's level is the highest of the levels its channel items carry. -/
theorem classLevel_eq (payload : List Byte) (c : Int) (levels : List Nat)
    (hlevels : levels =
      ((List.range 12).filter fun n => decide (((payload.getD (4 + 5 * n) 0xFF).toNat : Int) = c)).map fun n =>
        (payload.getD (5 + 5 * n) 0xFF).toNat)
    (hstated : ∀ l ∈ levels, l ≤ 3) : classLevel payload c = levels.foldl max 0 := by
  have hfold : classLevel payload c =
      (((List.range 12).filter fun n => decide (((payload.getD (4 + 5 * n) 0xFF).toNat : Int) = c)).map fun n =>
        reportLevel (payload.getD (5 + 5 * n) 0xFF)).foldl max 0 := by
    rw [← foldl_if_max]
    simp only [decide_eq_true_eq]
    rfl
  rw [hfold, hlevels]
  congr 1
  refine List.map_congr_left fun n hn => if_pos (hstated _ ?_)
  rw [hlevels]
  exact List.mem_map_of_mem hn

theorem fanStateValue_eq (payload : List Byte) (f : Nat) (hd : (payload.getD (65 + 4 * f) 0xFF).toNat ≤ 1) :
    fanStateValue payload f =
      if 2 ≤ (payload.getD (64 + 4 * f) 0xFF).toNat ∧ (payload.getD (64 + 4 * f) 0xFF).toNat ≤ 4 then
        ((payload.getD (65 + 4 * f) 0xFF).toNat : Int) + 1
      else 0 := by
  unfold fanStateValue byteAt
  dsimp only
  generalize (payload.getD (64 + 4 * f) 0xFF).toNat = state
  generalize payload.getD (65 + 4 * f) 0xFF = d at hd ⊢
  have hstate : (state = 2 ∨ state = 3 ∨ state = 4) ↔ 2 ≤ state ∧ state ≤ 4 := by omega
  have hdirection : d = 0 ∨ d = 1 := by
    rcases Nat.le_one_iff_eq_zero_or_eq_one.1 hd with h | h
    · exact .inl (BitVec.eq_of_toNat_eq h)
    · exact .inr (BitVec.eq_of_toNat_eq h)
  simp only [hstate]
  rcases hdirection with rfl | rfl <;> rfl

theorem openDoors_eq (payload : List Byte) :
    (openDoors payload : Int) =
      ((List.finRange 6).map fun d =>
        if payload.getD (88 + 2 * d.val) 0xFF = 0 ∨ payload.getD (89 + 2 * d.val) 0xFF ≠ 0 then (0 : Int) else 1).sum := by
  rw [openDoors, length_filter_eq_sum, ← List.map_coe_finRange_eq_range, List.map_map]
  congr 1
  refine List.map_congr_left fun d _ => ?_
  simp only [Function.comp, Bool.and_eq_true, byteAt]
  split_ifs <;> simp_all

theorem modeValue_eq (payload : List Byte) (mode : Word)
    (hmode : mode = (0 : BitVec 14) ++ (payload.getD 0 0xFF).extractLsb' 0 2) (h : mode ≠ 3) :
    modeValue payload = (mode.toNat : Int) := by
  have hnat : mode.toNat = (payload.getD 0 0xFF).toNat % 4 := by
    subst hmode
    generalize payload.getD 0 0xFF = b
    have h0 : (0 : BitVec 14).toNat = 0 := rfl
    rw [BitVec.toNat_append, BitVec.extractLsb'_toNat, h0, Nat.zero_shiftLeft, Nat.zero_or, Nat.shiftRight_zero]
  have hlt : mode.toNat < 3 := by
    have hne : mode.toNat ≠ 3 := toNat_ne_of_ne h (by decide)
    omega
  rw [modeValue, byteAt, ← hnat, if_pos hlt]

theorem activeValue_eq (payload : List Byte) (n : Fin 128) :
    activeValue payload n.val =
      if ∃ k : Fin 4, payload.getD (100 + k.val) 0xFF = BitVec.ofNat 8 n.val then 1 else 0 := by
  have hbyte : ∀ b : Byte, ((b.toNat : Int) = (n.val : Int)) ↔ b = BitVec.ofNat 8 n.val := fun b => by
    rw [Int.ofNat_inj]
    have hn : (BitVec.ofNat 8 n.val).toNat = n.val := by
      rw [BitVec.toNat_ofNat]
      exact Nat.mod_eq_of_lt (by omega)
    exact ⟨fun h => BitVec.eq_of_toNat_eq (h.trans hn.symm), fun h => (congrArg BitVec.toNat h).trans hn⟩
  have hany : ((List.range 4).any fun k => decide (((byteAt payload (100 + k)).toNat : Int) = (n.val : Int))) = true ↔
      ∃ k : Fin 4, payload.getD (100 + k.val) 0xFF = BitVec.ofNat 8 n.val := by
    rw [List.any_eq_true]
    simp only [List.mem_range, decide_eq_true_eq, byteAt, hbyte]
    exact ⟨fun ⟨k, hk, h⟩ => ⟨⟨k, hk⟩, h⟩, fun ⟨k, h⟩ => ⟨k.val, k.isLt, h⟩⟩
  unfold activeValue
  simp only [hany]

/-- Settles O31: each test value by its own lemma. -/
theorem reportsYieldTestValues : Obligations.ReportsYieldTestValues := by
  intro payload _
  refine ⟨fun c v levels hlevels hstated hv => ?_, fun f state direction hstate hdirection hd => ?_,
    fun index => openDoors_eq payload, fun index mode hmode h => modeValue_eq payload mode hmode h, fun n => ?_⟩
  · have hvalue : v = ((levels.foldl max 0 : Nat) : Int) := by
      rw [hv, ← classLevel_eq payload c levels hlevels hstated]
      rfl
    subst hvalue
    obtain ⟨-, hall⟩ := le_foldl_max levels 0
    refine ⟨fun h => by rw [h]; rfl, fun l hl => Int.ofNat_le.2 (hall l hl), fun h => ?_⟩
    rcases foldl_max_mem levels 0 with hzero | hmem
    · obtain ⟨l, hl⟩ := List.exists_mem_of_ne_nil levels h
      have hle := hall l hl
      exact ⟨l, hl, by omega⟩
    · exact ⟨_, hmem, rfl⟩
  · rw [hdirection] at hd
    rw [hstate, hdirection]
    exact fanStateValue_eq payload f.val hd
  · have hvalue : testValue payload .activeResponse n.val = _ := activeValue_eq payload n
    rw [hvalue]
    split_ifs with h
    · exact ⟨.inl rfl, fun _ => h, fun _ => rfl⟩
    · exact ⟨.inr rfl, fun hx => absurd hx (by decide), fun hx => absurd hx h⟩

end Sys2Proof.Machine
end

section
/-! The fetch condition, dispatch and cancel requests, by their cases (R140 to R143, R150, R151). -/

namespace Sys2Proof.Machine

/-! ### The Active Table -/

theorem any_toList {α : Type} {n : Nat} (v : Vector α n) (p : α → Bool) :
    v.toList.any p = true ↔ ∃ i : Fin n, p v[i] = true := by
  rw [List.any_eq_true]
  constructor
  · rintro ⟨x, hx, hp⟩
    obtain ⟨i, hi, rfl⟩ := Vector.mem_iff_getElem.1 (Vector.mem_toList_iff.1 hx)
    exact ⟨⟨i, hi⟩, hp⟩
  · rintro ⟨i, hp⟩
    exact ⟨v[i], Vector.mem_toList_iff.2 (Vector.getElem_mem i.isLt), hp⟩

/-- A response of a precedence may go: a slot is free or holds a lower precedence (R143). -/
theorem hasRoom_iff (e : EngineState) (p : Nat) :
    (e.hasFree || e.outranksLowest p) = true ↔ ∃ k : Fin 4, ∀ r, e.active[k] = some r → r.precedence < p := by
  rw [Bool.or_eq_true, EngineState.hasFree, EngineState.outranksLowest, any_toList, any_toList, ← exists_or]
  refine exists_congr fun k => ?_
  cases e.active[k] <;> simp

theorem hasRoom_eq_false (e : EngineState) (p : Nat)
    (h : ∀ k : Fin 4, ∃ r, e.active[k] = some r ∧ p ≤ r.precedence) : ¬(e.hasFree || e.outranksLowest p) = true := by
  rw [hasRoom_iff]
  rintro ⟨k, hk⟩
  obtain ⟨r, hr, hp⟩ := h k
  have := hk r hr
  omega

/-! ### The fetch condition -/

theorem requestSlot_eq (s : State) (n : Fin 128) :
    s.requestSlot n =
      s.setStore
        (if s.store.service = .idle then
          { s.store with
            service :=
              if s.store.mode = .ready ∨ s.store.mode = .eraseSet ∨ s.store.mode = .programSet then
                .reading n false (s.store.page (responsePage n))
              else .waiting n false }
        else { s.store with behind := s.store.behind ++ [{ number := n, dropped := false }] }) := by
  unfold State.requestSlot State.serve
  cases hv : s.store.service with
  | idle => cases hm : s.store.mode <;> simp [State.beginRead]
  | waiting n' dropped => rfl
  | reading n' dropped page => rfl

/-- The head of the queue made the fetch in flight. -/
def EngineState.fetching (e : EngineState) (h : Queued) (rest : List Queued) : EngineState :=
  { e with
    queue := rest
    fetch := some { number := h.number, precedence := h.precedence, cancelled := false, disturbed := false } }

variable {s : State}

theorem examineFetch_of_fetch (h : s.engine.fetch.isSome = true) : s.examineFetch = s := by
  unfold State.examineFetch
  split
  next hf _ => simp [hf] at h
  next => rfl

theorem examineFetch_of_empty (h : s.engine.queue = []) : s.examineFetch = s := by
  unfold State.examineFetch
  split
  next hq => simp [hq] at h
  next => rfl

theorem examineFetch_of_head {h : Queued} {rest : List Queued} (hf : s.engine.fetch = none)
    (hq : s.engine.queue = h :: rest) :
    s.examineFetch =
      if (s.engine.hasFree || s.engine.outranksLowest h.precedence) = true then
        (s.setEngine (s.engine.fetching h rest)).requestSlot h.number
      else s := by
  unfold State.examineFetch
  rw [hf, hq]
  rfl

theorem engine_requestSlot (s : State) (n : Fin 128) : (s.requestSlot n).engine = s.engine := by
  rw [requestSlot_eq]
  rfl

/-- The fetch condition is examined to its end. -/
theorem examineFetch_examineFetch (s : State) : s.examineFetch.examineFetch = s.examineFetch := by
  cases hf : s.engine.fetch with
  | some f =>
    have hstay : s.examineFetch = s := examineFetch_of_fetch (by simp [hf])
    rw [hstay, hstay]
  | none =>
    cases hq : s.engine.queue with
    | nil =>
      have hstay : s.examineFetch = s := examineFetch_of_empty hq
      rw [hstay, hstay]
    | cons h rest =>
      by_cases hr : (s.engine.hasFree || s.engine.outranksLowest h.precedence) = true
      · refine examineFetch_of_fetch ?_
        rw [examineFetch_of_head hf hq, if_pos hr, engine_requestSlot]
        rfl
      · have hstay : s.examineFetch = s := by rw [examineFetch_of_head hf hq, if_neg hr]
        rw [hstay, hstay]

/-- Examining the fetch condition leaves something queued or in fetch where something was queued. -/
theorem examineFetch_busy (h : s.engine.queue ≠ []) :
    s.examineFetch.engine.queue ≠ [] ∨ s.examineFetch.engine.fetch ≠ none := by
  cases hf : s.engine.fetch with
  | some f =>
    rw [examineFetch_of_fetch (by simp [hf])]
    exact .inl h
  | none =>
    cases hq : s.engine.queue with
    | nil => exact absurd hq h
    | cons head rest =>
      rw [examineFetch_of_head hf hq]
      split_ifs
      · right
        rw [engine_requestSlot]
        exact Option.some_ne_none _
      · exact .inl h

/-! ### Dispatch -/

theorem enqueue_eq (q : Queued) (l : List Queued) :
    enqueue q l =
      l.takeWhile (fun a => decide (q.precedence ≤ a.precedence)) ++
        q :: l.dropWhile (fun a => decide (q.precedence ≤ a.precedence)) := by
  induction l with
  | nil => rfl
  | cons h rest ih =>
    rw [enqueue]
    by_cases hp : h.precedence < q.precedence
    · have hd : decide (q.precedence ≤ h.precedence) = false := decide_eq_false (by omega)
      rw [if_pos hp, List.takeWhile_cons, List.dropWhile_cons, hd]
      rfl
    · have hd : decide (q.precedence ≤ h.precedence) = true := decide_eq_true (by omega)
      rw [if_neg hp, List.takeWhile_cons, List.dropWhile_cons, hd, ih]
      rfl

theorem absorb_eq (e : EngineState) (n : Fin 128) :
    e.absorb n =
      { e with fetch := e.fetch.map fun f => if f.number = n then { f with cancelled := false } else f } := by
  have hself : ∀ x, e.fetch = x → { e with fetch := x } = e := fun x hx => by rw [← hx]
  unfold EngineState.absorb
  split
  next f hf =>
    rw [hf, Option.map_some]
    split_ifs
    · rfl
    · exact (hself _ hf).symm
  next hf =>
    rw [hf, Option.map_none]
    exact (hself _ hf).symm

variable {n : Fin 128} {info : IndexInfo}

theorem dispatch_of_absent (h : s.engine.index[n] = none) : s.dispatch n = (s.latch .responseAbsent, .absent) := by
  unfold State.dispatch
  rw [h]

theorem dispatch_of_standing (h : s.engine.index[n] = some info) (hn : n ∈ s.engine.numbers) :
    s.dispatch n = (s.setEngine (s.engine.absorb n), .done) := by
  unfold State.dispatch
  rw [h]
  exact if_pos ((s.engine.mem_numbers n).1 hn)

/-- The queue with a newcomer of a precedence in its place. -/
def State.queued (s : State) (n : Fin 128) (precedence : Nat) (q : List Queued) : State :=
  s.setEngine { s.engine with queue := enqueue { number := n, precedence := precedence } q }

theorem dispatch_of_new (h : s.engine.index[n] = some info) (hn : n ∉ s.engine.numbers) (hroom : s.engine.queue.length < 4) :
    s.dispatch n = ((s.queued n info.precedence s.engine.queue).examineFetch, .done) := by
  unfold State.dispatch
  rw [h]
  exact (if_neg fun hx => hn ((s.engine.mem_numbers n).2 hx)).trans (if_pos hroom)

theorem dispatch_of_full (h : s.engine.index[n] = some info) (hn : n ∉ s.engine.numbers) (hfull : 4 ≤ s.engine.queue.length)
    {last : Queued} (hlast : s.engine.queue.getLast? = some last) :
    s.dispatch n =
      if last.precedence < info.precedence then
        (((s.queued n info.precedence s.engine.queue.dropLast).latch .queueOverflow).examineFetch, .done)
      else (s.latch .queueOverflow, .queueFull) := by
  unfold State.dispatch
  rw [h]
  dsimp only
  rw [if_neg fun hx => hn ((s.engine.mem_numbers n).2 hx), if_neg (Nat.not_lt.2 hfull), hlast]
  rfl

theorem atRest_dispatch (n : Fin 128) (h : s.atRest) : (s.dispatch n).1.atRest := by
  unfold State.dispatch
  split
  · exact atRest_latch _ h
  · dsimp only
    split
    · exact atRest_setEngine _ h
    · split
      · exact atRest_examineFetch (atRest_setEngine _ h)
      · split
        · split
          · exact atRest_examineFetch (atRest_latch _ (atRest_setEngine _ h))
          · exact atRest_latch _ h
        · exact atRest_latch _ h

theorem indexOf_of_le {m : Nat} {v : Int} (h : (m : Int) ≤ v) : indexOf m v = none := dif_neg (by omega)

/-! ### Keys -/

theorem matchesKey_iff (e : TriggerEntry) (mode : NodeMode) (k : Key) :
    e.matchesKey mode k = true ↔
      e.enabled = true ∧ e.kind = k.kind ∧ (e.selector = .index → e.selectorValue = (k.index : Int)) ∧
        (e.selector = .cls → ∃ c : SensorClass, k.cls = some c ∧ e.selectorValue = (c.code : Int)) ∧
        (k.kind = .levelUp → e.levelOperand ≤ k.level) ∧ (k.kind = .levelDown → k.level ≤ e.levelOperand) ∧
        e.modeFilter.getLsbD mode.code = true := by
  unfold TriggerEntry.matchesKey
  simp only [Bool.and_eq_true, decide_eq_true_eq, and_assoc]
  refine and_congr_right fun _ => and_congr_right fun _ => ?_
  rw [← and_assoc (a := e.selector = .index → _), ← and_assoc (a := k.kind = .levelUp → _)]
  refine and_congr ?_ (and_congr_left' ?_)
  · cases e.selector with
    | any => simp
    | index => simp
    | cls => cases k.cls <;> simp
  · cases k.kind <;> simp

theorem triggerTable_triggerRequest (e : TriggerEntry) (s : State) :
    (s.triggerRequest e).triggerTable = s.triggerTable := by
  unfold State.triggerRequest
  split
  · exact (dispatch_moves (C := True) _ s).triggerTable
  · exact (cancel_moves (C := True) _ s).triggerTable

theorem foldl_filter_eq {α σ : Type} (p : α → Bool) (g : σ → α → σ) (l : List α) (x : σ) :
    (l.filter p).foldl g x = l.foldl (fun x a => if p a = true then g x a else x) x := by
  rw [List.foldl_filter]

/-- A key taken is the requests of its matching entries, in entry order (R137). -/
theorem takeKey_eq (s : State) (k : Key) :
    s.takeKey k =
      ((List.finRange 64).filter fun i => (s.triggerTable[i]).matchesKey s.engine.mode k).foldl
        (fun u i => u.triggerRequest s.triggerTable[i]) s := by
  rw [foldl_filter_eq]
  have hrun : ∀ (l : List (Fin 64)) (u : State), u.triggerTable = s.triggerTable →
      l.foldl (fun u i =>
          let e := u.triggerTable[i]
          if e.matchesKey s.engine.mode k then u.triggerRequest e else u) u =
        l.foldl (fun u i =>
          if (s.triggerTable[i]).matchesKey s.engine.mode k = true then u.triggerRequest s.triggerTable[i] else u) u := by
    intro l
    induction l with
    | nil => exact fun _ _ => rfl
    | cons i l ih =>
      intro u hu
      rw [List.foldl_cons, List.foldl_cons]
      dsimp only
      rw [hu]
      refine ih _ ?_
      split_ifs
      · rw [triggerTable_triggerRequest, hu]
      · exact hu
  unfold State.takeKey forEach
  dsimp only
  generalize List.finRange 64 = l
  exact hrun l s rfl

/-- Settles O41: the keys taken at the end of an event, and each key by the requests of its entries. -/
theorem triggerKeyRunsItsMatchingEntriesInOrder : Obligations.TriggerKeyRunsItsMatchingEntriesInOrder := by
  refine ⟨fun s => ?_, fun s k matching hmatching => ?_⟩
  · exact followPins_eq s.takeKeys
  · have hmatches : matching = fun i => (s.triggerTable[i]).matchesKey s.engine.mode k := by
      funext i
      rw [Bool.eq_iff_iff, hmatching, matchesKey_iff]
      cases s.engine.mode <;> rfl
    rw [takeKey_eq, hmatches]
    congr 1
    funext u i
    unfold State.triggerRequest
    cases (s.triggerTable[i]).action <;> rfl

/-- Settles O36: the fetch condition, a dispatch request, and its order, case by case. -/
theorem responseRunQueuesAndFetches : Obligations.ResponseRunQueuesAndFetches := by
  refine ⟨fun s h rest fetching => ⟨fun hidle => ?_, fun hf hq hfetching => ⟨fun hnone => ?_, fun hroom => ?_⟩⟩,
    fun n s => ⟨dispatch_of_absent, fun info hinfo => ⟨fun hn => ?_, fun hn placed hplaced => ⟨fun hroom => ?_,
      fun last hfull hlast => ⟨fun hlow => ?_, fun hhigh => ?_⟩⟩⟩⟩, fun req number s hs hload => ⟨fun hout => ?_,
      fun n hn => ?_⟩⟩
  · exact hidle.elim examineFetch_of_fetch examineFetch_of_empty
  · rw [examineFetch_of_head hf hq, if_neg (hasRoom_eq_false _ _ hnone)]
  · rw [examineFetch_of_head hf hq, if_pos ((hasRoom_iff _ _).2 hroom), requestSlot_eq, hfetching]
    rfl
  · rw [dispatch_of_standing hinfo hn, absorb_eq]
    rfl
  · rw [dispatch_of_new hinfo hn hroom, hplaced, ← enqueue_eq { number := n, precedence := info.precedence }]
    rfl
  · rw [dispatch_of_full hinfo hn hfull hlast, if_pos hlow, hplaced,
      ← enqueue_eq { number := n, precedence := info.precedence }]
    rfl
  · rw [dispatch_of_full hinfo hn hfull hlast, if_neg (by omega)]
  · have hrun : s.responseRun number = (s, .unknownTarget) := by
      rw [State.responseRun, indexOf_of_le (by omega)]
    exact congrArg Host.Outcome.next (order_of_idle hs hload hrun)
  · have hrun : s.responseRun number = ((s.dispatch n).1, (s.dispatch n).2.answer) := by
      rw [State.responseRun, hn, indexOf_val]
    refine congrArg Host.Outcome.next ?_
    show s.order req 12 (State.responseRun number) = _
    rw [order_of_running hload, hrun, settle_of_atRest (atRest_dispatch n hs)]
    rfl

end Sys2Proof.Machine
end

section
/-! The endings of responses: what withdrawing a slot's demands does, cancel requests, and the expiry of a hold timer
(R148 to R151, R70, R88). -/

namespace Sys2Proof.Machine

/-! ### Rows changed in the surroundings of one state -/

/-- A change of each row by its own old value, in the surroundings of one state, each offering its keys. -/
theorem Rows.foldl_eq_on {α : Type} {n : Nat} (R : Rows α n) (s : State) {body : Fin n → State → State}
    {m : Fin n → α → α} {k : Fin n → α → List Key}
    (hbody : ∀ i v ks, body i (R.put s v ks) = R.put s (v.set i (m i v[i])) (ks ++ k i v[i]))
    (l : List (Fin n)) (hl : l.Nodup) :
    l.foldl (fun s i => body i s) s =
      R.put s (tabulate fun i => if i ∈ l then m i (R.get s)[i] else (R.get s)[i])
        (s.keys ++ l.flatMap fun i => k i (R.get s)[i]) := by
  rw [← R.foldl_eq (body := fun (i : Fin n) s => R.put s ((R.get s).set i (m i (R.get s)[i])) (s.keys ++ k i (R.get s)[i]))
    (fun _ _ => rfl) l hl s]
  have hrun : ∀ (l : List (Fin n)) (v : Vector α n) (ks : List Key),
      l.foldl (fun s i => body i s) (R.put s v ks) =
        l.foldl (fun s (i : Fin n) => R.put s ((R.get s).set i (m i (R.get s)[i])) (s.keys ++ k i (R.get s)[i])) (R.put s v ks) := by
    intro l
    induction l with
    | nil => exact fun _ _ => rfl
    | cons i l ih =>
      intro v ks
      rw [List.foldl_cons, List.foldl_cons, hbody, R.put_put, R.get_put, R.keys_put]
      exact ih _ _
  have hrun := hrun l (R.get s) s.keys
  rwa [R.put_get] at hrun

theorem Rows.forEach_eq_on {α : Type} {n : Nat} (R : Rows α n) (s : State) {body : Fin n → State → State}
    {m : Fin n → α → α} {k : Fin n → α → List Key}
    (hbody : ∀ i v ks, body i (R.put s v ks) = R.put s (v.set i (m i v[i])) (ks ++ k i v[i])) :
    forEach body s =
      R.put s (tabulate fun i => m i (R.get s)[i]) (s.keys ++ (List.finRange n).flatMap fun i => k i (R.get s)[i]) := by
  unfold forEach
  rw [R.foldl_eq_on s hbody _ (List.nodup_finRange n)]
  simp only [List.mem_finRange, if_true]

/-- The fans of the machine. -/
def driveRows : Rows Fan 6 where
  get := State.fans
  put s v ks := { s with fans := v, keys := ks }

/-- The doors of the machine. -/
def leafRows : Rows Door 6 where
  get := State.doors
  put s v ks := { s with doors := v, keys := ks }

/-! ### Withdrawing -/

/-- A fan whose target is formed anew and handed to its drive (R50, R68), in a state's surroundings. -/
def State.resolved (s : State) (f : Fin 6) (x : Fan) : Fan :=
  ({ x with target := x.resolved (s.fanEntry f) } : Fan).act (s.fanEntry f) (s.fanConfirmed f)

theorem resolveFan_eq (f : Fin 6) (s : State) : s.resolveFan f = s.setFan f (s.resolved f (s.fan f)) := rfl

/-- A fan whose response slot k is made absent and which is resolved for it (R70). -/
def State.withdrawnFan (s : State) (k : Fin 4) (f : Fin 6) (x : Fan) : Fan :=
  if x.responseSlots[k] = none then x else s.resolved f { x with responseSlots := x.responseSlots.set k none }

theorem setFan_setFan (s : State) (f : Fin 6) (x y : Fan) : (s.setFan f x).setFan f y = s.setFan f y := by
  simp [State.setFan]

theorem withdrawFan_eq (k : Fin 4) (f : Fin 6) (s : State) :
    s.withdrawFan k f = s.setFan f (s.withdrawnFan k f (s.fan f)) := by
  unfold State.withdrawFan State.withdrawnFan
  cases hd : (s.fan f).responseSlots[k] with
  | none => rw [if_neg (by simp), if_pos rfl, setFan_fan]
  | some d =>
    rw [if_neg (Option.some_ne_none d)]
    refine (if_pos rfl).trans ?_
    rw [resolveFan_eq, setFan_setFan, fan_setFan_same]
    rfl

theorem restartDwell_released (e : DoorEntry) (k : Fin 4) (x : Door) (h : x.responseHolds[k] = true) :
    Door.afterWithdrawal e { x with responseHolds := x.responseHolds.set k false } = Door.released e k x := by
  have hheld : ({ x with responseHolds := x.responseHolds.set k false } : Door).held = false ↔
      x.lineHold = false ∧ ∀ j : Fin 4, j ≠ k → x.responseHolds[j] = false := by
    rw [Door.held_eq_false_iff, Door.isHeld, not_or, Bool.not_eq_true, not_exists]
    refine and_congr_right fun _ => ⟨fun hj j hne => ?_, fun hj j => ?_⟩
    · have := hj j
      rwa [Bool.not_eq_true, Fin.getElem_fin, Vector.getElem_set_ne _ _ fun e => hne (Fin.ext e.symm)] at this
    · by_cases hne : j = k
      · subst hne
        simp
      · rw [Bool.not_eq_true, Fin.getElem_fin, Vector.getElem_set_ne _ _ fun e => hne (Fin.ext e.symm)]
        exact hj j hne
  have hcase : ({ x with responseHolds := x.responseHolds.set k false } : Door).mode = .opened ∧
      ({ x with responseHolds := x.responseHolds.set k false } : Door).held = false ↔
      x.mode = .opened ∧ x.lineHold = false ∧ ∀ j : Fin 4, j ≠ k → x.responseHolds[j] = false :=
    and_congr_right fun _ => hheld
  unfold Door.afterWithdrawal
  by_cases hc : x.mode = .opened ∧ x.lineHold = false ∧ ∀ j : Fin 4, j ≠ k → x.responseHolds[j] = false
  · rw [if_pos (hcase.2 hc), Door.released, if_neg (by simp [h]), if_pos hc]
    rfl
  · rw [if_neg fun hx => hc (hcase.1 hx), Door.released, if_neg (by simp [h]), if_neg hc]

theorem withdrawHold_eq (d : Fin 6) (k : Fin 4) (s : State) :
    s.withdrawHold d k = s.setDoor d (Door.released (s.doorEntry d) k (s.door d)) := by
  unfold State.withdrawHold
  dsimp only
  by_cases h : (s.door d).responseHolds[k] = true
  · rw [if_pos h, restartDwell_released _ _ _ h]
  · have hstay : Door.released (s.doorEntry d) k (s.door d) = s.door d := if_pos (Bool.eq_false_iff.2 h)
    rw [if_neg h, hstay, setDoor_self]

theorem forEach_withdrawFan (k : Fin 4) (s : State) :
    forEach (State.withdrawFan k) s = { s with fans := tabulate fun f => s.withdrawnFan k f s.fans[f] } := by
  rw [driveRows.forEach_eq_on s (m := fun f x => s.withdrawnFan k f x) (k := fun _ _ => [])
    (fun f v ks => by rw [withdrawFan_eq, List.append_nil]; rfl), flatMap_const_nil, List.append_nil]
  rfl

theorem forEach_withdrawHold (k : Fin 4) (s : State) :
    forEach (fun d s => s.withdrawHold d k) s =
      { s with doors := tabulate fun d => Door.released (s.doorEntry d) k s.doors[d] } := by
  rw [leafRows.forEach_eq_on s (m := fun d x => Door.released (s.doorEntry d) k x) (k := fun _ _ => [])
    (fun d v ks => by rw [withdrawHold_eq, List.append_nil]; rfl), flatMap_const_nil, List.append_nil]
  rfl

/-- What withdrawing an Active Table slot's demands does (R70, R88). -/
theorem withdrawSlot_spec (k : Fin 4) (s : State) :
    s.withdrawSlot k =
      { s with
        fans := tabulate fun f => s.withdrawnFan k f s.fans[f]
        doors := tabulate fun d => Door.released (s.doorEntry d) k s.doors[d] } := by
  rw [withdrawSlot_eq, forEach_withdrawFan, forEach_withdrawHold]
  rfl

theorem withdrawSlot_engine (k : Fin 4) (s : State) : (s.withdrawSlot k).engine = s.engine := by
  rw [withdrawSlot_spec]

theorem freeSlot_withdrawSlot (k : Fin 4) (s : State) :
    (s.withdrawSlot k).freeSlot k =
      { s.withdrawSlot k with engine := { s.engine with active := s.engine.active.set k none } } := by
  rw [State.freeSlot, withdrawSlot_engine]
  rfl

/-! ### Where a number stands -/

theorem activeNumbers_eq (a : Vector (Option ActiveResponse) 4) :
    EngineState.activeNumbers a = (List.finRange 4).filterMap fun k => (a[k]).map ActiveResponse.number := by
  have hlist : a.toList = (List.finRange 4).map fun k => a[k] := by
    refine List.ext_getElem (by simp) fun i h1 h2 => ?_
    simp
  rw [EngineState.activeNumbers, hlist, List.filterMap_map]
  rfl

/-- No two slots of an orderly engine hold one number. -/
theorem slot_unique {e : EngineState} (h : e.orderly) {j k : Fin 4} {a b : ActiveResponse}
    (ha : e.active[j] = some a) (hb : e.active[k] = some b) (hn : a.number = b.number) : j = k := by
  obtain ⟨-, -, hnodup⟩ := h
  rw [EngineState.numbers_eq] at hnodup
  have hactive := hnodup.of_append_right
  rw [activeNumbers_eq, List.Nodup, List.pairwise_filterMap, List.pairwise_iff_getElem] at hactive
  have hapart : ∀ x y : Fin 4, x < y → (e.active[x]).map ActiveResponse.number = some a.number →
      (e.active[y]).map ActiveResponse.number = some b.number → False := fun x y hxy hx hy => by
    refine hactive x y (by simp) (by simp) hxy a.number ?_ b.number ?_ hn
    · simpa using hx
    · simpa using hy
  have hmap : ∀ {k : Fin 4} {r : ActiveResponse}, e.active[k] = some r →
      (e.active[k]).map ActiveResponse.number = some r.number := fun h => by rw [h]; rfl
  rcases lt_trichotomy j k with hlt | heq | hgt
  · exact (hapart j k hlt (hmap ha) (hmap hb)).elim
  · exact heq
  · exact (hapart k j hgt (by rw [hn]; exact hmap hb) (by rw [← hn]; exact hmap ha)).elim

theorem slotOf_eq_some {e : EngineState} (h : e.orderly) {k : Fin 4} {r : ActiveResponse} (hk : e.active[k] = some r) :
    e.slotOf r.number = some k := by
  unfold EngineState.slotOf
  cases hfind : (List.finRange 4).find? fun k =>
      match e.active[k] with | some a => decide (a.number = r.number) | none => false with
  | none =>
    have := List.find?_eq_none.1 hfind k (List.mem_finRange k)
    simp [hk] at this
  | some j =>
    have hj := List.find?_some hfind
    cases ha : e.active[j] with
    | none => simp [ha] at hj
    | some a =>
      rw [ha] at hj
      rw [slot_unique h ha hk (of_decide_eq_true hj)]

theorem slotOf_eq_none {e : EngineState} {n : Fin 128} (h : e.isActive n = false) : e.slotOf n = none := by
  rw [EngineState.slotOf, List.find?_eq_none]
  intro k _ hk
  have hactive : e.isActive n = true := (any_toList _ _).2 ⟨k, hk⟩
  rw [h] at hactive
  exact absurd hactive (by decide)

theorem isQueued_iff (e : EngineState) (n : Fin 128) : e.isQueued n = true ↔ n ∈ e.queue.map Queued.number := by
  simp only [EngineState.isQueued, List.any_eq_true, decide_eq_true_eq, List.mem_map]

theorem isActive_iff (e : EngineState) (n : Fin 128) : e.isActive n = true ↔ n ∈ EngineState.activeNumbers e.active := by
  rw [EngineState.isActive, any_toList, activeNumbers_eq, List.mem_filterMap]
  refine exists_congr fun k => ?_
  cases e.active[k] <;> simp

theorem mem_activeNumbers {e : EngineState} {k : Fin 4} {r : ActiveResponse} (h : e.active[k] = some r) :
    r.number ∈ EngineState.activeNumbers e.active := by
  rw [activeNumbers_eq, List.mem_filterMap]
  exact ⟨k, List.mem_finRange k, by rw [h]; rfl⟩

theorem isQueued_eq_false {e : EngineState} {n : Fin 128} (h : n ∉ e.queue.map Queued.number) : e.isQueued n = false := by
  rw [← Bool.not_eq_true, isQueued_iff]
  exact h

theorem isActive_eq_false {e : EngineState} {n : Fin 128} (h : n ∉ EngineState.activeNumbers e.active) :
    e.isActive n = false := by
  rw [← Bool.not_eq_true, isActive_iff]
  exact h

/-- In an orderly engine a number in fetch is neither queued nor active. -/
theorem fetch_apart {e : EngineState} (h : e.orderly) {f : Fetch} (hf : e.fetch = some f) :
    f.number ∉ e.queue.map Queued.number ∧ f.number ∉ EngineState.activeNumbers e.active := by
  obtain ⟨-, -, hnodup⟩ := h
  rw [EngineState.numbers_eq, hf, List.append_assoc, List.nodup_append] at hnodup
  obtain ⟨-, hrest, hqueue⟩ := hnodup
  exact ⟨fun hq => hqueue _ hq f.number (by simp) rfl, (List.nodup_cons.1 hrest).1⟩

/-- In an orderly engine an active number is not queued. -/
theorem active_not_queued {e : EngineState} (h : e.orderly) {n : Fin 128} (hn : n ∈ EngineState.activeNumbers e.active) :
    n ∉ e.queue.map Queued.number := by
  obtain ⟨-, -, hnodup⟩ := h
  rw [EngineState.numbers_eq, List.append_assoc, List.nodup_append] at hnodup
  obtain ⟨-, -, hqueue⟩ := hnodup
  exact fun hq => hqueue _ hq n (List.mem_append_right _ hn) rfl

theorem enqueue_ne_nil (q : Queued) (l : List Queued) : enqueue q l ≠ [] := by
  rw [enqueue_eq]
  exact fun h => List.cons_ne_nil _ _ (List.append_eq_nil_iff.1 h).2

/-! ### ENGINE_IDLE -/

theorem isIdle_iff (e : EngineState) :
    (e.active.toList.all (fun a => a.isNone) && e.queue.isEmpty && e.fetch.isNone) = true ↔
      (∀ j : Fin 4, e.active[j] = none) ∧ e.queue = [] ∧ e.fetch = none := by
  have hall : e.active.toList.all (fun a => a.isNone) = true ↔ ∀ j : Fin 4, e.active[j] = none := by
    rw [← Bool.not_eq_false, List.all_eq_not_any_not, Bool.not_eq_false', any_toList, not_exists]
    exact forall_congr' fun j => by cases e.active[j] <;> simp
  rw [Bool.and_eq_true, Bool.and_eq_true, hall, List.isEmpty_iff, Option.isNone_iff_eq_none, and_assoc]

/-- What the end of a response comes to, once its slot is free: ENGINE_IDLE, or the fetch condition (R143, R151). -/
theorem checkIdle_examineFetch (u : State) :
    u.checkIdle.examineFetch =
      if (∀ j : Fin 4, u.engine.active[j] = none) ∧ u.engine.queue = [] ∧ u.engine.fetch = none then
        u.latch .engineIdle
      else u.examineFetch := by
  unfold State.checkIdle
  by_cases h : (∀ j : Fin 4, u.engine.active[j] = none) ∧ u.engine.queue = [] ∧ u.engine.fetch = none
  · rw [if_pos ((isIdle_iff u.engine).2 h), if_pos h]
    obtain ⟨-, hq, -⟩ := h
    exact examineFetch_of_empty (by rw [engine_latch, hq])
  · rw [if_neg fun hx => h ((isIdle_iff u.engine).1 hx), if_neg h]

/-- Nothing ends where something is queued: the fetch condition has been examined. -/
theorem checkIdle_of_examined {u : State} (h : u.engine.queue ≠ []) :
    u.examineFetch.checkIdle.examineFetch = u.examineFetch := by
  rw [checkIdle_examineFetch, examineFetch_examineFetch, if_neg]
  rintro ⟨-, hq, hf⟩
  rcases examineFetch_busy h with hx | hx
  · exact hx hq
  · exact hx hf

/-! ### Cancelling -/

theorem cancel_of_queued {s : State} {n : Fin 128} (h : n ∈ s.engine.queue.map Queued.number) :
    s.cancel n =
      (s.setEngine { s.engine with queue := s.engine.queue.filter fun q => decide (q.number ≠ n) }).examineFetch :=
  if_pos ((isQueued_iff _ _).2 h)

theorem cancel_of_active {s : State} (ho : s.engine.orderly) {k : Fin 4} {r : ActiveResponse}
    (hk : s.engine.active[k] = some r) :
    s.cancel r.number = ((s.withdrawSlot k).freeSlot k).checkIdle.examineFetch := by
  unfold State.cancel
  dsimp only
  rw [isQueued_eq_false (active_not_queued ho (mem_activeNumbers hk)), slotOf_eq_some ho hk, if_neg Bool.false_ne_true]

theorem cancel_of_nowhere {s : State} {n : Fin 128} (hq : n ∉ s.engine.queue.map Queued.number)
    (ha : n ∉ EngineState.activeNumbers s.engine.active) (hf : ∀ f, s.engine.fetch = some f → f.number ≠ n) :
    s.cancel n = s := by
  unfold State.cancel
  dsimp only
  rw [isQueued_eq_false hq, slotOf_eq_none (isActive_eq_false ha), if_neg Bool.false_ne_true]
  dsimp only
  split
  next f hfetch => exact if_neg (hf f hfetch)
  next => rfl

theorem cancel_of_fetch {s : State} {f : Fetch} (hf : s.engine.fetch = some f)
    (hq : f.number ∉ s.engine.queue.map Queued.number) (ha : f.number ∉ EngineState.activeNumbers s.engine.active) :
    s.cancel f.number = s.setEngine { s.engine with fetch := some { f with cancelled := true } } := by
  unfold State.cancel
  dsimp only
  rw [isQueued_eq_false hq, slotOf_eq_none (isActive_eq_false ha), if_neg Bool.false_ne_true, hf]
  exact if_pos rfl

/-- Settles O37: a cancel request at each place, and its order. -/
theorem responseCancelEndsItWhereItStands : Obligations.ResponseCancelEndsItWhereItStands := by
  refine ⟨fun n s ho => ⟨fun hn => ?_, fun hq => cancel_of_queued hq, fun f hf hn => ?_, fun k r freed hk hn hfreed => ?_⟩,
    fun req number s hs hload => ⟨fun hout => ?_, fun n hn => ?_⟩⟩
  · rw [EngineState.numbers_eq, List.mem_append, List.mem_append, not_or, not_or] at hn
    obtain ⟨⟨hq, hf⟩, ha⟩ := hn
    refine cancel_of_nowhere hq ha fun f hfetch he => hf ?_
    rw [hfetch, ← he]
    exact List.mem_singleton.2 rfl
  · subst hn
    obtain ⟨hq, ha⟩ := fetch_apart ho hf
    exact cancel_of_fetch hf hq ha
  · subst hn
    rw [cancel_of_active ho hk, freeSlot_withdrawSlot, ← hfreed, checkIdle_examineFetch]
    have hengine : freed.engine = { s.engine with active := s.engine.active.set k none } := by rw [hfreed]
    have hactive : (∀ j : Fin 4, freed.engine.active[j] = none) ↔ ∀ j : Fin 4, j ≠ k → s.engine.active[j] = none := by
      rw [hengine]
      refine ⟨fun h j hne => ?_, fun h j => ?_⟩
      · have := h j
        rwa [Fin.getElem_fin, Vector.getElem_set_ne _ _ fun e => hne (Fin.ext e.symm)] at this
      · by_cases hne : j = k
        · subst hne
          simp
        · rw [Fin.getElem_fin, Vector.getElem_set_ne _ _ fun e => hne (Fin.ext e.symm)]
          exact h j hne
    simp only [hactive]
    rw [hengine]
  · have hrun : s.responseCancel number = (s, .unknownTarget) := by
      rw [State.responseCancel, indexOf_of_le (by omega)]
    exact congrArg Host.Outcome.next (order_of_idle hs hload hrun)
  · have hrun : s.responseCancel number = (s.cancel n, .done) := by
      rw [State.responseCancel, hn, indexOf_val]
    exact congrArg Host.Outcome.next (order_of_keyless hload hrun ((keys_cancel n s).trans hs.1))

/-! ### Hold timers -/

theorem holdTimerExpiry_of_due {k : Fin 4} {s : State} {r : ActiveResponse} (hk : s.engine.active[k] = some r)
    (hr : r.hold = some 0) :
    holdTimerExpiryEffect k s =
      State.examineFetch
        (State.checkIdle
          (match r.successor with
          | some n => (((s.withdrawSlot k).freeSlot k).dispatch n).1
          | none => (s.withdrawSlot k).freeSlot k)) := by
  unfold holdTimerExpiryEffect
  rw [hk]
  exact if_pos hr

theorem holdTimerExpiry_of_early {k : Fin 4} {s : State} (h : ∀ r, s.engine.active[k] = some r → r.hold ≠ some 0) :
    holdTimerExpiryEffect k s = s := by
  unfold holdTimerExpiryEffect
  cases hk : s.engine.active[k] with
  | none => rfl
  | some r => exact if_neg (h r hk)

theorem keys_holdTimerExpiry (k : Fin 4) (s : State) : (holdTimerExpiryEffect k s).keys = s.keys := by
  have hfreed : ((s.withdrawSlot k).freeSlot k).keys = s.keys := by rw [keys_freeSlot, keys_withdrawSlot]
  unfold holdTimerExpiryEffect
  split
  · split
    · dsimp only
      rw [keys_examineFetch, keys_checkIdle]
      split
      · rw [keys_dispatch, hfreed]
      · exact hfreed
    · rfl
  · rfl

theorem exec_holdTimerExpiry {k : Fin 4} {s u : State} (hs : s.keys = []) (hu : holdTimerExpiryEffect k s = u) :
    exec (.holdTimerExpiry k) s = .next u.followed := by
  subst hu
  exact congrArg Host.Outcome.next (settle_of_noKeys ((keys_holdTimerExpiry k s).trans hs))

theorem fan_resolveFan (f : Fin 6) (s : State) : (s.resolveFan f).fans[f] = s.resolved f s.fans[f] := by
  rw [resolveFan_eq]
  exact fan_setFan_same s f _

/-- Settles O40: the end of a response whose hold timer ran out, by what becomes of its successor. -/
theorem holdTimerExpiryWithdrawsTheResponse : Obligations.HoldTimerExpiryWithdrawsTheResponse := by
  refine ⟨fun k s hs => ⟨fun hearly => ?_, fun r freed ended hk hr hfreed hended => ?_⟩, fun k s => ?_⟩
  · exact congrArg Host.Outcome.next ((congrArg State.settle (holdTimerExpiry_of_early hearly)).trans (settle_of_atRest hs))
  · have hended' : ∀ u : State, u.checkIdle.examineFetch = ended u := fun u => by rw [checkIdle_examineFetch, hended]
    have heffect := holdTimerExpiry_of_due hk hr
    rw [freeSlot_withdrawSlot, ← hfreed, hended'] at heffect
    refine ⟨fun hsucc => exec_holdTimerExpiry hs.1 (by rw [heffect, hsucc]), fun n hsucc => ⟨fun habsent => ?_,
      fun info hinfo => ⟨fun hn => ?_, fun hn placed hplaced => ⟨fun hroom => ?_,
        fun last hfull hlast => ⟨fun hlow => ?_, fun hhigh => ?_⟩⟩⟩⟩⟩
    · refine exec_holdTimerExpiry hs.1 ?_
      rw [heffect, hsucc]
      dsimp only
      rw [dispatch_of_absent habsent]
    · refine exec_holdTimerExpiry hs.1 ?_
      rw [heffect, hsucc]
      dsimp only
      rw [dispatch_of_standing hinfo hn, absorb_eq]
      rfl
    · refine exec_holdTimerExpiry hs.1 ?_
      have hqueued : placed freed.engine.queue = freed.queued n info.precedence freed.engine.queue := by
        rw [hplaced, ← enqueue_eq { number := n, precedence := info.precedence }]
        rfl
      rw [heffect, hsucc]
      dsimp only
      rw [dispatch_of_new hinfo hn hroom, ← hended', hqueued, checkIdle_of_examined]
      exact enqueue_ne_nil _ _
    · refine exec_holdTimerExpiry hs.1 ?_
      have hqueued : placed freed.engine.queue.dropLast = freed.queued n info.precedence freed.engine.queue.dropLast := by
        rw [hplaced, ← enqueue_eq { number := n, precedence := info.precedence }]
        rfl
      rw [heffect, hsucc]
      dsimp only
      rw [dispatch_of_full hinfo hn hfull hlast, if_pos hlow, ← hended', hqueued, checkIdle_of_examined]
      rw [engine_latch]
      exact enqueue_ne_nil _ _
    · refine exec_holdTimerExpiry hs.1 ?_
      rw [heffect, hsucc]
      dsimp only
      rw [dispatch_of_full hinfo hn hfull hlast, if_neg (by omega)]
  · rw [withdrawSlot_spec]
    have hfan : ∀ f : Fin 6, s.withdrawnFan k f s.fans[f] =
        if (s.fans[f]).responseSlots[k] = none then s.fans[f]
        else
          (({ s with
            fans :=
              s.fans.set f
                { s.fans[f] with responseSlots := (s.fans[f]).responseSlots.set k none } } : State).resolveFan f).fans[f] :=
      fun f => by
        rw [fan_resolveFan]
        show _ = if _ then _ else
          s.resolved f ((s.setFan f { s.fans[f] with responseSlots := (s.fans[f]).responseSlots.set k none }).fan f)
        rw [fan_setFan_same]
        rfl
    simp only [← hfan]
    rfl

end Sys2Proof.Machine
end

section
/-! A change of node mode, and the two INCIDENT orders (R154 to R156). -/

namespace Sys2Proof.Machine

theorem recomputeGallery_fans (s : State) : s.recomputeGallery = { s with fans := s.recomputeGallery.fans } :=
  forEach_rel (R := fun s t => t = { s with fans := t.fans }) (fun _ => rfl)
    (fun s t u ht hu => by rw [hu, ht])
    (fun f s => by
      show (if _ then _ else _) = _
      split_ifs
      · unfold State.recomputePressurisation
        split <;> rfl
      · rfl) s

/-- What a contact derivation makes of a door, in a state's surroundings (R95). -/
def State.derivation (s : State) (d : Fin 6) (x : Door) : DoorChange :=
  Door.derived s.doorTable[d] (s.assigned (.doorClosed d) && s.assigned (.doorOpen d)) (s.shows d) x

theorem derivation_congr {s t : State} (hd : t.doorTable = s.doorTable) (hpt : t.pointTable = s.pointTable)
    (hp : t.points = s.points) : t.derivation = s.derivation := by
  funext d x
  unfold State.derivation
  rw [hd, assigned_congr hpt, assigned_congr hpt, shows_congr hpt hp]

/-- Doors derived from their contacts one after another, those in a mode alone (R97, R156). -/
theorem forEach_derive (mode : DoorMode) (s : State) :
    forEach (fun d s => if (s.door d).mode = mode then s.deriveDoor d else s) s =
      (s.moveDoors
        (tabulate fun d =>
          if d ∈ (List.finRange 6).filter fun d => decide ((s.doors[d]).mode = mode) then (s.derivation d s.doors[d]).1
          else s.doors[d])
        (s.keys ++ ((List.finRange 6).filter fun d => decide ((s.doors[d]).mode = mode)).flatMap fun d =>
          (s.derivation d s.doors[d]).2.1.map (doorKey d))).latchAll
        (((List.finRange 6).filter fun d => decide ((s.doors[d]).mode = mode)).filterMap fun d =>
          (s.derivation d s.doors[d]).2.2) := by
  have hstep : ∀ (d : Fin 6) (u : State), u.doorTable = s.doorTable → u.pointTable = s.pointTable →
      u.points = s.points →
      (if (u.door d).mode = mode then u.deriveDoor d else u) =
        u.doorBecomes d (if decide ((u.door d).mode = mode) then s.derivation d (u.door d) else (u.door d, [], none)) :=
    fun d u hd hpt hp => by
      by_cases hm : (u.door d).mode = mode
      · rw [if_pos hm, if_pos (decide_eq_true hm), deriveDoor_eq, ← derivation_congr hd hpt hp]
        rfl
      · rw [if_neg hm, if_neg (by simp [hm]), doorBecomes_self]
  rw [← moveDoors_filter (fun x => decide (x.mode = mode)) s.derivation, ← foldl_doorBecomes
    (fun d x => if decide (x.mode = mode) then s.derivation d x else (x, [], none)) _ (List.nodup_finRange 6)]
  refine foldl_congr_of_remaining
    (P := fun _ u => u.doorTable = s.doorTable ∧ u.pointTable = s.pointTable ∧ u.points = s.points)
    (fun d _ u ⟨hd, hpt, hp⟩ => ⟨hstep d u hd hpt hp, ?_⟩) _ s ⟨rfl, rfl, rfl⟩
  obtain ⟨-, -, hd', hpt', hp'⟩ := doorBecomes_fields u d
    (if decide ((u.door d).mode = mode) then s.derivation d (u.door d) else (u.door d, [], none))
  exact ⟨hd'.trans hd, hpt'.trans hpt, hp'.trans hp⟩

/-- The keys of a state whose doors have moved, taken. -/
theorem takeKeys_moveDoors (s : State) (hs : s.keys = []) (x : Vector Door 6) (ks : List Key) (es : List EventKind) :
    ((s.moveDoors x ks).latchAll es).takeKeys = (({ s with doors := x } : State).latchAll es).takes ks := by
  have hdoors : s.moveDoors x [] = { s with doors := x } := congrArg (fun ks => s.moveDoors x ks) hs.symm
  calc ((s.moveDoors x ks).latchAll es).takeKeys
      = ((s.latchAll es).moveDoors x ks).takeKeys := congrArg State.takeKeys (moveDoors_latchAll x ks es s)
    _ = ((s.latchAll es).moveDoors x []).takes ks := takeKeys_eq _
    _ = ((s.moveDoors x []).latchAll es).takes ks :=
      congrArg (State.takes · ks) (moveDoors_latchAll x [] es s).symm
    _ = (({ s with doors := x } : State).latchAll es).takes ks :=
      congrArg (fun u : State => (u.latchAll es).takes ks) hdoors

theorem takeKeys_offer (s : State) (hs : s.keys = []) (k : Key) : (s.offer k).takeKeys = s.takeKey k := by
  have hkeyless : ({ s with keys := [] } : State) = s := by rw [← hs]
  show State.takes { s with keys := [] } (s.keys ++ [k]) = _
  rw [hkeyless, hs, List.nil_append, State.takes, List.foldl_cons, List.foldl_nil]

/-- Settles O38: the orders by their definition, and a change of mode by its five steps. -/
theorem incidentOrdersChangeTheMode : Obligations.IncidentOrdersChangeTheMode := by
  refine ⟨fun req s hs hload => ⟨?_, ?_⟩, fun s gallery served m back out hkeys hgallery hback hout hserved => ?_⟩
  · exact congrArg Host.Outcome.next (order_of_running hload req 10 State.incidentOn)
  · refine congrArg Host.Outcome.next ((order_of_running hload req 11 State.incidentClear).trans ?_)
    unfold State.incidentClear
    split_ifs <;> rfl
  · have hgallery' : (s.setEngine { s.engine with mode := m }).recomputeGallery = gallery := by
      rw [recomputeGallery_eq_filter, hgallery]
      rfl
    have hframe : gallery = { s.setEngine { s.engine with mode := m } with fans := gallery.fans } := by
      rw [← hgallery']
      exact recomputeGallery_fans _
    have hgkeys : gallery.keys = [] := (congrArg State.keys hframe :).trans hkeys
    have hgdoors : gallery.doors = s.doors := (congrArg State.doors hframe :)
    have hderivation : gallery.derivation = s.derivation :=
      derivation_congr (congrArg State.doorTable hframe :) (congrArg State.pointTable hframe :)
        (congrArg State.points hframe :)
    have hout' : ∀ d, out d = s.derivation d s.doors[d] := hout
    have hserved' : (if m = .incident then
          (forEach (fun d s => if (s.door d).mode = .outOfService then s.deriveDoor d else s) gallery).takeKeys
        else gallery) = served := by
      rw [hserved]
      simp only [hout']
      by_cases hm : m = .incident
      · have hback' : back = (List.finRange 6).filter fun d => decide ((s.doors[d]).mode = .outOfService) := by
          rw [hback]
          simp only [hm, true_and]
        have happend : ∀ ks, gallery.keys ++ ks = ks := fun ks => by rw [hgkeys, List.nil_append]
        rw [if_pos hm, forEach_derive, happend, hgdoors, hderivation, ← hback', takeKeys_moveDoors gallery hgkeys]
        rfl
      · have hback' : back = [] := by
          rw [hback]
          simp only [hm, false_and, decide_false, List.filter_false]
        have hdoors : (tabulate fun d : Fin 6 => s.doors[d]) = gallery.doors := by
          rw [hgdoors]
          ext1 i hi
          exact getElem_tabulate _ i hi
        rw [if_neg hm, hback']
        simp only [List.not_mem_nil, if_false, hdoors]
        rfl
    have hskeys : served.keys = [] := by
      rw [← hserved']
      split_ifs
      · exact keys_takeKeys _
      · exact hgkeys
    unfold State.changeMode
    dsimp only
    rw [hgallery', hserved', takeKeys_offer _ ((keys_latch _ _).trans hskeys)]
    cases m <;> rfl

end Sys2Proof.Machine
end

section
/-! The end of a slot read: what the engine makes of the slot it has read (R144 to R147). -/

namespace Sys2Proof.Machine

/-! ### The end of a read -/

theorem serve_store (s : State) (q : SlotRequest) : s.serve q = { s with store := (s.serve q).store } := by
  unfold State.serve
  split <;> rfl

theorem endRead_store (s : State) : s.endRead = { s with store := s.endRead.store } := by
  unfold State.endRead State.serviceIdle
  split
  · rfl
  · rw [serve_store]
    rfl

theorem atRest_endRead {s : State} (h : s.atRest) : s.endRead.atRest := by
  have he := endRead_store s
  exact atRest_of_same (s := s) (congrArg State.keys he :) (congrArg State.pointTable he :) (congrArg State.points he :)
    (congrArg State.fans he :) (congrArg State.doors he :) h

theorem fetchCompletion_of_idle {s : State} (h : ∀ n dropped page, s.store.service ≠ .reading n dropped page) :
    fetchCompletionEffect s = s := by
  unfold fetchCompletionEffect
  split
  next n dropped page hr => exact absurd hr (h n dropped page)
  next => rfl

theorem fetchCompletion_of_fetch {s : State} {n : Fin 128} {page : List Byte} {f : Fetch}
    (h : s.store.service = .reading n false page) (hf : s.engine.fetch = some f) :
    fetchCompletionEffect s = s.endRead.completeFetch f page := by
  unfold fetchCompletionEffect
  rw [h, hf]

theorem fetchCompletion_of_dropped {s : State} {n : Fin 128} {dropped : Bool} {page : List Byte}
    (h : s.store.service = .reading n dropped page) (hd : dropped = true ∨ s.engine.fetch = none) :
    fetchCompletionEffect s = s.endRead := by
  unfold fetchCompletionEffect
  rw [h]
  dsimp only
  rcases hd with rfl | hf
  · rfl
  · rw [hf]
    cases dropped <;> rfl

/-- The record a fetch finds in the page it has read (R138, R144). -/
def fetchedRecord (f : Fetch) (page : List Byte) : Option ResponseRecord :=
  if pageValid page = true then slotRecord ((page.drop (128 * (f.number.val % 4))).take 128) f.number else none

theorem completeFetch_of_none {s : State} {f : Fetch} {page : List Byte}
    (h : f.disturbed = true ∨ fetchedRecord f page = none) :
    s.completeFetch f page = ((s.setEngine { s.engine with fetch := none }).latch .responseAbsent).examineFetch := by
  show State.examineFetch
    (match f.disturbed, fetchedRecord f page with
    | false, some r => _
    | _, _ => (s.setEngine { s.engine with fetch := none }).latch .responseAbsent) = _
  rcases h with h | h
  · rw [h]
  · rw [h]
    cases f.disturbed <;> rfl

theorem completeFetch_of_record {s : State} {f : Fetch} {page : List Byte} {r : ResponseRecord}
    (hd : f.disturbed = false) (hr : fetchedRecord f page = some r) :
    s.completeFetch f page =
      (if f.cancelled = true then s.setEngine { s.engine with fetch := none }
      else if (s.engine.hasFree || s.engine.outranksLowest r.precedence) = true then
        (s.setEngine { s.engine with fetch := none }).activate f.number r
      else (s.setEngine { s.engine with fetch := none }).latch .responseAbsent).examineFetch := by
  show State.examineFetch
    (match f.disturbed, fetchedRecord f page with
    | false, some r =>
      if f.cancelled then s.setEngine { s.engine with fetch := none }
      else if s.engine.hasFree || s.engine.outranksLowest r.precedence then
        (s.setEngine { s.engine with fetch := none }).activate f.number r
      else (s.setEngine { s.engine with fetch := none }).latch .responseAbsent
    | _, _ => (s.setEngine { s.engine with fetch := none }).latch .responseAbsent) = _
  rw [hd, hr]

/-! ### The slot taken -/

variable {e : EngineState} {k : Fin 4}

theorem find?_finRange_eq_some {n : Nat} {p : Fin n → Bool} {k : Fin n} (hk : p k = true)
    (hbefore : ∀ j < k, p j = false) : (List.finRange n).find? p = some k := by
  cases hfind : (List.finRange n).find? p with
  | none =>
    have := List.find?_eq_none.1 hfind k (List.mem_finRange k)
    exact absurd hk this
  | some j =>
    have hj := List.find?_some hfind
    obtain ⟨i, hi, hij, hmin⟩ := List.find?_eq_some_iff_getElem.1 hfind |>.2
    have hij' : j.val = i := by rw [← hij]; simp
    rcases lt_trichotomy j k with hlt | heq | hgt
    · rw [hbefore j hlt] at hj
      exact absurd hj (by decide)
    · rw [heq]
    · have := hmin k.val (by have := Fin.lt_def.1 hgt; omega)
      simp [hk] at this

theorem freeSlot?_eq_some (hk : e.active[k] = none) (hbefore : ∀ j : Fin 4, j < k → (e.active[j]).isSome = true) :
    e.freeSlot? = some k :=
  find?_finRange_eq_some (by rw [hk]; rfl) fun j hj => by
    have := hbefore j hj
    cases h : e.active[j] <;> simp_all

theorem freeSlot?_eq_none (h : ∀ j : Fin 4, ∃ a, e.active[j] = some a) : e.freeSlot? = none := by
  rw [EngineState.freeSlot?, List.find?_eq_none]
  intro j _
  obtain ⟨a, ha⟩ := h j
  rw [ha]
  exact Bool.false_ne_true

/-- The victim of a preemption is the active response that all others outrank (R145). -/
theorem victim?_eq_some {v : ActiveResponse} (hk : e.active[k] = some v)
    (h : ∀ j : Fin 4, ∃ a, e.active[j] = some a ∧
      (j = k ∨ v.precedence < a.precedence ∨ (v.precedence = a.precedence ∧ a.sequence < v.sequence))) :
    e.victim? = some k := by
  refine find?_finRange_eq_some ?_ fun j hj => ?_
  · simp only [hk, List.all_eq_true]
    intro j _
    obtain ⟨a, ha, hout⟩ := h j
    rw [ha]
    dsimp only
    rw [Bool.not_eq_true', preemptedBefore, decide_eq_false_iff_not]
    rcases hout with rfl | hout
    · obtain rfl : v = a := Option.some.inj (hk.symm.trans ha)
      omega
    · omega
  · obtain ⟨a, ha, hout⟩ := h j
    replace hout := hout.resolve_left (Fin.ne_of_lt hj)
    simp only [ha]
    rw [← Bool.not_eq_true, List.all_eq_true]
    intro hall
    have := hall k (List.mem_finRange k)
    rw [hk] at this
    dsimp only at this
    rw [Bool.not_eq_true', preemptedBefore, decide_eq_false_iff_not] at this
    omega

theorem activate_of_free {s : State} (h : s.engine.freeSlot? = some k) (n : Fin 128) (r : ResponseRecord) :
    s.activate n r = s.activateIn k n r := by
  unfold State.activate
  rw [h]

theorem activate_of_victim {s : State} (h : s.engine.freeSlot? = none) (hv : s.engine.victim? = some k) (n : Fin 128)
    (r : ResponseRecord) : s.activate n r = ((s.freeSlot k).latch .responsePreempted).activateIn k n r := by
  unfold State.activate
  rw [h, hv]

/-! ### The fans and doors of an activation -/

/-- The demand a record gives a fan, action by action (R69). -/
theorem demandFor_eq (r : ResponseRecord) (x : FanEntry) (g : Fin 6) :
    r.demandFor x g =
      (r.actions.filterMap fun a =>
        match a with
        | .fanRun h dir speed rate =>
          if h = g then some { precedence := r.precedence, direction := dir, speed := speed, rate := rate : Demand } else none
        | .fanHoldStop h =>
          if h = g then
            some { precedence := r.precedence, direction := .fwd, speed := 0, rate := x.defaultRate : Demand }
          else none
        | _ => none).getLast? := by
  unfold ResponseRecord.demandFor
  congr 2
  funext a
  cases a <;> rfl

theorem captureFans_eq (k : Fin 4) (r : ResponseRecord) (sequence : Nat) (s : State) (demand : Fin 6 → Option Demand)
    (hdemand : ∀ g, demand g = if (s.fanTable[g]).present = true then r.demandFor s.fanTable[g] g else none) :
    s.captureFans k r sequence =
      (List.finRange 6).foldl
        (fun u g =>
          if demand g = none ∧ (u.fans[g]).responseSlots[k] = none then u
          else
            ({ u with
              fans :=
                u.fans.set g
                  { u.fans[g] with
                    responseSlots :=
                      (u.fans[g]).responseSlots.set k
                        ((demand g).map fun d => { demand := d, sequence := sequence }) } } : State).resolveFan g) s := by
  unfold State.captureFans forEach
  refine foldl_congr_of_remaining (P := fun _ u => u.fanTable = s.fanTable) (fun g _ u hu => ?_) _ s rfl
  have hnamed : (if (u.fanEntry g).present = true then r.demandFor (u.fanEntry g) g else none) = demand g := by
    rw [hdemand, ← hu]
    rfl
  dsimp only
  rw [hnamed]
  have htable : ∀ x, ((u.setFan g x).resolveFan g).fanTable = s.fanTable := fun x => by
    rw [resolveFan_eq]
    exact hu
  cases hd : demand g with
  | some d => exact ⟨(if_neg fun hx => Option.some_ne_none d hx.1).symm, htable _⟩
  | none =>
    by_cases hslot : (u.fans[g]).responseSlots[k] = none
    · have hsome : ¬((u.fan g).responseSlots[k]).isSome = true := by
        show ¬((u.fans[g]).responseSlots[k]).isSome = true
        rw [hslot]
        exact Bool.false_ne_true
      have hboth : (none : Option Demand) = none ∧ (u.fans[g]).responseSlots[k] = none := ⟨rfl, hslot⟩
      dsimp only
      rw [if_neg hsome, if_pos hboth]
      exact ⟨rfl, hu⟩
    · have hsome : ((u.fan g).responseSlots[k]).isSome = true := Option.isSome_iff_ne_none.2 hslot
      have hboth : ¬((none : Option Demand) = none ∧ (u.fans[g]).responseSlots[k] = none) := fun hx => hslot hx.2
      dsimp only
      rw [if_pos hsome, if_neg hboth]
      exact ⟨rfl, htable _⟩

theorem holds_iff_mem (r : ResponseRecord) (d : Fin 6) :
    r.holds d = true ↔ ∃ set : BitVec 6, .doorHold set ∈ r.actions ∧ set.getLsbD d.val = true := by
  rw [ResponseRecord.holds, List.any_eq_true]
  constructor
  · rintro ⟨a, ha, hd⟩
    split at hd
    next set => exact ⟨set, ha, hd⟩
    next => exact absurd hd (by decide)
  · rintro ⟨set, ha, hd⟩
    exact ⟨_, ha, hd⟩

theorem opens_iff_mem (r : ResponseRecord) (d : Fin 6) :
    r.opens d = true ↔ ∃ set : BitVec 6, .doorOpen set ∈ r.actions ∧ set.getLsbD d.val = true := by
  rw [ResponseRecord.opens, List.any_eq_true]
  constructor
  · rintro ⟨a, ha, hd⟩
    split at hd
    next set => exact ⟨set, ha, hd⟩
    next => exact absurd hd (by decide)
  · rintro ⟨set, ha, hd⟩
    exact ⟨_, ha, hd⟩

/-- What an activation into slot k makes of a door, and whether it enters OPEN with DOOR_OPENED (R87, R88, R145, R146). -/
def State.capturedDoor (s : State) (k : Fin 4) (r : ResponseRecord) (d : Fin 6) (x : Door) : Door × Bool :=
  if (s.doorTable[d]).present = true ∧ r.holds d = true then
    Door.asked s.doorTable[d] (s.shows d) { x with responseHolds := x.responseHolds.set k true }
  else if (s.doorTable[d]).present = true ∧ r.opens d = true then
    Door.asked s.doorTable[d] (s.shows d) (Door.released s.doorTable[d] k x)
  else (Door.released s.doorTable[d] k x, false)

theorem openRequest_setDoor (s : State) (d : Fin 6) (x : Door) :
    (s.setDoor d x).openRequest d =
      s.doorBecomes d
        ((Door.asked s.doorTable[d] (s.shows d) x).1,
          if (Door.asked s.doorTable[d] (s.shows d) x).2 then [.doorOpened] else [], none) := by
  rw [openRequest_eq, doorBecomes_setDoor, door_setDoor_same]
  rfl

/-- One door's part in an activation. -/
theorem captureDoor_eq (k : Fin 4) (r : ResponseRecord) (d : Fin 6) (s : State) :
    (if (s.doorEntry d).present && r.holds d then s.writeHold d k
      else if (s.doorEntry d).present && r.opens d then (s.withdrawHold d k).openRequest d else s.withdrawHold d k) =
      s.doorBecomes d
        ((s.capturedDoor k r d (s.door d)).1, if (s.capturedDoor k r d (s.door d)).2 then [.doorOpened] else [], none) := by
  have hholds : ((s.doorEntry d).present && r.holds d) = true ↔ (s.doorTable[d]).present = true ∧ r.holds d = true := by
    rw [Bool.and_eq_true]
    rfl
  have hopens : ((s.doorEntry d).present && r.opens d) = true ↔ (s.doorTable[d]).present = true ∧ r.opens d = true := by
    rw [Bool.and_eq_true]
    rfl
  unfold State.capturedDoor
  by_cases hh : (s.doorTable[d]).present = true ∧ r.holds d = true
  · rw [if_pos (hholds.2 hh), if_pos hh]
    exact openRequest_setDoor s d _
  · rw [if_neg fun hx => hh (hholds.1 hx), if_neg hh, withdrawHold_eq]
    by_cases ho : (s.doorTable[d]).present = true ∧ r.opens d = true
    · rw [if_pos (hopens.2 ho), if_pos ho]
      exact openRequest_setDoor s d _
    · rw [if_neg fun hx => ho (hopens.1 hx), if_neg ho]
      exact (doorBecomes_silent s d _).symm

theorem captureDoors_eq (k : Fin 4) (r : ResponseRecord) (s : State) :
    s.captureDoors k r =
      s.moveDoors (tabulate fun d => (s.capturedDoor k r d s.doors[d]).1)
        (s.keys ++ ((List.finRange 6).filter fun d => (s.capturedDoor k r d s.doors[d]).2).map fun d =>
          doorKey d .doorOpened) := by
  have hfold : s.captureDoors k r =
      (List.finRange 6).foldl
        (fun u d => u.doorBecomes d
          ((s.capturedDoor k r d (u.door d)).1, if (s.capturedDoor k r d (u.door d)).2 then [.doorOpened] else [], none)) s := by
    unfold State.captureDoors forEach
    refine foldl_congr_of_remaining
      (P := fun _ u => u.doorTable = s.doorTable ∧ u.pointTable = s.pointTable ∧ u.points = s.points)
      (fun d _ u ⟨hd, hpt, hp⟩ => ?_) _ s ⟨rfl, rfl, rfl⟩
    have hcaptured : ∀ x, u.capturedDoor k r d x = s.capturedDoor k r d x := fun x => by
      unfold State.capturedDoor
      rw [hd, shows_congr hpt hp]
    refine ⟨?_, ?_⟩
    · rw [← hcaptured]
      exact captureDoor_eq k r d u
    · obtain ⟨-, -, hd', hpt', hp'⟩ := doorBecomes_fields u d
        ((s.capturedDoor k r d (u.door d)).1, if (s.capturedDoor k r d (u.door d)).2 then [.doorOpened] else [], none)
      exact ⟨hd'.trans hd, hpt'.trans hpt, hp'.trans hp⟩
  rw [hfold, foldl_doorBecomes
    (fun d x => ((s.capturedDoor k r d x).1, if (s.capturedDoor k r d x).2 then [.doorOpened] else [], none)) _
    (List.nodup_finRange 6)]
  simp only [List.mem_finRange, if_true, doorKey_asked, flatMap_ite_eq, filterMap_none]
  rfl

end Sys2Proof.Machine
end

section
/-! The activation of a response step by step, and what it comes to (R144 to R147). -/

namespace Sys2Proof.Machine

/-! ### What the steps before the doors leave -/

/-- The doors, the keys, and what fans and doors read of the tables and the points, as they were. -/
structure State.SameDoors (s u : State) : Prop where
  keys : u.keys = s.keys
  doors : u.doors = s.doors
  fanTable : u.fanTable = s.fanTable
  doorTable : u.doorTable = s.doorTable
  pointTable : u.pointTable = s.pointTable
  points : u.points = s.points

theorem State.SameDoors.refl (s : State) : s.SameDoors s := ⟨rfl, rfl, rfl, rfl, rfl, rfl⟩

theorem State.SameDoors.trans {s t u : State} (h : s.SameDoors t) (h' : t.SameDoors u) : s.SameDoors u :=
  ⟨h'.keys.trans h.keys, h'.doors.trans h.doors, h'.fanTable.trans h.fanTable, h'.doorTable.trans h.doorTable,
    h'.pointTable.trans h.pointTable, h'.points.trans h.points⟩

theorem sameDoors_latch (s : State) (k : EventKind) : s.SameDoors (s.latch k) :=
  ⟨keys_latch s k, doors_latch s k, fanTable_latch s k, doorTable_latch s k, pointTable_latch s k, points_latch s k⟩

theorem sameDoors_readySequence (s : State) : s.SameDoors s.readySequence := by
  unfold State.readySequence
  split
  · exact .refl s
  · exact ⟨rfl, rfl, rfl, rfl, rfl, rfl⟩

theorem sameDoors_occupySlot (k : Fin 4) (n : Fin 128) (r : ResponseRecord) (s : State) :
    s.SameDoors (s.occupySlot k n r) := ⟨rfl, rfl, rfl, rfl, rfl, rfl⟩

theorem sameDoors_endRead (s : State) (e : EngineState) : s.SameDoors (s.endRead.setEngine e) := by
  rw [endRead_store]
  exact ⟨rfl, rfl, rfl, rfl, rfl, rfl⟩

/-! ### The fans of an activation, row by row -/

/-- What an activation into slot k makes of a fan (R69, R70, R146). -/
def State.capturedFan (s : State) (k : Fin 4) (sequence : Nat) (demand : Option Demand) (g : Fin 6) (x : Fan) : Fan :=
  if demand = none ∧ x.responseSlots[k] = none then x
  else
    s.resolved g
      { x with responseSlots := x.responseSlots.set k (demand.map fun d => { demand := d, sequence := sequence }) }

theorem captureFan_eq (u : State) (k : Fin 4) (sequence : Nat) (demand : Option Demand) (g : Fin 6) :
    (if demand = none ∧ (u.fans[g]).responseSlots[k] = none then u
      else
        ({ u with
          fans :=
            u.fans.set g
              { u.fans[g] with
                responseSlots :=
                  (u.fans[g]).responseSlots.set k (demand.map fun d => { demand := d, sequence := sequence }) } } :
          State).resolveFan g) =
      u.setFan g (u.capturedFan k sequence demand g (u.fan g)) := by
  unfold State.capturedFan
  by_cases h : demand = none ∧ (u.fans[g]).responseSlots[k] = none
  · have h' : demand = none ∧ (u.fan g).responseSlots[k] = none := h
    rw [if_pos h, if_pos h', setFan_fan]
  · have h' : ¬(demand = none ∧ (u.fan g).responseSlots[k] = none) := h
    rw [if_neg h, if_neg h']
    refine (resolveFan_eq g (u.setFan g _)).trans ?_
    rw [setFan_setFan, fan_setFan_same]
    rfl

theorem captureFans_rows (k : Fin 4) (sequence : Nat) (s : State) (demand : Fin 6 → Option Demand) :
    (List.finRange 6).foldl
        (fun u g =>
          if demand g = none ∧ (u.fans[g]).responseSlots[k] = none then u
          else
            ({ u with
              fans :=
                u.fans.set g
                  { u.fans[g] with
                    responseSlots :=
                      (u.fans[g]).responseSlots.set k
                        ((demand g).map fun d => { demand := d, sequence := sequence }) } } : State).resolveFan g) s =
      { s with fans := tabulate fun g => s.capturedFan k sequence (demand g) g s.fans[g] } := by
  simp only [captureFan_eq]
  refine (driveRows.forEach_eq_on s (body := fun g u => u.setFan g (u.capturedFan k sequence (demand g) g (u.fan g)))
    (m := fun g x => s.capturedFan k sequence (demand g) g x) (k := fun _ _ => [])
    (fun g v ks => by rw [List.append_nil]; rfl)).trans ?_
  rw [flatMap_const_nil, List.append_nil]
  rfl

theorem resolved_sameDemands (s : State) (g : Fin 6) (x : Fan) :
    (s.resolved g x).lineSlot = x.lineSlot ∧ (s.resolved g x).responseSlots = x.responseSlots := by
  have h := Fan.sameDemands_act (s.fanEntry g) (s.fanConfirmed g) { x with target := x.resolved (s.fanEntry g) }
  exact ⟨h.line, h.response⟩

theorem capturedFan_slots (s : State) (k : Fin 4) (sequence : Nat) (demand : Option Demand) (g : Fin 6) (x : Fan) :
    (s.capturedFan k sequence demand g x).lineSlot = x.lineSlot ∧
      (s.capturedFan k sequence demand g x).responseSlots =
        x.responseSlots.set k (demand.map fun d => { demand := d, sequence := sequence }) := by
  unfold State.capturedFan
  split_ifs with h
  · obtain ⟨hd, hx⟩ := h
    refine ⟨rfl, ?_⟩
    rw [hd, Option.map_none, ← hx]
    exact (Vector.set_getElem_self ..).symm
  · exact resolved_sameDemands s g _

/-! ### The doors of an activation -/

theorem Door.asked_holds (e : DoorEntry) (shows : Contacts) (x : Door) :
    (x.asked e shows).1.responseHolds = x.responseHolds ∧ (x.asked e shows).1.lineHold = x.lineHold := by
  have hopened : ∀ (p : Prop) [Decidable p] (y z : Door × Bool),
      y.1.responseHolds = x.responseHolds ∧ y.1.lineHold = x.lineHold →
      z.1.responseHolds = x.responseHolds ∧ z.1.lineHold = x.lineHold →
      (if p then y else z).1.responseHolds = x.responseHolds ∧ (if p then y else z).1.lineHold = x.lineHold :=
    fun p _ y z hy hz => by split_ifs <;> assumption
  unfold Door.asked
  cases x.mode with
  | closed | closing | jammed => exact hopened _ _ _ ⟨rfl, rfl⟩ ⟨rfl, rfl⟩
  | disabled | opening | opened | contactFault | outOfService => exact ⟨rfl, rfl⟩

theorem Door.released_holds (e : DoorEntry) (k : Fin 4) (x : Door) :
    (Door.released e k x).responseHolds = x.responseHolds.set k false := by
  unfold Door.released
  by_cases h : x.responseHolds[k] = false
  · rw [if_pos h, ← h]
    exact (Vector.set_getElem_self ..).symm
  · rw [if_neg h]

theorem capturedDoor_holds (s : State) (k : Fin 4) (r : ResponseRecord) (d : Fin 6) (x : Door) :
    (s.capturedDoor k r d x).1.responseHolds =
      x.responseHolds.set k (decide ((s.doorTable[d]).present = true ∧ r.holds d = true)) := by
  unfold State.capturedDoor
  by_cases hh : (s.doorTable[d]).present = true ∧ r.holds d = true
  · rw [if_pos hh, (Door.asked_holds _ _ _).1, decide_eq_true hh]
  · rw [if_neg hh, decide_eq_false hh]
    split_ifs
    · rw [(Door.asked_holds _ _ _).1, Door.released_holds]
    · exact Door.released_holds _ k x

/-! ### Keys that no trigger names -/

theorem takeKey_of_noTrigger {s : State} {kinds : List KeyKind} (h : s.noTriggerOn kinds) {key : Key}
    (hk : key.kind ∈ kinds) : s.takeKey key = s := by
  have hnone : ((List.finRange 64).filter fun i => (s.triggerTable[i]).matchesKey s.engine.mode key) = [] := by
    rw [List.filter_eq_nil_iff]
    intro i _ hm
    obtain ⟨he, hkind, -⟩ := (matchesKey_iff _ _ _).1 hm
    exact h i he (hkind ▸ hk)
  rw [takeKey_eq, hnone, List.foldl_nil]

theorem takes_of_noTrigger {s : State} {kinds : List KeyKind} (h : s.noTriggerOn kinds) {keys : List Key}
    (hk : ∀ key ∈ keys, key.kind ∈ kinds) : s.takes keys = s := by
  induction keys with
  | nil => rfl
  | cons key keys ih =>
    have hfirst := takeKey_of_noTrigger h (hk key List.mem_cons_self)
    rw [State.takes, List.foldl_cons, hfirst]
    exact ih fun x hx => hk x (List.mem_cons_of_mem _ hx)

/-! ### What examining and settling leave -/

theorem examineFetch_frame (s : State) :
    s.examineFetch.fans = s.fans ∧ s.examineFetch.doors = s.doors ∧ s.examineFetch.engine.active = s.engine.active ∧
      s.examineFetch.engine.sequence = s.engine.sequence := by
  unfold State.examineFetch
  split
  · split
    · rw [requestSlot_eq]
      exact ⟨rfl, rfl, rfl, rfl⟩
    · exact ⟨rfl, rfl, rfl, rfl⟩
  · exact ⟨rfl, rfl, rfl, rfl⟩

/-- NOTICE frames queued one after another. -/
def State.notifyAll (s : State) (codes : List Byte) : State := codes.foldl State.notify s

theorem notifyAll_frame (codes : List Byte) (s : State) :
    (s.notifyAll codes).fans = s.fans ∧ (s.notifyAll codes).doors = s.doors ∧
      (s.notifyAll codes).engine = s.engine ∧ (s.notifyAll codes).keys = s.keys := by
  induction codes generalizing s with
  | nil => exact ⟨rfl, rfl, rfl, rfl⟩
  | cons c codes ih =>
    obtain ⟨hf, hd, he, hk⟩ := ih (s.notify c)
    exact ⟨hf.trans (fans_notify s c), hd.trans (doors_notify s c), he.trans (engine_notify s c),
      hk.trans (keys_notify s c)⟩

end Sys2Proof.Machine
end

section
/-! O39: the end of a slot read (R144 to R147, R172). -/

namespace Sys2Proof.Machine

/-! ### The activation sequence counter -/

theorem readySequence_of_room {s : State} (h : s.engine.sequence < 4294967295) : s.readySequence = s := if_pos h

theorem length_filter_toList {α : Type} {n : Nat} (v : Vector α n) (p : α → Bool) :
    (v.toList.filter p).length = ((List.finRange n).filter fun i => p v[i]).length := by
  have hlist : v.toList = (List.finRange n).map fun i => v[i] := by
    refine List.ext_getElem (by simp) fun i h1 h2 => ?_
    simp
  rw [hlist, List.filter_map, List.length_map]
  rfl

theorem rank_eq (e : EngineState) (q : Nat) :
    e.rank q = 1 + ((List.finRange 4).filter fun j => (e.active[j]).any fun a => decide (a.sequence < q)).length := by
  rw [EngineState.rank, length_filter_toList]
  congr 3
  funext j
  cases e.active[j] <;> rfl

theorem renumbered_slot (a : Option ActiveResponse) (x : Option ResponseDemand) (rank : Nat → Nat) :
    (match x, a.map fun r => { r with sequence := rank r.sequence } with
      | some d, some r => some { d with sequence := r.sequence }
      | d, _ => d) =
      (match a with
      | none => x
      | some r => x.map fun d => { d with sequence := rank r.sequence }) := by
  cases a <;> cases x <;> rfl

theorem readySequence_of_full {s : State} (h : 4294967295 ≤ s.engine.sequence) : s.readySequence = s.renumber :=
  if_neg (by omega)

/-! ### The steps of an activation -/

theorem activateIn_steps {pre ready fanned doored noticed : State} {k : Fin 4} {n : Fin 128} {r : ResponseRecord}
    {demand : Fin 6 → Option Demand} {out : Fin 6 → Door × Bool} (hkeys : pre.keys = [])
    (hready : ready = pre.readySequence)
    (hdemand : ∀ g, demand g = if (pre.fanTable[g]).present = true then r.demandFor pre.fanTable[g] g else none)
    (hfanned : fanned =
      (List.finRange 6).foldl
        (fun u g =>
          if demand g = none ∧ (u.fans[g]).responseSlots[k] = none then u
          else
            ({ u with
              fans :=
                u.fans.set g
                  { u.fans[g] with
                    responseSlots :=
                      (u.fans[g]).responseSlots.set k
                        ((demand g).map fun d => { demand := d, sequence := ready.engine.sequence + 1 }) } } :
              State).resolveFan g)
        (ready.occupySlot k n r))
    (hout : ∀ d, out d = pre.capturedDoor k r d pre.doors[d])
    (hdoored : doored =
      State.takes { fanned with doors := tabulate fun d => (out d).1 }
        (((List.finRange 6).filter fun d => (out d).2).map fun d => doorKey d .doorOpened))
    (hnoticed : noticed = doored.notifyAll r.notices) :
    pre.activateIn k n r =
      if r.enter = true ∧ noticed.engine.mode ≠ .incident then noticed.changeMode .incident else noticed := by
  have hslotted : pre.SameDoors (ready.occupySlot k n r) := by
    rw [hready]
    exact (sameDoors_readySequence pre).trans (sameDoors_occupySlot k n r _)
  have hcaptured : (ready.occupySlot k n r).captureFans k r (ready.engine.sequence + 1) = fanned := by
    rw [hfanned, captureFans_eq k r _ _ demand fun g => by rw [hdemand, hslotted.fanTable]]
  have hfans : pre.SameDoors fanned := by
    refine hslotted.trans ?_
    rw [hfanned, captureFans_rows]
    exact ⟨rfl, rfl, rfl, rfl, rfl, rfl⟩
  have hdoor : ∀ d, fanned.capturedDoor k r d fanned.doors[d] = out d := fun d => by
    rw [hout]
    unfold State.capturedDoor
    rw [hfans.doorTable, hfans.doors, shows_congr hfans.pointTable hfans.points]
  have hfkeys : fanned.keys = [] := hfans.keys.trans hkeys
  have htaken : (fanned.captureDoors k r).takeKeys = doored := by
    rw [captureDoors_eq, hdoored]
    simp only [hdoor]
    have happend : ∀ ks, fanned.keys ++ ks = ks := fun ks => by rw [hfkeys, List.nil_append]
    rw [happend]
    exact takeKeys_moveDoors fanned hfkeys _ _ []
  have henter : ∀ u : State, (if r.enter then u.enterIncident else u) =
      if r.enter = true ∧ u.engine.mode ≠ .incident then u.changeMode .incident else u := fun u => by
    unfold State.enterIncident
    split_ifs <;> simp_all
  unfold State.activateIn
  dsimp only
  rw [← hready]
  have hsequence : (ready.occupySlot k n r).engine.sequence = ready.engine.sequence + 1 := rfl
  rw [hsequence, hcaptured, htaken, hnoticed, State.notifyAll]
  exact henter _

/-! ### The slot an activation takes, and the state it finds -/

/-- What an activation into slot k finds: the read over, the fetch unit free, and a victim gone and noted (R144, R145). -/
def State.freedFor (s : State) (k : Fin 4) (pre : State) (r : ResponseRecord) : Prop :=
  (s.engine.active[k] = none ∧ (∀ j : Fin 4, j < k → (s.engine.active[j]).isSome = true) ∧
      pre = { s.endRead with engine := { s.engine with fetch := none } }) ∨
    ∃ v : ActiveResponse,
      s.engine.active[k] = some v ∧ v.precedence < r.precedence ∧
        (∀ (j : Fin 4), ∃ a : ActiveResponse,
          s.engine.active[j] = some a ∧
            (j = k ∨ v.precedence < a.precedence ∨ (v.precedence = a.precedence ∧ a.sequence < v.sequence))) ∧
        pre =
          ({ s.endRead with
            engine :=
              { s.engine with fetch := none, active := s.engine.active.set k none } } : State).latch
            .responsePreempted

variable {s pre : State} {k : Fin 4} {r : ResponseRecord}

theorem activate_freedFor (h : s.freedFor k pre r) (n : Fin 128) :
    (s.endRead.engine.hasFree || s.endRead.engine.outranksLowest r.precedence) = true ∧
      (s.endRead.setEngine { s.endRead.engine with fetch := none }).activate n r = pre.activateIn k n r := by
  rw [engine_endRead, hasRoom_iff]
  rcases h with ⟨hk, hbefore, hpre⟩ | ⟨v, hk, hv, hall, hpre⟩
  · refine ⟨⟨k, fun a ha => by rw [hk] at ha; cases ha⟩, ?_⟩
    rw [hpre]
    exact activate_of_free (s := s.endRead.setEngine { s.engine with fetch := none }) (freeSlot?_eq_some hk hbefore) n r
  · refine ⟨⟨k, fun a ha => by rw [hk] at ha; cases ha; exact hv⟩, ?_⟩
    rw [hpre]
    refine activate_of_victim (s := s.endRead.setEngine { s.engine with fetch := none })
      (freeSlot?_eq_none fun j => ?_) (victim?_eq_some (v := v) hk hall) n r
    obtain ⟨a, ha, -⟩ := hall j
    exact ⟨a, ha⟩

theorem freedFor_same (h : s.freedFor k pre r) : s.SameDoors pre ∧ pre.fans = s.fans ∧
    pre.triggerTable = s.triggerTable ∧ pre.engine.sequence = s.engine.sequence ∧
      ∀ a, pre.engine.active.set k a = s.engine.active.set k a := by
  have hend := endRead_store s
  rcases h with ⟨-, -, rfl⟩ | ⟨v, -, -, -, rfl⟩
  · refine ⟨sameDoors_endRead s _, (congrArg State.fans hend :), (congrArg State.triggerTable hend :), rfl, fun _ => rfl⟩
  · refine ⟨(sameDoors_endRead s _).trans (sameDoors_latch _ _), ?_, ?_, ?_, fun a => ?_⟩
    · rw [fans_latch]
      exact (congrArg State.fans hend :)
    · rw [triggerTable_latch]
      exact (congrArg State.triggerTable hend :)
    · rw [engine_latch]
    · rw [engine_latch]
      exact Vector.set_set ..

theorem fetchCompletion_activates {page : List Byte} {f : Fetch} (hread : s.store.service = .reading f.number false page)
    (hf : s.engine.fetch = some f) (hd : f.disturbed = false) (hc : f.cancelled = false)
    (hr : fetchedRecord f page = some r) (h : s.freedFor k pre r) :
    fetchCompletionEffect s = (pre.activateIn k f.number r).examineFetch := by
  obtain ⟨hroom, hactivate⟩ := activate_freedFor h f.number
  rw [fetchCompletion_of_fetch hread hf, completeFetch_of_record hd hr, if_neg (by rw [hc]; exact Bool.false_ne_true),
    if_pos hroom, hactivate]

end Sys2Proof.Machine
end

section
/-! Settles O39. -/

namespace Sys2Proof.Machine

variable {s : State}

/-- What a fetch completion comes to where the state it leaves is at rest. -/
theorem exec_fetchCompletion_atRest {u : State} (h : fetchCompletionEffect s = u) (hu : u.atRest) :
    exec .fetchCompletion s = .next u := by
  subst h
  exact congrArg Host.Outcome.next (settle_of_atRest hu)

theorem completeFetch_idle (s : State) :
    s.endRead.setEngine { s.endRead.engine with fetch := none } =
      { s.endRead with engine := { s.engine with fetch := none } } := by
  rw [engine_endRead]
  rfl

/-- A response that activates without entering INCIDENT, where no trigger entry names DOOR_OPENED and the sequence counter
has room: what the fans, the doors and the Active Table come to. -/
theorem activation_outcome {pre : State} {page : List Byte} {f : Fetch} {r : ResponseRecord} {k : Fin 4} (hs : s.atRest)
    (hread : s.store.service = .reading f.number false page) (hf : s.engine.fetch = some f) (hd : f.disturbed = false)
    (hc : f.cancelled = false) (hr : fetchedRecord f page = some r) (henter : r.enter = false)
    (htrigger : s.noTriggerOn [.doorOpened]) (hroom : s.engine.sequence < 4294967295) (h : s.freedFor k pre r) :
    ∃ t : State,
      exec .fetchCompletion s = .next t ∧ t.engine.sequence = s.engine.sequence + 1 ∧
        t.engine.active =
          s.engine.active.set k
            (some
              { number := f.number, precedence := r.precedence, enter := false, successor := r.successor
                hold := if r.holdTime = 0 then none else some (r.holdTime * 1000)
                sequence := s.engine.sequence + 1 }) ∧
        (∀ g : Fin 6,
          (t.fans[g]).lineSlot = (s.fans[g]).lineSlot ∧
            (t.fans[g]).responseSlots =
              (s.fans[g]).responseSlots.set k
                ((if (s.fanTable[g]).present = true then r.demandFor s.fanTable[g] g else none).map fun d =>
                  { demand := d, sequence := s.engine.sequence + 1 })) ∧
        ∀ d : Fin 6,
          (t.doors[d]).responseHolds =
            (s.doors[d]).responseHolds.set k (decide ((s.doorTable[d]).present = true ∧ r.holds d = true)) := by
  obtain ⟨hsame, hfans, htriggers, hsequence, hactive⟩ := freedFor_same h
  have hready : pre.readySequence = pre := readySequence_of_room (by rw [hsequence]; exact hroom)
  obtain ⟨slotted, hslotted⟩ : ∃ u, u = pre.occupySlot k f.number r := ⟨_, rfl⟩
  obtain ⟨demand, hdemand⟩ :
      ∃ demand : Fin 6 → Option Demand,
        ∀ g, demand g = if (pre.fanTable[g]).present = true then r.demandFor pre.fanTable[g] g else none :=
    ⟨_, fun _ => rfl⟩
  obtain ⟨out, hout⟩ : ∃ out : Fin 6 → Door × Bool, ∀ d, out d = pre.capturedDoor k r d pre.doors[d] := ⟨_, fun _ => rfl⟩
  obtain ⟨fanned, hfanned⟩ :
      ∃ u : State, u = { slotted with
        fans := tabulate fun g => slotted.capturedFan k (pre.engine.sequence + 1) (demand g) g slotted.fans[g] } := ⟨_, rfl⟩
  obtain ⟨moved, hmoved⟩ : ∃ u : State, u = { fanned with doors := tabulate fun d => (out d).1 } := ⟨_, rfl⟩
  have htable : moved.triggerTable = s.triggerTable := by
    rw [hmoved, hfanned, hslotted, ← htriggers]
    rfl
  have hquiet : moved.takes (((List.finRange 6).filter fun d => (out d).2).map fun d => doorKey d .doorOpened) = moved := by
    refine takes_of_noTrigger (kinds := [.doorOpened]) ?_ fun key hkey => ?_
    · intro i hi
      rw [htable] at hi ⊢
      exact htrigger i hi
    · obtain ⟨d, -, rfl⟩ := List.mem_map.1 hkey
      exact List.mem_singleton.2 rfl
  have hsteps := activateIn_steps (pre := pre) (ready := pre) (fanned := fanned) (doored := moved)
    (noticed := moved.notifyAll r.notices) (k := k) (n := f.number) (r := r) (hsame.keys.trans hs.1) hready.symm hdemand
    (by rw [captureFans_rows, hfanned, hslotted]) hout (by rw [← hmoved, hquiet]) rfl
  obtain ⟨hnfans, hndoors, hnengine, hnkeys⟩ := notifyAll_frame r.notices moved
  have heffect : fetchCompletionEffect s = (moved.notifyAll r.notices).examineFetch := by
    rw [fetchCompletion_activates hread hf hd hc hr h, hsteps, if_neg (by rw [henter]; simp)]
  have hkeys : (moved.notifyAll r.notices).examineFetch.keys = [] := by
    rw [keys_examineFetch, hnkeys, hmoved, hfanned, hslotted]
    exact hsame.keys.trans hs.1
  obtain ⟨hefans, hedoors, heactive, hesequence⟩ := examineFetch_frame (moved.notifyAll r.notices)
  have hmengine : moved.engine = slotted.engine := by rw [hmoved, hfanned]
  have hslot : slotted.engine.sequence = s.engine.sequence + 1 := by
    rw [hslotted, ← hsequence]
    rfl
  refine ⟨(moved.notifyAll r.notices).examineFetch.followed, ?_, ?_, ?_, fun g => ?_, fun d => ?_⟩
  · rw [← settle_of_noKeys hkeys, ← heffect]
    rfl
  · show (moved.notifyAll r.notices).examineFetch.engine.sequence = _
    rw [hesequence, hnengine, hmengine, hslot]
  · show (moved.notifyAll r.notices).examineFetch.engine.active = _
    rw [heactive, hnengine, hmengine, hslotted, ← henter, ← hsequence, ← hactive]
    rfl
  · have hfan : ((moved.notifyAll r.notices).examineFetch.followed).fans[g] =
        slotted.capturedFan k (s.engine.sequence + 1)
          (if (s.fanTable[g]).present = true then r.demandFor s.fanTable[g] g else none) g s.fans[g] := by
      show ((moved.notifyAll r.notices).examineFetch.fans)[g] = _
      rw [hefans, hnfans, hmoved, hfanned, ← hsequence, ← hsame.fanTable, ← hdemand, ← hfans, hslotted]
      exact getElem_tabulate_fin _ g
    obtain ⟨hline, hresponse⟩ := capturedFan_slots slotted k (s.engine.sequence + 1)
      (if (s.fanTable[g]).present = true then r.demandFor s.fanTable[g] g else none) g s.fans[g]
    rw [hfan]
    exact ⟨hline, hresponse⟩
  · have hdoor : ((moved.notifyAll r.notices).examineFetch.followed).doors[d] =
        (pre.capturedDoor k r d pre.doors[d]).1 := by
      show ((moved.notifyAll r.notices).examineFetch.doors)[d] = _
      rw [hedoors, hndoors, hmoved, ← hout]
      exact getElem_tabulate_fin _ d
    rw [hdoor, capturedDoor_holds, hsame.doors, hsame.doorTable]

/-- Settles O39: what comes to nothing, what activates, and how, step by step. -/
theorem fetchCompletionActivatesOrDiscards : Obligations.FetchCompletionActivatesOrDiscards := by
  refine ⟨fun s hs hidle => ?_, fun s n dropped page idle hs hread hidle => ⟨fun hnone => ?_, fun f record hdropped hf
    hrecord => ⟨fun hvoid => ?_, fun r hd hr => ⟨fun hc => ?_, fun hc hfull => ?_⟩⟩⟩, ?_, ?_, ?_⟩
  · exact exec_fetchCompletion_atRest (fetchCompletion_of_idle hidle) hs
  · exact exec_fetchCompletion_atRest (fetchCompletion_of_dropped hread hnone) (atRest_endRead hs)
  · subst hdropped
    refine exec_fetchCompletion_atRest ?_ (atRest_examineFetch (atRest_latch _ ?_))
    · rw [fetchCompletion_of_fetch hread hf, completeFetch_of_none (hvoid.imp_right fun h => hrecord.symm.trans h),
        completeFetch_idle, ← hidle]
    · rw [hidle]
      exact atRest_setEngine (s := s.endRead) _ (atRest_endRead hs)
  · subst hdropped
    refine exec_fetchCompletion_atRest ?_ (atRest_examineFetch ?_)
    · rw [fetchCompletion_of_fetch hread hf, completeFetch_of_record hd (hrecord.symm.trans hr), if_pos hc,
        completeFetch_idle, ← hidle]
    · rw [hidle]
      exact atRest_setEngine (s := s.endRead) _ (atRest_endRead hs)
  · subst hdropped
    refine exec_fetchCompletion_atRest ?_ (atRest_examineFetch (atRest_latch _ ?_))
    · have hroom : ¬(s.endRead.engine.hasFree || s.endRead.engine.outranksLowest r.precedence) = true := by
        rw [engine_endRead]
        exact hasRoom_eq_false _ _ hfull
      rw [fetchCompletion_of_fetch hread hf, completeFetch_of_record hd (hrecord.symm.trans hr),
        if_neg (by rw [hc]; exact Bool.false_ne_true), if_neg hroom, completeFetch_idle, ← hidle]
    · rw [hidle]
      exact atRest_setEngine (s := s.endRead) _ (atRest_endRead hs)
  · intro s page f r k hs hread hf hd hc hvalid hr henter htrigger _ hroom hslot
    obtain ⟨pre, hpre⟩ : ∃ pre, s.freedFor k pre r := by
      rcases hslot with ⟨hk, hbefore⟩ | ⟨v, hk, hv, hall⟩
      · exact ⟨_, .inl ⟨hk, hbefore, rfl⟩⟩
      · exact ⟨_, .inr ⟨v, hk, hv, hall, rfl⟩⟩
    obtain ⟨t, hexec, hsequence, hactive, hfans, hdoors⟩ :=
      activation_outcome hs hread hf hd hc ((if_pos hvalid).trans hr) henter htrigger hroom hpre
    refine ⟨t, hexec, hsequence, hactive, fun g => ?_, fun d => ?_⟩
    · obtain ⟨hline, hresponse⟩ := hfans g
      refine ⟨hline, fun j hj => ?_, ?_⟩
      · rw [hresponse]
        exact Vector.getElem_set_ne k.isLt j.isLt fun e => hj (Fin.ext e.symm)
      · rw [hresponse]
        refine (Vector.getElem_set_self k.isLt).trans ?_
        by_cases hp : (s.fanTable[g]).present = true
        · rw [if_pos hp, if_pos hp]
          exact congrArg (Option.map _) (demandFor_eq r s.fanTable[g] g)
        · rw [if_neg hp, if_neg hp, Option.map_none]
    · refine ⟨fun j hj => ?_, ?_⟩
      · rw [hdoors]
        exact Vector.getElem_set_ne k.isLt j.isLt fun e => hj (Fin.ext e.symm)
      · rw [hdoors, ← holds_iff_mem]
        have hself := Vector.getElem_set_self (xs := (s.doors[d]).responseHolds)
          (x := decide ((s.doorTable[d]).present = true ∧ r.holds d = true)) k.isLt
        exact (Eq.congr_left hself).trans decide_eq_true_iff
  · intro s pre ready fanned doored noticed page f r k sequence demand out hs hread hf hd hc hvalid hr hslot hready
      hseq hdemand hfanned hout hdoored hnoticed
    have hpre : s.freedFor k pre r := hslot
    obtain ⟨hsame, hfans, htriggers, -, -⟩ := freedFor_same hpre
    have hsteps := activateIn_steps (pre := pre) (ready := ready) (fanned := fanned) (doored := doored)
      (noticed := noticed) (k := k) (n := f.number) (r := r) (demand := demand) (out := out) (hsame.keys.trans hs.1) hready
      (fun g => by
        rw [hdemand, hsame.fanTable]
        exact if_congr Iff.rfl (demandFor_eq r s.fanTable[g] g).symm rfl)
      (by rw [hfanned, hseq]; rfl)
      (fun d => by
        rw [hout, State.capturedDoor, hsame.doorTable, hsame.doors, shows_congr hsame.pointTable hsame.points]
        simp only [← holds_iff_mem, ← opens_iff_mem])
      hdoored hnoticed
    have heffect := fetchCompletion_activates hread hf hd hc ((if_pos hvalid).trans hr) hpre
    rw [hsteps] at heffect
    exact congrArg (fun u : State => Host.Outcome.next u.settle) heffect
  · refine ⟨fun s code a body => ⟨fun ha => notify_of_unaddressed ha code, fun ha hb => ?_⟩, fun s rank hrank =>
      ⟨readySequence_of_room, fun hfull => ?_⟩⟩
    · rw [notify_of_addressed ha, noticeFrame_eq ha code body hb]
    · have hrank' : s.engine.rank = rank := funext fun q => by rw [rank_eq, hrank]
      have hcount : s.engine.activeCount = ((List.finRange 4).filter fun j => (s.engine.active[j]).isSome).length :=
        length_filter_toList _ _
      rw [readySequence_of_full hfull, State.renumber, hrank', hcount]
      dsimp only
      congr 1
      congr 1
      funext g
      congr 1
      congr 1
      funext j
      rw [getElem_tabulate_fin]
      exact renumbered_slot s.engine.active[j] (s.fans[g]).responseSlots[j] rank

end Sys2Proof.Machine
end

section
/-! The store's commands outside an operation: status, setups, reads and staging (R163 to R168). -/

namespace Sys2Proof.Machine

variable {s : State}

/-! ### The sequence of a setup -/

theorem setup_iff (m : StoreMode) : m.setup = true ↔ m = .eraseSet ∨ m = .programSet := by
  cases m <;> simp [StoreMode.setup]

theorem busy_iff (m : StoreMode) : m.busy = true ↔ m = .erasing ∨ m = .eraseSuspended ∨ m = .programming := by
  cases m <;> simp [StoreMode.busy]

theorem sequenced_of_setup (h : s.store.mode = .eraseSet ∨ s.store.mode = .programSet) (run : State × Answer) :
    s.sequenced run = (s.setStore s.store.breakSequence, .plain .sequence) := if_pos ((setup_iff _).2 h)

theorem sequenced_of_free (h1 : s.store.mode ≠ .eraseSet) (h2 : s.store.mode ≠ .programSet) (run : State × Answer) :
    s.sequenced run = run := if_neg fun hx => ((setup_iff _).1 hx).elim h1 h2

theorem sequenced_of_ready (h : s.store.mode = .ready) (run : State × Answer) : s.sequenced run = run :=
  sequenced_of_free (by rw [h]; nofun) (by rw [h]; nofun) run

theorem sequenced_of_busy (h : s.store.mode = .erasing ∨ s.store.mode = .eraseSuspended ∨ s.store.mode = .programming)
    (run : State × Answer) : s.sequenced run = run := by
  refine sequenced_of_free (fun hx => ?_) (fun hx => ?_) run
  · rw [hx] at h
    simp at h
  · rw [hx] at h
    simp at h

theorem ready_not_busy (h : s.store.mode = .ready) : ¬s.store.mode.busy = true := by
  rw [h]
  exact Bool.false_ne_true

/-- An access whose run is known, in a node whose units run. -/
theorem exec_access {c : Instr} {req : Request} {op a b : Word} {run : State → State × Answer} {t : State} {x : Answer}
    (hexec : exec c s = .next (s.access req op a b run)) (hload : s.load = .running) (hrun : run s = (t, x)) :
    exec c s = .next (t.answerAccess req op a b x) := by
  rw [hexec, access_of_running hload, hrun]

/-- The store commands that a setup does not let pass (R167). -/
theorem exec_sequenced {c : Instr} {req : Request} {op a b : Word} (hc : accessOf c = some (req, op, a, b))
    (hlow : 8 ≤ op.toNat) (hhigh : op.toNat ≤ 13) (hknown : ∀ head, c ≠ .unknownOperation req head) :
    ∃ run : State → State × Answer, exec c s = .next (s.access req op a b run) ∧ ∃ r, run s = s.sequenced r := by
  cases c <;> simp only [accessOf, Option.some.injEq, Prod.mk.injEq, reduceCtorEq] at hc
  case storeClearStatus =>
    obtain ⟨rfl, rfl, rfl, rfl⟩ := hc
    exact ⟨_, rfl, _, rfl⟩
  case storeRead =>
    obtain ⟨rfl, rfl, rfl, rfl⟩ := hc
    exact ⟨_, rfl, _, rfl⟩
  case stagingWrite =>
    obtain ⟨rfl, rfl, rfl, rfl⟩ := hc
    exact ⟨_, rfl, _, rfl⟩
  case stagingRead =>
    obtain ⟨rfl, rfl, rfl, rfl⟩ := hc
    exact ⟨_, rfl, _, rfl⟩
  case eraseSetup =>
    obtain ⟨rfl, rfl, rfl, rfl⟩ := hc
    exact ⟨_, rfl, _, rfl⟩
  case programSetup =>
    obtain ⟨rfl, rfl, rfl, rfl⟩ := hc
    exact ⟨_, rfl, _, rfl⟩
  case unknownOperation req' head =>
    match head, hc with
    | op' :: a' :: b' :: rest, hc =>
      simp only [Option.some.injEq, Prod.mk.injEq] at hc
      obtain ⟨rfl, -⟩ := hc
      exact absurd rfl (hknown _)
  all_goals
    obtain ⟨-, rfl, -⟩ := hc
    simp at hlow hhigh

/-! ### Status -/

/-- Seven flags summed by their places are the bits of a word. -/
theorem flagsWord_bits (busy suspended erase program supply sequence protection : Bool) :
    fieldWord (flagCode busy + 2 * flagCode suspended + 4 * flagCode erase + 8 * flagCode program + 16 * flagCode supply +
        32 * flagCode sequence + 64 * flagCode protection) =
      (0 : BitVec 9) ++ BitVec.ofBool protection ++ BitVec.ofBool sequence ++ BitVec.ofBool supply ++
        BitVec.ofBool program ++ BitVec.ofBool erase ++ BitVec.ofBool suspended ++ BitVec.ofBool busy := by
  revert busy suspended erase program supply sequence protection
  decide

theorem busy_eq (m : StoreMode) :
    m.busy = (decide (m = .erasing) || decide (m = .eraseSuspended) || decide (m = .programming)) := by
  cases m <;> rfl

theorem fieldWord_page (p : Option (Fin 48)) :
    fieldWord (pageWord p) = p.elim 0xFFFF fun p => BitVec.ofNat 16 p.val := by
  cases p with
  | none => rfl
  | some p => exact BitVec.ofInt_natCast ..

theorem storeStatusWords_eq (s : State) :
    s.storeStatusWords.map fieldWord =
      [match s.store.mode with
        | .ready => 0 | .eraseSet => 1 | .programSet => 2 | .erasing => 3 | .eraseSuspended => 4 | .programming => 5,
        (0 : BitVec 9) ++ BitVec.ofBool s.store.protectError ++ BitVec.ofBool s.store.sequenceError ++
          BitVec.ofBool s.store.supplyError ++ BitVec.ofBool s.store.programError ++
          BitVec.ofBool s.store.eraseError ++ BitVec.ofBool (decide (s.store.mode = .eraseSuspended)) ++
          BitVec.ofBool
            (decide (s.store.mode = .erasing) || decide (s.store.mode = .eraseSuspended) ||
              decide (s.store.mode = .programming)),
        s.store.setupPage.elim 0xFFFF fun p => BitVec.ofNat 16 p.val,
        s.store.operationPage.elim 0xFFFF fun p => BitVec.ofNat 16 p.val,
        BitVec.ofNat 16 s.store.pulses, if s.supplyOk then 1 else 0] := by
  have hmode : fieldWord (s.store.mode.code : Int) =
      match s.store.mode with
        | .ready => 0 | .eraseSet => 1 | .programSet => 2 | .erasing => 3 | .eraseSuspended => 4 | .programming => 5 := by
    cases s.store.mode <;> rfl
  have hpulses : fieldWord (s.store.pulses : Int) = BitVec.ofNat 16 s.store.pulses := BitVec.ofInt_natCast ..
  have hsupply : fieldWord (flagCode s.supplyOk) = if s.supplyOk then 1 else 0 := by cases s.supplyOk <;> rfl
  rw [State.storeStatusWords, ← busy_eq, ← flagsWord_bits, ← fieldWord_page, ← fieldWord_page, ← hpulses, ← hsupply, ← hmode]
  rfl

/-! ### Setups -/

theorem pageOf_val {page : Nat} {p : Fin 48} (h : page = p.val) : pageOf page = some p := by
  subst h
  exact dif_pos p.isLt

theorem pageOf_of_le {page : Nat} (h : 48 ≤ page) : pageOf page = none := dif_neg (by omega)

/-- The two setups as accesses. -/
theorem exec_setup {req : Request} {page b : Word} {c : Instr} {op : Word} {mode : StoreMode}
    (hc : (c = .eraseSetup req page b ∧ op = 12 ∧ mode = .eraseSet) ∨
      (c = .programSetup req page b ∧ op = 13 ∧ mode = .programSet)) :
    exec c s = .next (s.access req op page b (State.storeSetup mode page.toNat)) := by
  rcases hc with ⟨rfl, rfl, rfl⟩ | ⟨rfl, rfl, rfl⟩ <;> rfl

/-- Settles O42, command by command and state by state. -/
theorem storeStatusClearAndSetup : Obligations.StoreStatusClearAndSetup := by
  refine ⟨fun c req op a b s hload hsetup hc hlow hhigh hknown => ?_, fun req a b s hload => ⟨?_, fun hbusy => ?_,
    fun hready => ?_⟩, fun req page b s c op mode hload hc => ⟨fun hbusy => ?_, fun hready => ⟨fun hout => ?_,
    fun p hp => ⟨fun herror => ?_, fun herror => ?_⟩⟩⟩⟩
  · obtain ⟨run, hexec, r, hrun⟩ := exec_sequenced hc hlow hhigh hknown
    exact exec_access hexec hload (hrun.trans (sequenced_of_setup hsetup r))
  · refine ⟨Config.wordReplyCount 7, ?_⟩
    exact (exec_access (run := State.storeStatus) rfl hload rfl).trans
      (congrArg
        (fun ws => Host.Outcome.next
          (s.answerAccess req 7 a b { status := .ok, number := Config.wordReplyCount 7, data := bytesOf ws }))
        (storeStatusWords_eq s))
  · exact exec_access (run := State.storeClearStatus) rfl hload
      ((sequenced_of_busy hbusy _).trans (if_pos ((busy_iff _).2 hbusy)))
  · exact exec_access (run := State.storeClearStatus) rfl hload
      ((sequenced_of_ready hready _).trans (if_neg (ready_not_busy hready)))
  · exact exec_access (exec_setup hc) hload ((sequenced_of_busy hbusy _).trans (if_pos ((busy_iff _).2 hbusy)))
  · refine exec_access (exec_setup hc) hload ((sequenced_of_ready hready _).trans
      ((if_neg (ready_not_busy hready)).trans ?_))
    rw [pageOf_of_le hout]
    rfl
  · refine exec_access (exec_setup hc) hload ((sequenced_of_ready hready _).trans
      ((if_neg (ready_not_busy hready)).trans ?_))
    rw [pageOf_val hp]
    exact if_pos herror
  · refine exec_access (exec_setup hc) hload ((sequenced_of_ready hready _).trans
      ((if_neg (ready_not_busy hready)).trans ?_))
    rw [pageOf_val hp]
    exact if_neg (by rw [herror]; exact Bool.false_ne_true)

/-! ### Reading and writing bytes -/

theorem take_drop_readBytes (m : Mem) (a o n k : Nat) :
    ((Mem.readBytes m a k).drop o).take n = Mem.readBytes m (a + o) (min n (k - o)) := by
  refine List.ext_getElem (by simp) fun i h1 h2 => ?_
  simp [Mem.readBytes, Nat.add_assoc]

theorem cutRead_eq (m : Mem) (base o n : Nat) :
    cutRead m base o n =
      { status := if o + n ≤ 512 then .ok else .outOfField
        number := BitVec.ofNat 16 (min n (512 - o))
        data := ((Mem.readBytes m base 512).drop o).take n } := by
  rw [cutRead, Answer.bytes, take_drop_readBytes m base o n 512, Mem.length_readBytes]
  congr 1
  by_cases h : o + n ≤ 512
  · rw [if_pos h, if_neg (by omega)]
  · rw [if_neg h, if_pos (by omega)]

/-- Settles O43, command by command. -/
theorem storeBytesAreReadAndWritten : Obligations.StoreBytesAreReadAndWritten := by
  refine ⟨fun req x offset length s o n hload ho hn => ⟨fun hbusy => ?_, fun hready => ⟨fun hlength => ?_,
    fun h0 h96 hout => ?_, fun p h0 h96 hp hin => ?_⟩, fun h1 h2 => ⟨fun hlength => ?_, fun h0 h96 hout => ?_,
    fun h0 h96 hin => ?_⟩⟩, fun req x offset data s hload h1 h2 => ⟨fun hnone => ?_, fun hsome hlong => ?_,
    fun hsome hfit => ?_⟩⟩
  all_goals subst_vars
  · refine exec_access (run := State.storeRead _ _ _) rfl hload ((sequenced_of_busy hbusy _).trans ?_)
    rw [if_pos ((busy_iff _).2 hbusy)]
    rfl
  · refine ⟨Config.badLengthIndex 9,
      exec_access (run := State.storeRead _ _ _) rfl hload ((sequenced_of_ready hready _).trans ?_)⟩
    rw [if_neg (ready_not_busy hready), if_pos hlength]
    rfl
  · refine exec_access (run := State.storeRead _ _ _) rfl hload ((sequenced_of_ready hready _).trans ?_)
    rw [if_neg (ready_not_busy hready), if_neg (by omega), if_pos (by omega)]
    rfl
  · refine exec_access (run := State.storeRead _ _ _) rfl hload ((sequenced_of_ready hready _).trans ?_)
    rw [if_neg (ready_not_busy hready), if_neg (by omega), if_neg (by omega), cutRead_eq, hp]
    rfl
  · refine ⟨Config.badLengthIndex 11,
      exec_access (run := State.stagingRead _ _) rfl hload ((sequenced_of_free h1 h2 _).trans ?_)⟩
    rw [if_pos hlength]
    rfl
  · refine exec_access (run := State.stagingRead _ _) rfl hload ((sequenced_of_free h1 h2 _).trans ?_)
    rw [if_neg (by omega), if_pos (by omega)]
    rfl
  · refine exec_access (run := State.stagingRead _ _) rfl hload ((sequenced_of_free h1 h2 _).trans ?_)
    rw [if_neg (by omega), if_neg (by omega), cutRead_eq]
  · exact ⟨_, exec_access (run := State.stagingWrite _ _) rfl hload ((sequenced_of_free h1 h2 _).trans (if_pos rfl))⟩
  · refine exec_access (run := State.stagingWrite _ _) rfl hload ((sequenced_of_free h1 h2 _).trans ?_)
    rw [if_neg hsome, if_pos hlong]
    rfl
  · refine ⟨Mem.writeBytes s.store.staging offset.toNat data,
      exec_access (run := State.stagingWrite _ _) rfl hload ((sequenced_of_free h1 h2 _).trans ?_), fun i => ?_⟩
    · rw [if_neg hsome, if_neg (by omega)]
      rfl
    · rw [Mem.read_writeBytes]
      refine if_ctx_congr Iff.rfl (fun hi => ?_) fun _ => rfl
      rw [List.getD_eq_getElem _ _ (by omega), List.getD_eq_getElem _ _ (by omega)]

end Sys2Proof.Machine
end

section
/-! STORE CONFIRM (R139, R167 to R171). -/

namespace Sys2Proof.Machine

variable {s : State}

/-! ### Latching beside the engine and the store -/

theorem latch_setEngine (s : State) (e : EngineState) (k : EventKind) :
    (s.setEngine e).latch k = (s.latch k).setEngine e := by
  refine (latch_congr (s := s) (t := s.setEngine e) rfl rfl rfl rfl rfl rfl k).trans ?_
  have hl := latch_eq s k
  generalize s.latch k = l at hl ⊢
  rw [hl]
  rfl

theorem foldl_latch_const {α : Type} (l : List α) (s : State) (k : EventKind) :
    l.foldl (fun s _ => s.latch k) s = if l = [] then s else s.latch k := by
  induction l generalizing s with
  | nil => rfl
  | cons a l ih =>
    rw [List.foldl_cons, ih, if_neg (List.cons_ne_nil a l), latch_latch, ite_self]

/-! ### The engine told of a CONFIRM -/

/-- The engine after a CONFIRM of a response page: its index entries absent, its queue entries gone, its fetch disturbed
(R139). -/
def EngineState.told (e : EngineState) (p : Fin 48) : EngineState :=
  { e with
    index := tabulate fun n => if n.val / 4 = p.val then none else e.index[n]
    queue := e.queue.filter fun q => decide (q.number.val / 4 ≠ p.val)
    fetch := e.fetch.map fun f => if f.number.val / 4 = p.val then { f with disturbed := true } else f }

theorem responsePage_eq_iff (n : Fin 128) (p : Fin 48) : responsePage n = p ↔ n.val / 4 = p.val := Fin.ext_iff

theorem disturbPage_eq (s : State) (p : Fin 48) :
    s.disturbPage p =
      s.setEngine
        { s.engine with
          fetch := s.engine.fetch.map fun f => if f.number.val / 4 = p.val then { f with disturbed := true } else f } := by
  have hself : ∀ x, s.engine.fetch = x → s.setEngine { s.engine with fetch := x } = s := fun x hx => by rw [← hx]; rfl
  unfold State.disturbPage
  split
  next f hf =>
    rw [hf, Option.map_some]
    simp only [responsePage_eq_iff]
    split_ifs
    · rfl
    · exact (hself _ hf).symm
  next hf =>
    rw [hf, Option.map_none]
    exact (hself _ hf).symm

theorem filter_eq_self_iff_filter_not_eq_nil {α : Type} (l : List α) (p : α → Bool) :
    l.filter (fun x => !p x) = [] ↔ l.filter p = l := by
  rw [List.filter_eq_nil_iff, List.filter_eq_self]
  exact forall_congr' fun x => forall_congr' fun _ => by cases p x <;> simp

theorem disturbPage_latch (s : State) (p : Fin 48) (k : EventKind) :
    (s.latch k).disturbPage p = (s.disturbPage p).latch k := by
  rw [disturbPage_eq, disturbPage_eq, latch_setEngine, engine_latch]

theorem confirmTold_of_response (s : State) {p : Fin 48} (hp : p.val < 32) :
    s.confirmTold p =
      (if s.engine.queue.filter (fun q => decide (q.number.val / 4 ≠ p.val)) = s.engine.queue then
        s.setEngine (s.engine.told p)
      else (s.setEngine (s.engine.told p)).latch .responseAbsent).examineFetch := by
  have hgone : (s.engine.queue.filter fun q => decide (responsePage q.number = p)) = [] ↔
      s.engine.queue.filter (fun q => decide (q.number.val / 4 ≠ p.val)) = s.engine.queue := by
    rw [← filter_eq_self_iff_filter_not_eq_nil]
    simp only [responsePage_eq_iff, decide_not, Bool.not_not]
  have htold : ((s.setEngine (s.engine.clearIndex p)).setEngine
      { s.engine.clearIndex p with queue := s.engine.queue.filter fun q => decide (responsePage q.number ≠ p) }).disturbPage p =
      s.setEngine (s.engine.told p) := by
    have hindex : (fun n => if responsePage n = p then none else s.engine.index[n]) =
        fun n => if n.val / 4 = p.val then none else s.engine.index[n] :=
      funext fun n => if_congr (responsePage_eq_iff n p) rfl rfl
    have hqueue : (fun q : Queued => decide (responsePage q.number ≠ p)) = fun q => decide (q.number.val / 4 ≠ p.val) :=
      funext fun q => decide_eq_decide.2 (not_congr (responsePage_eq_iff q.number p))
    rw [disturbPage_eq, EngineState.clearIndex, hindex, hqueue]
    rfl
  unfold State.confirmTold State.unqueuePage
  rw [if_pos hp]
  congr 1
  rw [foldl_latch_const, ← htold]
  by_cases h : s.engine.queue.filter (fun q => decide (q.number.val / 4 ≠ p.val)) = s.engine.queue
  · rw [if_pos h]
    exact congrArg (State.disturbPage p) (if_pos (hgone.2 h))
  · rw [if_neg h, ← disturbPage_latch]
    exact congrArg (State.disturbPage p) (if_neg fun hx => h (hgone.1 hx))

theorem confirmTold_of_image (s : State) {p : Fin 48} (hp : 32 ≤ p.val) : s.confirmTold p = s := if_neg (by omega)

/-! ### CONFIRM by the state it finds -/

/-- The store as a taken CONFIRM leaves it, before the engine is told: the operation begun, or aborted at once by a low
supply (R169 to R171). -/
def State.begunOn (s : State) (p : Fin 48) : State :=
  if s.supplyOk = true then
    { s with
      store :=
        { s.store with
          mode := if s.store.mode = .eraseSet then .erasing else .programming
          setupPage := none
          operationPage := some p
          pulses := if s.store.mode = .eraseSet then 0 else s.store.pulses
          programData := if s.store.mode = .eraseSet then s.store.programData else s.store.staging } }
  else
    ({ s with
      store :=
        { s.store with
          mode := .ready, setupPage := none, operationPage := none, pulses := 0
          programData := [], supplyError := true } } : State).latch .storeError

theorem beginOperation_eq (s : State) (p : Fin 48) : s.beginOperation p = (s.begunOn p).confirmTold p := by
  unfold State.beginOperation State.begunOn
  cases hm : decide (s.store.mode = .eraseSet) with
  | true =>
    have hset := of_decide_eq_true hm
    simp only [hset, if_true]
    rfl
  | false =>
    have hset := of_decide_eq_false hm
    simp only [hset, if_false]
    rfl

theorem engine_begunOn (s : State) (p : Fin 48) : (s.begunOn p).engine = s.engine := by
  unfold State.begunOn
  by_cases h : s.supplyOk = true
  · rw [if_pos h]
  · rw [if_neg h, engine_latch]

/-- CONFIRM in a setup state looks at the page it names (R167, R168). -/
theorem storeConfirm_of_setup (hsetup : s.store.mode = .eraseSet ∨ s.store.mode = .programSet) {page : Nat} {p : Fin 48}
    (hp : page = p.val) :
    s.storeConfirm page =
      if s.store.setupPage ≠ some p then (s.setStore s.store.breakSequence, .plain .sequence)
      else if s.confirmAllowed p = false then
        (s.setStore { s.store with mode := .ready, setupPage := none, protectError := true }, .plain .guarded)
      else (s.beginOperation p, .plain .ok) := by
  have hbusy : ¬s.store.mode.busy = true := by rcases hsetup with h | h <;> rw [h] <;> exact Bool.false_ne_true
  have hready : ¬s.store.mode = .ready := by rcases hsetup with h | h <;> rw [h] <;> nofun
  unfold State.storeConfirm
  rw [if_neg hbusy, if_neg hready, pageOf_val hp]

/-- CONFIRM of a page other than the setup's breaks the sequence (R167). -/
theorem storeConfirm_of_other (hsetup : s.store.mode = .eraseSet ∨ s.store.mode = .programSet) {page : Nat}
    (h : ∀ p : Fin 48, s.store.setupPage = some p → page ≠ p.val) :
    s.storeConfirm page = (s.setStore s.store.breakSequence, .plain .sequence) := by
  by_cases hpage : page < 48
  · rw [storeConfirm_of_setup hsetup (p := ⟨page, hpage⟩) rfl]
    exact if_pos fun hp => h _ hp rfl
  · have hbusy : ¬s.store.mode.busy = true := by rcases hsetup with h | h <;> rw [h] <;> exact Bool.false_ne_true
    have hready : ¬s.store.mode = .ready := by rcases hsetup with h | h <;> rw [h] <;> nofun
    unfold State.storeConfirm
    rw [if_neg hbusy, if_neg hready, pageOf_of_le (by omega)]

theorem confirmAllowed_iff (s : State) (p : Fin 48) :
    s.confirmAllowed p = true ↔ 8 ≤ p.val ∨ s.signalActive .commissionKey = true := by
  rw [State.confirmAllowed, Bool.or_eq_true, decide_eq_true_eq]

/-- Settles O44, by the state CONFIRM finds and the page it names. -/
theorem confirmBeginsTheOperation : Obligations.ConfirmBeginsTheOperation := by
  refine fun req page b s hload => ⟨fun hbusy => ?_, fun hready => ?_, fun hsetup => ⟨fun hother => ?_,
    fun p hsp hp => ⟨fun hlow hkey => ?_, fun hallowed begun told kept hbegun hkept htold => ?_⟩⟩⟩
  · exact exec_access (run := State.storeConfirm page.toNat) rfl hload (if_pos ((busy_iff _).2 hbusy))
  · exact exec_access (run := State.storeConfirm page.toNat) rfl hload
      ((if_neg (ready_not_busy hready)).trans (if_pos hready))
  · exact exec_access (run := State.storeConfirm page.toNat) rfl hload (storeConfirm_of_other hsetup hother)
  · refine exec_access (run := State.storeConfirm page.toNat) rfl hload ((storeConfirm_of_setup hsetup hp).trans ?_)
    have hrefused : s.confirmAllowed p = false := by
      rw [← Bool.not_eq_true, confirmAllowed_iff, hkey]
      rintro (h | h)
      · omega
      · exact absurd h Bool.false_ne_true
    rw [if_neg (not_not.2 hsp), if_pos hrefused]
    rfl
  · have hrun : s.storeConfirm page.toNat = ((s.begunOn p).confirmTold p, .plain .ok) := by
      have hpass : ¬s.confirmAllowed p = false := by
        rw [(confirmAllowed_iff s p).2 hallowed]
        exact fun h => Bool.false_ne_true h.symm
      rw [storeConfirm_of_setup hsetup hp, if_neg (not_not.2 hsp), if_neg hpass, beginOperation_eq]
    have hbegun' : s.begunOn p = begun := hbegun.symm
    have hexec := exec_access (req := req) (op := 14) (a := page) (b := b) (c := .storeConfirm req page b)
      (run := State.storeConfirm page.toNat) rfl hload hrun
    rw [hbegun'] at hexec
    have hengine : begun.engine = s.engine := by rw [← hbegun', engine_begunOn]
    refine ⟨fun himage => ?_, fun hresponse => ?_⟩
    · rw [hexec, confirmTold_of_image _ himage]
      rfl
    · have htold' : begun.setEngine (s.engine.told p) = told := by
        rw [htold, hkept]
        rfl
      rw [hexec, confirmTold_of_response _ hresponse, hengine, htold', ← hkept]
      rfl

end Sys2Proof.Machine
end

section
/-! Pages and response slots read as what they hold, and the ends of the store's operations (R138, R162, R169, R170,
R172, R174, R200). -/

namespace Sys2Proof.Machine

/-! ### Bytes at their places -/

theorem byteAt_append_right {before after : List Byte} {n : Nat} (h : before.length = n) (i : Nat) :
    byteAt (before ++ after) (n + i) = byteAt after i := by
  subst h
  simp only [byteAt, List.getD_eq_getElem?_getD, List.getElem?_append_right (Nat.le_add_right _ _),
    Nat.add_sub_cancel_left]

theorem byteAt_of_getElem? {bytes : List Byte} {i : Nat} {b : Byte} (h : bytes[i]? = some b) : byteAt bytes i = b := by
  simp [byteAt, h]

theorem word_eq_iff (a b c d : Byte) : a ++ b = c ++ d ↔ a = c ∧ b = d := by
  refine ⟨fun h => ?_, fun ⟨ha, hb⟩ => by rw [ha, hb]⟩
  have h' := congrArg (fun w : BitVec (8 + 8) => (w.extractLsb' 8 8, w.extractLsb' 0 8)) h
  simp only [BitVec.extractLsb'_append_eq_left, BitVec.extractLsb'_append_eq_right, Prod.mk.injEq] at h'
  exact h'

/-- A page is valid where its marker is 5AC3h and its check is that of its first 508 bytes (R162). -/
theorem pageValid_append {body : List Byte} (hlen : body.length = 508) (m n c d : Byte) :
    pageValid (body ++ [m, n, c, d]) = true ↔ m = 0x5A ∧ n = 0xC3 ∧ c ++ d = checkOf body := by
  have hat := byteAt_append_right (after := [m, n, c, d]) hlen
  have hbody : (body ++ [m, n, c, d]).take 508 = body := by rw [← hlen, List.take_left]
  rw [pageValid, Bool.and_eq_true, decide_eq_true_eq, decide_eq_true_eq, hat 0, hat 1, hat 2, hat 3, hbody, ← and_assoc]
  exact and_congr_left' (word_eq_iff m n 0x5A 0xC3)

/-! ### A response slot -/

/-- The six bytes of an action in a slot (R200). -/
def actionBytes (x : Byte × Byte × Word × Word) : List Byte :=
  [x.1, x.2.1, x.2.2.1.extractLsb' 8 8, x.2.2.1.extractLsb' 0 8, x.2.2.2.extractLsb' 8 8, x.2.2.2.extractLsb' 0 8]

theorem wordOf_extract (w : Word) : wordOf (w.extractLsb' 8 8) (w.extractLsb' 0 8) = w := by
  refine BitVec.eq_of_getLsbD_eq fun i hi => ?_
  rw [wordOf, BitVec.getLsbD_append, BitVec.getLsbD_extractLsb', BitVec.getLsbD_extractLsb']
  by_cases h : i < 8
  · simp [h]
  · simp only [h, if_false, show i - 8 < 8 by omega, decide_true, Bool.true_and]
    congr 1
    omega

/-- What an action's six bytes mean, its numeric fields clamped; none where it is skipped (R138, R200). -/
def actionTaken (kind target : Byte) (a b : Word) : Option Action :=
  match kind.toNat with
  | 1 =>
    if h : target.toNat < 6 then
      some (.fanRun ⟨target.toNat, h⟩ .fwd (max 0 (min 1000 a.toInt)).toNat (max 1 (min 500 b.toInt)).toNat)
    else none
  | 2 =>
    if h : target.toNat < 6 then
      some (.fanRun ⟨target.toNat, h⟩ .rev (max 0 (min 1000 a.toInt)).toNat (max 1 (min 500 b.toInt)).toNat)
    else none
  | 3 => if h : target.toNat < 6 then some (.fanHoldStop ⟨target.toNat, h⟩) else none
  | 4 => some (.doorOpen (target.extractLsb' 0 6))
  | 5 => some (.doorHold (target.extractLsb' 0 6))
  | 6 => if 128 ≤ target.toNat then some (.notice target) else none
  | _ => none

theorem clamp_eq_max {low high : Int} (h : low ≤ high) (v : Int) : clamp low high v = max low (min high v) := by
  rw [clamp_eq h]
  omega

theorem indexOf_natCast (n m : Nat) : indexOf n (m : Int) = if h : m < n then some ⟨m, h⟩ else none := by
  by_cases h : m < n
  · rw [dif_pos h]
    exact indexOf_val (⟨m, h⟩ : Fin n)
  · rw [dif_neg h]
    exact indexOf_of_le (by omega)

theorem map_indexOf {α : Type} (n m : Nat) (g : Fin n → α) :
    (indexOf n (m : Int)).map g = if h : m < n then some (g ⟨m, h⟩) else none := by
  rw [indexOf_natCast]
  split <;> rfl

theorem actionOf_eq (kind target : Byte) (a b : Word) : actionOf kind target a b = actionTaken kind target a b := by
  unfold actionOf actionTaken
  rw [clamp_eq_max (by decide), clamp_eq_max (by decide)]
  generalize kind.toNat = k
  match k with
  | 1 => exact map_indexOf ..
  | 2 => exact map_indexOf ..
  | 3 => exact map_indexOf ..
  | 6 =>
    change (if target.toNat < 128 then none else some (Action.notice target)) = _
    rw [← ite_not]
    exact if_congr Nat.not_lt rfl rfl
  | 0 | 4 | 5 | k + 7 => rfl

/-- Action i of a slot is what its six bytes mean. -/
theorem slotAction_eq {head rest : List Byte} {actions : List (Byte × Byte × Word × Word)} (hhead : head.length = 9)
    {i : Nat} {x : Byte × Byte × Word × Word} (hi : actions[i]? = some x) :
    slotAction (head ++ actions.flatMap actionBytes ++ rest) i = actionTaken x.1 x.2.1 x.2.2.1 x.2.2.2 := by
  have hat (j : Nat) (hj : j < 6) :
      byteAt (head ++ actions.flatMap actionBytes ++ rest) (9 + (6 * i + j)) = byteAt (actionBytes x) j := by
    have hlen (a : Byte × Byte × Word × Word) : (actionBytes a).length = 6 := rfl
    have hget : (actions.flatMap actionBytes)[6 * i + j]? = (actionBytes x)[j]? := by
      rw [getElem?_flatMap hlen hj, hi, Option.bind_some]
    have hsome : (actionBytes x)[j]? = some (actionBytes x)[j] := List.getElem?_eq_getElem (by rw [hlen]; exact hj)
    have hbound : 6 * i + j < (actions.flatMap actionBytes).length :=
      (List.getElem?_eq_some_iff.1 (hget.trans hsome)).1
    unfold byteAt
    rw [List.getD_eq_getElem?_getD, List.getD_eq_getElem?_getD, getElem?_middle hhead hbound, hget]
  have h1 (j : Nat) (hj : j < 6) := (congrArg (byteAt _) (by omega : 9 + j + 6 * i = 9 + (6 * i + j))).trans (hat j hj)
  unfold slotAction
  rw [show 9 + 6 * i = 9 + 0 + 6 * i from rfl, h1 0 (by omega), h1 1 (by omega), h1 2 (by omega), h1 3 (by omega),
    h1 4 (by omega), h1 5 (by omega), actionOf_eq]
  exact congrArg₂ (actionTaken x.1 x.2.1) (wordOf_extract _) (wordOf_extract _)

theorem filterMap_range_eq {α β : Type} (g : Nat → Option β) (k : α → Option β) (l : List α)
    (h : ∀ (i : Nat) (x : α), l[i]? = some x → g i = k x) : (List.range l.length).filterMap g = l.filterMap k := by
  induction l generalizing g with
  | nil => rfl
  | cons x l ih =>
    rw [List.length_cons, List.range_succ_eq_map, List.filterMap_cons, List.filterMap_map, h 0 x rfl,
      ih (g ∘ Nat.succ) fun i y hi => h (i + 1) y hi, List.filterMap_cons]

/-- What a slot holds (R138, R200). -/
theorem slotRecord_append (n : Fin 128) (m1 m0 number precedence enter successor h1 h0 count : Byte)
    {actions : List (Byte × Byte × Word × Word)} (rest : List Byte) (hcount : actions.length = min 12 count.toNat) :
    slotRecord
        ([m1, m0, number, precedence, enter, successor, h1, h0, count] ++ actions.flatMap actionBytes ++ rest) n =
      if m1 = 0x3C ∧ m0 = 0x96 ∧ number.toNat = n.val then
        some
          { precedence := max 1 (min 15 precedence.toNat)
            enter := decide (enter = 1)
            successor := if h : successor.toNat < 128 then some ⟨successor.toNat, h⟩ else none
            holdTime := min 3600 (h1 ++ h0).toNat
            actions := actions.filterMap fun x => actionTaken x.1 x.2.1 x.2.2.1 x.2.2.2 }
      else none := by
  have hmarker : (wordOf m1 m0 = 0x3C96 ∧ number.toNat = n.val) ↔ m1 = 0x3C ∧ m0 = 0x96 ∧ number.toNat = n.val := by
    rw [← and_assoc]
    exact and_congr_left' (word_eq_iff m1 m0 0x3C 0x96)
  have hprec : (clamp 1 15 (precedence.toNat : Int)).toNat = max 1 (min 15 precedence.toNat) := by
    rw [clamp_eq_max (by decide)]
    omega
  have hactions := filterMap_range_eq
    (slotAction
      ([m1, m0, number, precedence, enter, successor, h1, h0, count] ++ actions.flatMap actionBytes ++ rest))
    (fun x : Byte × Byte × Word × Word => actionTaken x.1 x.2.1 x.2.2.1 x.2.2.2) actions
    fun _ _ hi => slotAction_eq rfl hi
  rw [hcount] at hactions
  unfold slotRecord
  refine if_congr (decide_eq_true_iff.trans hmarker) (congrArg some ?_) rfl
  rw [ResponseRecord.mk.injEq]
  exact ⟨hprec, rfl, indexOf_natCast 128 successor.toNat, rfl, hactions⟩

end Sys2Proof.Machine
end

section
/-! The ends of an erase pulse and of a program (R169, R170, R172, R174). -/

namespace Sys2Proof.Machine

variable {s : State} {p : Fin 48}

theorem all_eq_blank_iff {l : List Byte} {n : Nat} (hlen : l.length = n) :
    l.all (fun b => decide (b = 0xFF)) = true ↔ l = List.replicate n 0xFF := by
  rw [List.eq_replicate_iff, List.all_eq_true]
  simp only [decide_eq_true_eq, hlen, true_and]

theorem erasePulseEnd_of_other (cells : List Byte) (h : s.store.mode ≠ .erasing ∨ s.store.service ≠ .idle) :
    erasePulseEndEffect cells s = s := by
  unfold erasePulseEndEffect
  split
  next hmode _ hservice => exact absurd h (by simp [hmode, hservice])
  next => rfl

theorem erasePulseEnd_of_due (cells : List Byte) (hmode : s.store.mode = .erasing) (hop : s.store.operationPage = some p)
    (hservice : s.store.service = .idle) :
    erasePulseEndEffect cells s =
      if afterPulse (s.store.page p) cells = List.replicate 512 0xFF then
        (s.setStore (s.store.setPage p (afterPulse (s.store.page p) cells)).operationOver).latch .storeDone
      else if s.store.pulses + 1 < 8 then
        s.setStore { s.store.setPage p (afterPulse (s.store.page p) cells) with pulses := s.store.pulses + 1 }
      else
        (s.setStore
          { (s.store.setPage p (afterPulse (s.store.page p) cells)).operationOver with eraseError := true }).latch
          .storeError := by
  unfold erasePulseEndEffect
  simp only [hmode, hop, hservice]
  have hblank := all_eq_blank_iff (length_afterPulse (s.store.page p) cells)
  generalize afterPulse (s.store.page p) cells = bytes at hblank ⊢
  generalize List.replicate 512 (0xFF : Byte) = blank at hblank ⊢
  exact if_congr hblank rfl rfl

theorem programCompletion_of_other (h : s.store.mode ≠ .programming ∨ ∃ n dropped page, s.store.service = .reading n dropped page) :
    programCompletionEffect s = s := by
  unfold programCompletionEffect
  split
  · rfl
  next hmode _ hservice =>
    obtain hm | ⟨n, dropped, page, hr⟩ := h
    · exact absurd hmode hm
    · exact absurd hr (hservice n dropped page)
  · rfl

/-- The store as a program that is over leaves it (R170). -/
def StoreState.written (x : StoreState) (p : Fin 48) : StoreState :=
  { (x.setPage p (x.programmed p)).operationOver with
    programError := x.programError || decide (x.programmed p ≠ x.asked) }

theorem cells_written (x : StoreState) (p : Fin 48) : (x.written p).cells = (x.setPage p (x.programmed p)).cells := by
  unfold StoreState.written
  generalize x.programmed p = bytes
  rfl

theorem page_of_cells {x y : StoreState} (h : x.cells = y.cells) (p : Fin 48) : x.page p = y.page p :=
  congrArg (fun m => Mem.readBytes m (pageBase p) 512) h

theorem page_written (x : StoreState) (p : Fin 48) : (x.written p).page p = x.programmed p := by
  rw [page_of_cells (cells_written x p)]
  exact StoreState.page_setPage_same _ _ _ (length_programmed x p)

theorem page_written_ne (x : StoreState) {p q : Fin 48} (h : q ≠ p) : (x.written p).page q = x.page q := by
  rw [page_of_cells (cells_written x p)]
  exact StoreState.page_setPage_ne _ _ _ _ (length_programmed x p) h.symm

theorem programCompletion_of_due (hmode : s.store.mode = .programming) (hop : s.store.operationPage = some p)
    (hservice : ∀ n dropped page, s.store.service ≠ .reading n dropped page) :
    programCompletionEffect s =
      (((s.setStore (s.store.written p)).latch
        (if s.store.programmed p = s.store.asked then .storeDone else .storeError)).rebuildFor p).serveWaiting := by
  unfold programCompletionEffect StoreState.written
  cases hs : s.store.service with
  | reading n dropped page => exact absurd hs (hservice n dropped page)
  | idle | waiting =>
    rw [hmode, hop]
    dsimp only
    generalize s.store.programmed p = bytes
    generalize s.store.asked = asked
    refine congrArg (fun x => (State.rebuildFor p x).serveWaiting) ?_
    by_cases h : bytes = asked
    · have herror : (s.store.programError || decide (bytes ≠ asked)) = s.store.programError := by simp [h]
      rw [if_pos h, herror]
      exact if_pos (decide_eq_true h)
    · have herror : (s.store.programError || decide (bytes ≠ asked)) = true := by simp [h]
      rw [if_neg h, herror]
      exact if_neg (by simp [h])

/-- The Response Index entries of a programmed response page (R174). -/
theorem rebuildFor_latch_setStore (x : StoreState) (k : EventKind) :
    ((s.setStore x).latch k).rebuildFor p =
      if p.val < 32 then
        ((s.setStore x).latch k).setEngine
          { s.engine with
            index :=
              tabulate fun n =>
                if n.val / 4 = p.val then pageIndexEntry (x.page p) n else s.engine.index[n] }
      else (s.setStore x).latch k := by
  unfold State.rebuildFor EngineState.rebuildIndex
  rw [engine_latch, store_latch]
  refine if_congr Iff.rfl (congrArg (State.setEngine _) ?_) rfl
  have hindex : (fun n => if responsePage n = p then pageIndexEntry (x.page p) n else s.engine.index[n]) =
      fun n => if n.val / 4 = p.val then pageIndexEntry (x.page p) n else s.engine.index[n] :=
    funext fun n => if_congr (responsePage_eq_iff n p) rfl rfl
  exact congrArg (fun f => { s.engine with index := tabulate f }) hindex

/-- Settles O45: the pages and slots by their bytes, an erase pulse and a program by what they leave in the page. -/
theorem erasePulsesAndProgramEnd : Obligations.ErasePulsesAndProgramEnd := by
  unfold Obligations.ErasePulsesAndProgramEnd
  refine ⟨fun body m n c d hlen => pageValid_append hlen m n c d, ?slots, fun cells s h => ?idlePulse, fun s h => ?idleProgram,
    ?pulse, ?program⟩
  case slots =>
    rintro n m1 m0 number precedence enter successor h1 h0 count actions rest slot taken htaken hcount rfl
    have hsame (x : Byte × Byte × Word × Word) : taken x.1 x.2.1 x.2.2.1 x.2.2.2 = actionTaken x.1 x.2.1 x.2.2.1 x.2.2.2 :=
      htaken ..
    have hslot := slotRecord_append n m1 m0 number precedence enter successor h1 h0 count rest hcount
    have hactions : (actions.filterMap fun x => taken x.1 x.2.1 x.2.2.1 x.2.2.2) =
        actions.filterMap fun x => actionTaken x.1 x.2.1 x.2.2.1 x.2.2.2 := List.filterMap_congr fun x _ => hsame x
    rw [hactions]
    refine ⟨fun h => hslot.trans (if_neg ?_), fun ha hb hc => hslot.trans (if_pos ⟨ha, hb, hc⟩)⟩
    rintro ⟨ha, hb, hc⟩
    exact h.elim (absurd ha) (Or.elim · (absurd hb) (absurd hc))
  case idlePulse => exact congrArg Host.Outcome.next (erasePulseEnd_of_other cells h)
  case idleProgram => exact congrArg Host.Outcome.next (programCompletion_of_other h)
  case pulse =>
    intro cells s pulsed p hmode hop hservice hpulsed
    have heff := erasePulseEnd_of_due cells hmode hop hservice
    have hlen := length_afterPulse (s.store.page p) cells
    have hgiven : afterPulse (s.store.page p) cells =
      (List.range 512).map fun i => (s.store.page p).getD i 0xFF ||| cells.getD i 0xFF := rfl
    rw [← hgiven] at hpulsed ⊢
    generalize afterPulse (s.store.page p) cells = bytes at *
    have hpage : pulsed.store.page p = bytes := by rw [hpulsed]; exact StoreState.page_setPage_same _ _ _ hlen
    have hothers (q : Fin 48) (hq : q ≠ p) : pulsed.store.page q = s.store.page q := by
      rw [hpulsed]; exact StoreState.page_setPage_ne _ _ _ _ hlen hq.symm
    refine ⟨hpage, hothers, fun hblank => ?_, fun hblank => ⟨fun hp => ?_, fun hp => ?_⟩⟩
    all_goals rw [hpage] at hblank
    · rw [hpulsed]
      exact congrArg Host.Outcome.next (heff.trans (if_pos hblank))
    · rw [hpulsed]
      exact congrArg Host.Outcome.next (heff.trans ((if_neg hblank).trans (if_pos (by omega))))
    · rw [hpulsed]
      exact congrArg Host.Outcome.next (heff.trans ((if_neg hblank).trans (if_neg (by omega))))
  case program =>
    intro s written p asked given hmode hop hservice hasked hgiven hwritten
    have hgiven' : s.store.programmed p = given := by rw [hgiven, hasked]; rfl
    have hasked' : s.store.asked = asked := hasked.symm
    have hstore : written = s.setStore (s.store.written p) := by
      rw [hwritten]
      unfold StoreState.written
      rw [hgiven', hasked']
      rfl
    have heff := programCompletion_of_due hmode hop hservice
    rw [rebuildFor_latch_setStore, page_written, ← hstore, hgiven', hasked'] at heff
    have hpages : written.store = s.store.written p := by rw [hstore]; rfl
    refine ⟨?_, fun q hq => ?_, _, rfl, congrArg Host.Outcome.next heff⟩
    · rw [hpages, page_written, hgiven']
    · rw [hpages, page_written_ne s.store hq]

end Sys2Proof.Machine
end

section
/-! The store supply, the suspension of an erase, and the end of a slot read (R169, R171 to R173). -/

namespace Sys2Proof.Machine

variable {s : State} {p : Fin 48}

/-! ### The slot service by the state it finds -/

/-- A request served by the store state it finds (R172). -/
def StoreState.served (x : StoreState) (n : Fin 128) (dropped : Bool) : StoreState :=
  { x with
    service :=
      if x.mode = .ready ∨ x.mode = .eraseSet ∨ x.mode = .programSet then
        .reading n dropped (Mem.readBytes x.cells (512 * (n.val / 4)) 512)
      else .waiting n dropped }

theorem serve_eq (s : State) (n : Fin 128) (dropped : Bool) :
    s.serve { number := n, dropped := dropped } = s.setStore (s.store.served n dropped) := by
  have hcase : ∀ m : StoreMode, s.store.mode = m →
      s.serve { number := n, dropped := dropped } =
        s.setStore
          { s.store with
            service :=
              if m = .ready ∨ m = .eraseSet ∨ m = .programSet then
                .reading n dropped (s.store.page (responsePage n))
              else .waiting n dropped } := by
    intro m hm
    unfold State.serve State.beginRead
    rw [hm]
    cases m <;> simp
  exact hcase _ rfl

theorem serveWaiting_of_waiting {n : Fin 128} {dropped : Bool} (h : s.store.service = .waiting n dropped) :
    s.serveWaiting = s.setStore (s.store.served n dropped) := by
  unfold State.serveWaiting
  rw [h]
  exact serve_eq s n dropped

theorem serveWaiting_of_other (h : ∀ n dropped, s.store.service ≠ .waiting n dropped) : s.serveWaiting = s := by
  unfold State.serveWaiting
  split
  next n dropped hw => exact absurd hw (h n dropped)
  next => rfl

theorem resumed_eq (x : StoreState) :
    x.resumed =
      { x with
        mode :=
          if x.mode = .eraseSuspended then if x.operationPage = none then .ready else .erasing else x.mode } := by
  unfold StoreState.resumed
  by_cases h : x.mode = .eraseSuspended
  · rw [if_pos h, if_pos h]
    cases x.operationPage <;> rfl
  · rw [if_neg h, if_neg h]

theorem endRead_of_last (h : s.store.behind = []) : s.endRead = s.setStore { s.store.resumed with service := .idle } := by
  have hb : (s.setStore s.store.resumed).store.behind = [] := by
    rw [← h, resumed_eq]
    rfl
  unfold State.endRead State.serviceIdle
  rw [hb]
  rfl

theorem endRead_of_next {r : SlotRequest} {rest : List SlotRequest} (h : s.store.behind = r :: rest) :
    s.endRead = s.setStore (StoreState.served { s.store.resumed with behind := rest } r.number r.dropped) := by
  have hb : (s.setStore s.store.resumed).store.behind = r :: rest := by
    rw [← h, resumed_eq]
    rfl
  unfold State.endRead State.serviceIdle
  rw [hb]
  exact serve_eq _ r.number r.dropped

/-! ### A pulse broken off -/

theorem readBytes_setPage_same (x : StoreState) (p : Fin 48) {bytes : List Byte} (h : bytes.length = 512) :
    Mem.readBytes (x.setPage p bytes).cells (512 * p.val) 512 = bytes := StoreState.page_setPage_same x p bytes h

theorem readBytes_setPage_ne (x : StoreState) {p q : Fin 48} {bytes : List Byte} (h : bytes.length = 512) (hq : q ≠ p) :
    Mem.readBytes (x.setPage p bytes).cells (512 * q.val) 512 = x.page q :=
  StoreState.page_setPage_ne x p q bytes h hq.symm

/-- The page a broken-off pulse leaves (R169, R173). -/
def State.brokenPage (s : State) (p : Fin 48) : List Byte :=
  List.zipWith (fun old free => old ||| free) (s.store.page p) (s.freeBytes 512)

theorem length_brokenPage (s : State) (p : Fin 48) : (s.brokenPage p).length = 512 := by
  simp [State.brokenPage, length_freeBytes]

/-- A pulse broken off only sets bits. -/
theorem and_brokenPage (s : State) (p : Fin 48) (i : Nat) :
    (s.store.page p).getD i 0xFF &&& (s.brokenPage p).getD i 0xFF = (s.store.page p).getD i 0xFF := by
  have hold := StoreState.length_page s.store p
  have hnew := length_freeBytes s 512
  unfold State.brokenPage
  generalize s.store.page p = old at hold ⊢
  generalize s.freeBytes 512 = new at hnew ⊢
  simp only [List.getD_eq_getElem?_getD, List.getElem?_zipWith]
  by_cases h : i < 512
  · rw [List.getElem?_eq_getElem (hold ▸ h), List.getElem?_eq_getElem (hnew ▸ h)]
    refine BitVec.eq_of_getLsbD_eq fun j _ => ?_
    rw [BitVec.getLsbD_and]
    simpa using Or.inl
  · rw [List.getElem?_eq_none (l := old) (by omega), List.getElem?_eq_none (l := new) (by omega)]
    rfl

theorem eraseSuspend_of_other (h : s.store.mode ≠ .erasing ∨ ∀ n dropped, s.store.service ≠ .waiting n dropped) :
    eraseSuspendEffect s = s := by
  unfold eraseSuspendEffect
  split
  next n dropped hmode hservice => exact h.elim (absurd hmode) fun h => absurd hservice (h n dropped)
  next => rfl

theorem eraseSuspend_of_due {n : Fin 128} {dropped : Bool} (hmode : s.store.mode = .erasing)
    (hservice : s.store.service = .waiting n dropped) (hop : s.store.operationPage = some p) :
    eraseSuspendEffect s =
      { s with
        freeCount := s.freeCount + 512
        store :=
          { s.store.setPage p (s.brokenPage p) with
            mode := .eraseSuspended
            service := .reading n dropped ((s.store.setPage p (s.brokenPage p)).page (responsePage n)) } } := by
  unfold eraseSuspendEffect State.partErase State.brokenPage
  rw [hmode, hservice, hop]
  dsimp only
  generalize List.zipWith _ _ _ = bytes
  rfl

/-! ### A low supply -/

theorem smonChange_of_kept {level : Bool} (h : level = s.supplyOk) : smonChangeEffect level s = s := if_pos h

theorem smonChange_of_harmless {level : Bool} (h : level ≠ s.supplyOk)
    (hidle : level = true ∨ s.store.operationPage = none ∨ s.store.mode.busy = false) :
    smonChangeEffect level s = { s with supplyOk := level } := by
  refine (if_neg h).trans (if_neg ?_)
  rintro ⟨hlow, hbusy, hop⟩
  rcases hidle with h | h | h
  · exact Bool.false_ne_true (hlow.symm.trans h)
  · rw [h] at hop
    exact Bool.false_ne_true hop
  · exact Bool.false_ne_true (h.symm.trans hbusy)

theorem smonChange_of_abort (hsupply : s.supplyOk = true) (hop : s.store.operationPage = some p)
    (hbusy : s.store.mode.busy = true) :
    smonChangeEffect false s =
      (({ s with
        supplyOk := false
        freeCount := s.freeCount + 512
        store := (s.store.setPage p (s.freeBytes 512)).aborted } : State).latch .storeError).serveWaiting := by
  unfold smonChangeEffect State.scramblePage
  rw [if_neg (by rw [hsupply]; exact Bool.false_ne_true), hop]
  have hbytes : ({ s with supplyOk := false } : State).freeBytes 512 = s.freeBytes 512 := rfl
  dsimp only
  rw [hbytes]
  generalize s.freeBytes 512 = bytes
  exact if_pos ⟨rfl, hbusy, rfl⟩

/-- Settles O46: the supply, ERASE_SUSPEND and the end of a read, each by the store state it finds. -/
theorem supplyAbortsAndReadsSuspend : Obligations.SupplyAbortsAndReadsSuspend := by
  unfold Obligations.SupplyAbortsAndReadsSuspend
  refine ⟨⟨fun level s => ⟨fun h => ?kept, fun h hidle => ?harmless, fun p hlow hsupply hop hbusy => ?abort⟩,
    fun s h => ?idle, fun s n dropped p hmode hservice hop => ?suspend⟩, fun s served resumed hserved hresumed => ?read⟩
  case kept => exact congrArg Host.Outcome.next (smonChange_of_kept h)
  case harmless => exact congrArg Host.Outcome.next (smonChange_of_harmless h hidle)
  case abort =>
    rw [hlow]
    have heff := smonChange_of_abort hsupply hop hbusy
    have hlen := length_freeBytes s 512
    generalize s.freeBytes 512 = bytes at heff hlen
    exact ⟨(s.store.setPage p bytes).cells, s.freeCount + 512, fun q hq => readBytes_setPage_ne _ hlen hq,
      congrArg Host.Outcome.next heff⟩
  case idle => exact congrArg Host.Outcome.next (eraseSuspend_of_other h)
  case suspend =>
    have hlen := length_brokenPage s p
    have heff := eraseSuspend_of_due hmode hservice hop
    have hand := and_brokenPage s p
    generalize s.brokenPage p = broken at hlen heff hand
    exact ⟨(s.store.setPage p broken).cells, s.freeCount + 512, broken, congrArg Host.Outcome.next heff,
      fun q hq => readBytes_setPage_ne _ hlen hq, readBytes_setPage_same _ _ hlen, hand⟩
  case read =>
    have hsame (x : StoreState) (n : Fin 128) (dropped : Bool) : x.served n dropped = served x n dropped :=
      (hserved x n dropped).symm
    have hresume : s.store.resumed = resumed := (resumed_eq s.store).trans hresumed.symm
    refine ⟨fun h => ?_, fun r rest h => ?_, fun n dropped h => ?_, serveWaiting_of_other⟩
    · exact (endRead_of_last h).trans (by rw [hresume]; rfl)
    · exact (endRead_of_next h).trans (by rw [hresume, hsame]; rfl)
    · exact (serveWaiting_of_waiting h).trans (by rw [hsame]; rfl)

end Sys2Proof.Machine
end

section
/-! READ ENTRIES (R190, R191). -/

namespace Sys2Proof.Machine

variable {s : State}

theorem length_flatMap_of_forall {α β : Type} {g : α → List β} {n : Nat} (l : List α) (h : ∀ a ∈ l, (g a).length = n) :
    (l.flatMap g).length = l.length * n := by
  induction l with
  | nil => exact (Nat.zero_mul n).symm
  | cons a l ih =>
    rw [List.flatMap_cons, List.length_append, h a List.mem_cons_self, ih fun b hb => h b (List.mem_cons_of_mem a hb),
      List.length_cons, Nat.add_comm, ← Nat.succ_mul]

theorem length_toList_flatMap {α β : Type} {g : α → List β} {n k : Nat} (v : Vector α k) (h : ∀ a, (g a).length = n) :
    (v.toList.flatMap g).length = k * n := by
  rw [length_flatMap_of_forall _ fun a _ => h a, Vector.length_toList]

theorem length_rowOf {α : Type} {n k : Nat} {words : α → List Int} (v : Vector α n) {i : Nat} (hi : i < n)
    (h : ∀ a, (words a).length = k) : (rowOf words v i).length = k := by
  rw [rowOf, dif_pos hi, h]

theorem length_unitRow {n k : Nat} {words : Fin n → List Int} {i : Nat} (hi : i < n) (h : ∀ a, (words a).length = k) :
    (unitRow n words i).length = k := by
  rw [unitRow, dif_pos hi, h]

theorem length_calibrationWords (e : CalibrationEntry) : e.words.length = 17 := by
  unfold CalibrationEntry.words
  rw [List.length_cons, length_toList_flatMap (g := fun p : Breakpoint => [(p.raw : Int), p.value]) (n := 2) e.points
    fun _ => rfl]

theorem length_demandWords (d : Option Demand) : (demandWords d).length = 4 := by cases d <;> rfl

theorem length_fanStatusWords (s : State) (f : Fin 6) : (s.fanStatusWords f).length = 36 := by
  unfold State.fanStatusWords
  dsimp only
  rw [List.length_append, List.length_append, List.length_append, length_demandWords, length_demandWords,
    length_toList_flatMap _ fun _ => length_demandWords _]
  rfl

theorem length_engineStatusWords (s : State) : s.engineStatusWords.length = 42 := by
  have hqueue (q : Option Queued) : (queueWords q).length = 2 := by cases q <;> rfl
  have hfetch (f : Option Fetch) : (fetchWords f).length = 3 := by cases f <;> rfl
  have hactive (a : Option ActiveResponse) : (activeWords a).length = 7 := by cases a <;> rfl
  unfold State.engineStatusWords
  dsimp only
  rw [List.length_append, List.length_append, List.length_append, length_flatMap_of_forall _ fun _ _ => hqueue _, hfetch,
    length_toList_flatMap _ hactive, List.length_range]
  rfl

/-- Every entry of a table has the table's length (R190). -/
theorem length_entryWords (s : State) (t : TableId) {i : Nat} (hi : i < t.limit) :
    (s.entryWords t i).length = t.length := by
  unfold State.entryWords
  rw [List.length_map]
  cases t with
  | calibration => exact length_rowOf _ hi length_calibrationWords
  | responseIndex => exact length_rowOf _ hi fun x => by cases x <;> rfl
  | fanStatus => exact length_unitRow hi (length_fanStatusWords s)
  | engineStatus => exact length_engineStatusWords s
  | node | lineStatus => rfl
  | doorStatus => exact length_unitRow hi fun _ => rfl
  | channel | fan | door | watch | neighbour | trigger | point | channelStatus => exact length_rowOf _ hi fun _ => rfl

theorem length_readWords (s : State) (t : TableId) (first count : Nat) :
    (s.readWords t first count).length = t.readCount first count * t.length := by
  unfold State.readWords
  have hrow : ∀ i ∈ List.range (t.readCount first count), (s.entryWords t (first + i)).length = t.length := by
    intro i hi
    have hcount : t.readCount first count ≤ t.limit - first := (Nat.min_le_right _ _).trans (Nat.min_le_left _ _)
    have := List.mem_range.1 hi
    exact length_entryWords s t (by omega)
  rw [length_flatMap_of_forall _ hrow, List.length_range]

theorem length_readWords_le (s : State) (t : TableId) (first count : Nat) : (s.readWords t first count).length ≤ 56 := by
  have hcount : t.readCount first count ≤ 56 / t.length := (Nat.min_le_right _ _).trans (Nat.min_le_right _ _)
  rw [length_readWords]
  exact (Nat.mul_le_mul_right _ hcount).trans (Nat.div_mul_le_self 56 t.length)

theorem cutShort_eq_false_iff (t : TableId) (first count : Nat) :
    t.cutShort first count = false ↔ first + count ≤ t.limit ∧ first < t.limit := by
  rw [TableId.cutShort, decide_eq_false_iff_not]
  omega

/-- Settles O49: the words of the entries returned, counted entry by entry. -/
theorem readEntriesReturnsWholeEntries : Obligations.ReadEntriesReturnsWholeEntries := by
  unfold Obligations.ReadEntriesReturnsWholeEntries
  refine fun req table first count s hload => ⟨fun hnone => exec_access rfl hload ?_, fun t n ht hn => ?_⟩
  · rw [State.readEntries, tableOf_eq_none hnone]
    rfl
  · have hstatus : (if t.cutShort first.toNat count.toNat then AccessStatus.outOfField else .ok) =
        if first.toNat + count.toNat ≤ t.limit ∧ first.toNat < t.limit then .ok else .outOfField := by
      rw [← ite_not]
      exact if_congr (by rw [Bool.not_eq_true, cutShort_eq_false_iff]) rfl rfl
    obtain rfl : n = t.readCount first.toNat count.toNat := hn
    refine ⟨s.readWords t first.toNat count.toNat, rfl, length_readWords .., length_readWords_le .., exec_access rfl hload ?_⟩
    rw [State.readEntries, tableOf_eq_some_iff.2 ht, ← hstatus]

end Sys2Proof.Machine
end

section
/-! Point values and the event latch through table access (R183, R195). -/

namespace Sys2Proof.Machine

variable {s : State}

/-! ### Point values read -/

theorem pointValue_of_general {n : Fin 64} (h : (s.pointTable[n]).function = .generalOut) :
    s.pointValue n = (s.points[n]).latch := by
  unfold State.pointValue State.outputActive State.pointEntry
  rw [h]
  rfl

theorem pointValue_of_unit {n : Fin 64} (h : (s.pointTable[n]).function ≠ .generalOut) :
    s.pointValue n = ((s.pointTable[n]).signal.bind s.unitOutput).getD (s.pointActive n) := by
  unfold State.pointValue State.outputActive State.pointEntry
  split
  next hg => exact absurd hg h
  next => rfl

theorem Fan.runOutput_eq_decide (x : Fan) :
    x.runOutput = decide (x.mode = .starting ∨ x.mode = .running ∨ x.mode = .stopping) := by
  unfold Fan.runOutput
  cases x.mode <;> rfl

/-- The words a POINT VALUE READ returns (R183). -/
theorem getElem?_pointValueWords {first count i : Nat} {n : Fin 64} (hi : i < pointReadCount first count)
    (hn : n.val = first + i) :
    ((List.range (pointReadCount first count)).map fun i => s.pointValueWord (first + i))[i]? =
      some (if s.pointValue n = true then 1 else 0) := by
  rw [List.getElem?_map, List.getElem?_range hi, Option.map_some, ← hn]
  exact congrArg some (dif_pos n.isLt)

/-! ### Point values written -/

theorem writeLatch_eq (s : State) (i : Nat) (v : Bool) :
    s.writeLatch i v =
      { s with points := tabulate fun n => if n.val = i then { s.points[n] with latch := v } else s.points[n] } := by
  unfold State.writeLatch
  split
  next hi =>
    refine congrArg (fun p => { s with points := p }) (Vector.ext fun k hk => ?_)
    rw [getElem_tabulate, Vector.getElem_set]
    by_cases h : i = k
    · subst h
      rw [if_pos rfl, if_pos rfl]
      rfl
    · rw [if_neg h, if_neg (Ne.symm h)]
      rfl
  next hi =>
    refine congrArg (fun p => { s with points := p }) (Vector.ext fun k hk => ?_)
    rw [getElem_tabulate, if_neg (by dsimp only; omega)]
    rfl

/-- What a run of latch values makes of point k (R183). -/
def latchWritten (first : Nat) (ws : List Word) (k : Nat) (x : Point) : Point :=
  if first ≤ k ∧ k < first + ws.length then { x with latch := decide (ws[k - first]? = some 1) } else x

theorem latchWritten_cons (first k : Nat) (w : Word) (ws : List Word) (x : Point) :
    latchWritten first (w :: ws) k x =
      latchWritten (first + 1) ws k (if k = first then { x with latch := decide (w = 1) } else x) := by
  unfold latchWritten
  rw [List.length_cons]
  by_cases hk : k = first
  · have hafter : ¬(first + 1 ≤ k ∧ k < first + 1 + ws.length) := by omega
    rw [if_pos hk, if_neg hafter, if_pos (by omega), hk, Nat.sub_self]
    simp
  · rw [if_neg hk]
    by_cases hrun : first + 1 ≤ k ∧ k < first + 1 + ws.length
    · rw [if_pos hrun, if_pos (by omega), show k - first = k - (first + 1) + 1 by omega, List.getElem?_cons_succ]
    · rw [if_neg hrun, if_neg (by omega)]

/-- The latches of a run written (R183). -/
theorem writeLatches_eq (s : State) (first : Nat) (ws : List Word) :
    s.writeLatches first ws = { s with points := tabulate fun n => latchWritten first ws n.val s.points[n] } := by
  induction ws generalizing s first with
  | nil =>
    refine congrArg (fun p => { s with points := p }) (Vector.ext fun k hk => ?_)
    rw [getElem_tabulate, latchWritten, if_neg (by dsimp only [List.length_nil]; omega)]
    rfl
  | cons w ws ih =>
    rw [State.writeLatches, ih, writeLatch_eq]
    refine congrArg (fun p => { s with points := p }) (Vector.ext fun k hk => ?_)
    simp only [getElem_tabulate, Fin.getElem_fin, latchWritten_cons]

theorem firstBadValue_eq_none {ws : List Word} (h : ∀ k < ws.length, ws[k]? = some 0 ∨ ws[k]? = some 1) :
    firstBadValue ws = none := by
  rw [firstBadValue, List.findIdx?_eq_none_iff]
  intro w hw
  obtain ⟨k, hk, rfl⟩ := List.getElem_of_mem hw
  have := h k hk
  rw [List.getElem?_eq_getElem hk, Option.some.injEq, Option.some.injEq] at this
  simpa using fun h0 => this.resolve_left h0

theorem firstBadValue_eq_some {ws : List Word} {k : Nat} (hk : k < ws.length)
    (hgood : ∀ j < k, ws[j]? = some 0 ∨ ws[j]? = some 1) (h0 : ws[k]? ≠ some 0) (h1 : ws[k]? ≠ some 1) :
    firstBadValue ws = some k := by
  rw [List.getElem?_eq_getElem hk, ne_eq, Option.some.injEq] at h0 h1
  rw [firstBadValue, List.findIdx?_eq_some_iff_getElem]
  refine ⟨hk, decide_eq_true ⟨h0, h1⟩, fun j hj => ?_⟩
  have := hgood j hj
  rw [List.getElem?_eq_getElem (hj.trans hk), Option.some.injEq, Option.some.injEq] at this
  simpa using fun h0 => this.resolve_left h0

theorem pointValueWrite_of_length {first count : Nat} {data : List Byte} (h : (wordsOf data).length ≠ count) :
    s.pointValueWrite first count data = (s, .bad (first + min count (wordsOf data).length)) := by
  unfold State.pointValueWrite
  dsimp only
  rcases Nat.lt_or_gt_of_ne h with h | h
  · rw [if_pos h, Nat.min_eq_right h.le]
  · rw [if_neg h.not_gt, if_pos h, Nat.min_eq_left h.le]

theorem pointValueWrite_of_bad {first count k : Nat} {data : List Byte} (h : (wordsOf data).length = count)
    (hbad : firstBadValue (wordsOf data) = some k) :
    s.pointValueWrite first count data = (s, .bad (first + k)) := by
  unfold State.pointValueWrite
  dsimp only
  rw [if_neg (by omega), if_neg (by omega), hbad]

theorem pointValueWrite_of_good {first count : Nat} {data : List Byte} (h : (wordsOf data).length = count)
    (hgood : firstBadValue (wordsOf data) = none) :
    s.pointValueWrite first count data =
      if 64 < first + count then (s, .plain .outOfField)
      else ((s.writeLatches first (wordsOf data)).followed, .plain .ok) := by
  unfold State.pointValueWrite
  dsimp only
  rw [if_neg (by omega), if_neg (by omega), hgood, followPins_eq]

theorem indexWord_of_lt {i : Nat} (h : i < 65536) : indexWord i = BitVec.ofNat 16 i := if_pos h

/-! ### The event latch -/

/-- A kind latched leaves the kinds that stand latched. -/
theorem latched_latch_of_latched {j : EventKind} (k : EventKind) (h : s.latched j = true) :
    (s.latch k).latched j = true := by
  have hset (t : State) (k : EventKind) (ht : t.latched j = true) : (t.setEvent k).latched j = true := by
    simp [latched_setEvent, ht]
  have hloss (t : State) (ht : t.latched j = true) : t.latchInsertLoss.latched j = true := by
    unfold State.latchInsertLoss
    dsimp only
    split_ifs
    · exact ht
    · exact hset t .insertLoss ht
    · exact hset t .insertLoss ht
  by_cases hl : s.latched k = true
  · rw [latch_of_latched hl]
    exact h
  · unfold State.latch
    rw [if_neg hl]
    dsimp only
    split_ifs
    · unfold State.notify State.queueToAll
      dsimp only
      split_ifs
      · exact hloss _ (hset s k h)
      · exact hset s k h
      · exact hset s k h
    · exact hset s k h

theorem latched_foldl_latch {j : EventKind} (l : List EventKind) (h : s.latched j = true ∨ j ∈ l) :
    (l.foldl State.latch s).latched j = true := by
  induction l generalizing s with
  | nil => exact h.resolve_right (List.not_mem_nil)
  | cons k l ih =>
    refine ih ?_
    rcases h with h | h
    · exact .inl (latched_latch_of_latched k h)
    · rcases List.mem_cons.1 h with rfl | h
      · exact .inl (latched_latch s j)
      · exact .inr h

/-- Every bit of the event latch is a kind's. -/
theorem exists_kind_code {i : Nat} (hi : i < 24) : ∃ k ∈ EventKind.all, k.code = i := by
  have hcodes : EventKind.all.map EventKind.code = List.range 24 := by decide
  have hmem : i ∈ EventKind.all.map EventKind.code := hcodes ▸ List.mem_range.2 hi
  exact List.mem_map.1 hmem

theorem events_foldl_latch (s : State) (mask : BitVec 24) :
    (s.events ||| mask) &&& ((EventKind.all.filter fun k => mask.getLsbD k.code).foldl State.latch s).events =
      s.events ||| mask := by
  refine BitVec.eq_of_getLsbD_eq fun i hi => ?_
  obtain ⟨k, hk, rfl⟩ := exists_kind_code hi
  rw [BitVec.getLsbD_and, BitVec.getLsbD_or, Bool.and_eq_left_iff_imp, Bool.or_eq_true]
  intro h
  exact latched_foldl_latch _ (h.imp_right fun hm => List.mem_filter.2 ⟨hk, hm⟩)

/-- A byte within the low 16 bits of the latch is a byte of the latch. -/
theorem extractLsb'_lowWord (w : BitVec 24) {k : Nat} (hk : k + 8 ≤ 16) :
    (w.extractLsb' 0 16).extractLsb' k 8 = w.extractLsb' k 8 := by
  refine BitVec.eq_of_getLsbD_eq fun i hi => ?_
  have hbit : k + i < 16 := by omega
  simp only [BitVec.getLsbD_extractLsb', hi, hbit, decide_true, Bool.true_and, Nat.zero_add]

theorem bytesOf_eventWords (s : State) :
    bytesOf s.eventWords =
      [s.events.extractLsb' 8 8, s.events.extractLsb' 0 8, 0, s.events.extractLsb' 16 8] := by
  have hhigh : ((0 : BitVec 8) ++ s.events.extractLsb' 16 8).extractLsb' 8 8 = 0 := BitVec.extractLsb'_append_eq_left
  have hlow : ((0 : BitVec 8) ++ s.events.extractLsb' 16 8).extractLsb' 0 8 = s.events.extractLsb' 16 8 :=
    BitVec.extractLsb'_append_eq_right
  show [_, _, _, _] = [_, _, _, _]
  rw [extractLsb'_lowWord _ (by decide), extractLsb'_lowWord _ (by decide), hhigh, hlow]

theorem latchMask_eq (mask : BitVec 24) (s : State) :
    s.latchMask mask = (EventKind.all.filter fun k => mask.getLsbD k.code).foldl State.latch s :=
  (List.foldl_filter ..).symm

/-! ### The accesses -/

/-- Settles O56: each access on the state by its own lemma, and the answer read back. -/
theorem pointValuesAndEventMasks : Obligations.PointValuesAndEventMasks := by
  unfold Obligations.PointValuesAndEventMasks
  refine fun req a first count data s _ hload => ⟨?read, fun hlen => ?short, fun hlen => ⟨fun k hk hgood h0 h1 hfield => ?bad,
    fun hgood => ?good⟩, fun low high mask cleared set hmask hcleared hset => ?events⟩
  case read =>
    refine ⟨(List.range (pointReadCount first.toNat count.toNat)).map fun i => s.pointValueWord (first.toNat + i),
      exec_access rfl hload ?_, ?_, fun i n hi hn => ?_⟩
    · rw [State.pointValueRead, List.length_map, List.length_range]
      refine congrArg (Prod.mk s) ?_
      rw [Answer.mk.injEq]
      refine ⟨?_, rfl, rfl⟩
      rw [← ite_not]
      exact if_congr Nat.not_lt rfl rfl
    · rw [List.length_map, List.length_range]
      rfl
    · rw [List.length_map, List.length_range] at hi
      rw [getElem?_pointValueWords hi hn]
      refine congrArg some (congrArg (fun b : Bool => if b = true then (1 : Word) else 0) ?_)
      by_cases hg : (s.pointTable[n]).function = .generalOut
      · rw [pointValue_of_general hg, hg]
      · rw [pointValue_of_unit hg]
        split
        next h => exact absurd h hg
        next =>
          cases (s.pointTable[n]).signal with
          | none => rfl
          | some sig =>
            cases sig with
            | fanRun f => exact Fan.runOutput_eq_decide _
            | _ => rfl
  case short =>
    exact ⟨_, exec_access rfl hload (pointValueWrite_of_length hlen), fun h => indexWord_of_lt h⟩
  case bad =>
    rw [← indexWord_of_lt hfield]
    exact exec_access rfl hload (pointValueWrite_of_bad hlen (firstBadValue_eq_some (hlen ▸ hk) hgood h0 h1))
  case good =>
    have hnone := firstBadValue_eq_none (hlen.symm ▸ hgood)
    refine ⟨fun h => exec_access rfl hload ((pointValueWrite_of_good hlen hnone).trans (if_pos h)), fun h => ?_⟩
    have hwrite := (pointValueWrite_of_good (s := s) (first := first.toNat) hlen hnone).trans (if_neg h.not_gt)
    rw [writeLatches_eq] at hwrite
    unfold latchWritten at hwrite
    rw [hlen] at hwrite
    exact exec_access rfl hload hwrite
  case events =>
    have hmask' : mask = eventMask low high := hmask
    rw [hset, hcleared]
    refine ⟨events_foldl_latch s mask, Config.wordReplyCount 5, Config.wordReplyCount 6, exec_access rfl hload ?_, exec_access rfl hload ?_⟩
    · rw [State.eventClear, bytesOf_eventWords, hmask']
    · rw [State.eventSet, latchMask_eq, bytesOf_eventWords, hmask']

end Sys2Proof.Machine
end

section
/-! A door that takes a change of a contact, and its gallery fan (R74 to R76, R84, R90 to R97). -/

namespace Sys2Proof.Machine

/-! ### The contact that changed -/

/-- The signal of a contact. -/
def Contact.signal (d : Fin 6) : Contact → Signal
  | .closedContact => .doorClosed d
  | .openContact => .doorOpen d

variable {s : State} {d : Fin 6}

theorem shows_eq_opened_iff :
    s.shows d = .opened ↔ s.signalActive (.doorClosed d) = false ∧ s.signalActive (.doorOpen d) = true := by
  unfold State.shows
  cases s.signalActive (.doorClosed d) <;> cases s.signalActive (.doorOpen d) <;> simp

/-! ### The entries into states a contact brings -/

theorem doorContactFaults_of_conflict (e : DoorEntry) (assigned : Bool) (h : s.shows d = .conflict) :
    s.doorContactFaults d = s.doorBecomes d (Door.derived e assigned (s.shows d) (s.door d)) := by
  rw [doorContactFaults_eq, Door.derived, if_pos (.inr h)]
  rfl

theorem doorOpens_eq_derived : s.doorOpens d = s.doorBecomes d (Door.derived s.doorTable[d] true .opened (s.door d)) := rfl

theorem doorShuts_eq_derived (h : s.shows d ≠ .opened) :
    s.doorShuts d = s.doorBecomes d (Door.derived s.doorTable[d] true .closed (s.door d)) := by
  rw [doorShuts_eq s d h]
  refine congrArg (fun r => s.doorBecomes d r) ?_
  have hderived : Door.derived s.doorTable[d] true .closed (s.door d) =
      if (s.door d).lineHold = true ∨ ∃ k : Fin 4, (s.door d).responseHolds[k] = true then
        ((s.door d).toOpening (s.doorEntry d), [.doorShut], none)
      else ((s.door d).toRest .closed, [.doorShut], none) := rfl
  rw [hderived]
  by_cases hheld : (s.door d).held = true
  · rw [if_pos hheld]
    exact (if_pos ((Door.held_iff _).1 hheld)).symm
  · rw [if_neg hheld]
    exact (if_neg (mt (Door.held_iff _).2 hheld)).symm

theorem doorBecomes_of_event (s : State) (d : Fin 6) (x : Door) (ks : List KeyKind) (e : EventKind) :
    s.doorBecomes d (x, ks, some e) =
      { s.latch e with doors := s.doors.set d x, keys := s.keys ++ ks.map (doorKey d) } :=
  latch_withDoors s e _ _

theorem doorForced_eq (s : State) (d : Fin 6) :
    s.doorForced d =
      s.doorBecomes d
        ((Door.driven s.doorTable[d] (s.shows d) (s.door d)).1,
          .doorForced :: (Door.driven s.doorTable[d] (s.shows d) (s.door d)).2, some .doorForced) := by
  have hforced : ((s.offer (plainKey .doorForced d.val)).latch .doorForced) =
      ({ s.latch .doorForced with doors := s.doors, keys := s.keys ++ [doorKey d .doorForced] } : State) :=
    latch_withDoors s .doorForced s.doors (s.keys ++ [doorKey d .doorForced])
  have hl := latch_eq s .doorForced
  have hshows : State.shows { s.latch .doorForced with doors := s.doors, keys := s.keys ++ [doorKey d .doorForced] } d = s.shows d :=
    shows_congr (s := s) (congrArg State.pointTable hl :) (congrArg State.points hl :) d
  have hentry : State.doorEntry { s.latch .doorForced with doors := s.doors, keys := s.keys ++ [doorKey d .doorForced] } d =
      s.doorTable[d] := congrArg (fun v => v[d]) (congrArg State.doorTable hl :)
  unfold State.doorForced
  rw [hforced, doorStartsOpening_eq, hshows, hentry, doorBecomes_of_event]
  exact congrArg
    (fun ks : List Key =>
      { s.latch .doorForced with
        doors := s.doors.set d (Door.driven s.doorTable[d] (s.shows d) (s.door d)).1, keys := ks })
    (List.append_assoc s.keys [doorKey d .doorForced] _)

/-! ### A contact change -/

theorem ite_doorBecomes {c c' : Prop} [Decidable c] [Decidable c'] {a b : DoorChange} {x y : State} (hc : c ↔ c')
    (hx : c → x = s.doorBecomes d a) (hy : ¬c → y = s.doorBecomes d b) :
    (if c then x else y) = s.doorBecomes d (if c' then a else b) := by
  by_cases h : c
  · rw [if_pos h, if_pos (hc.1 h), hx h]
  · rw [if_neg h, if_neg (mt hc.2 h), hy h]

/-- A door takes a change of one of its contacts by the rule of its state (R90 to R97). -/
theorem doorTakesContact_eq (which : Contact) {active : Bool} (hlevel : active = s.signalActive (which.signal d)) :
    s.doorTakesContact d which active =
      s.doorBecomes d
        (Door.contacted s.doorTable[d] (s.assigned (.doorClosed d) && s.assigned (.doorOpen d)) (s.shows d)
          (decide (which = .closedContact)) active (s.door d)) := by
  have hself := (doorBecomes_self s d).symm
  have hclosed : which = .closedContact → active = true → s.shows d ≠ .opened := by
    rintro rfl rfl hc
    have hshut : s.signalActive (.doorClosed d) = true := hlevel.symm
    exact Bool.false_ne_true ((shows_eq_opened_iff.1 hc).1.symm.trans hshut)
  have hopenContact : (which = .openContact ∧ active = true) ↔ (decide (which = .closedContact) = false ∧ active = true) := by
    cases which <;> simp
  have hclosedContact (b : Bool) :
      (which = .closedContact ∧ active = b) ↔ (decide (which = .closedContact) = true ∧ active = b) := by
    rw [decide_eq_true_iff]
  have hconflict (h : s.shows d = .conflict) := doorContactFaults_of_conflict s.doorTable[d]
    (s.assigned (.doorClosed d) && s.assigned (.doorOpen d)) h
  unfold State.doorTakesContact Door.contacted
  rw [contacts_eq]
  cases (s.door d).mode <;> dsimp only
  case disabled | outOfService => exact hself
  case contactFault => exact ite_doorBecomes Iff.rfl (fun _ => deriveDoor_eq s d) fun _ => hself
  case closed =>
    exact ite_doorBecomes Iff.rfl hconflict fun _ =>
      ite_doorBecomes (hclosedContact false) (fun _ => doorForced_eq s d) fun _ => hself
  case opening =>
    refine ite_doorBecomes Iff.rfl hconflict fun hc => ite_doorBecomes hopenContact (fun _ => ?_) fun _ => hself
    exact doorOpens_eq_derived
  case opened | closing =>
    exact ite_doorBecomes Iff.rfl hconflict fun _ =>
      ite_doorBecomes (hclosedContact true) (fun h => doorShuts_eq_derived (hclosed h.1 h.2)) fun _ => hself
  case jammed =>
    exact ite_doorBecomes Iff.rfl hconflict fun _ =>
      ite_doorBecomes (hclosedContact true) (fun h => doorShuts_eq_derived (hclosed h.1 h.2)) fun _ =>
        ite_doorBecomes hopenContact (fun _ => doorOpens_eq_derived) fun _ => hself

/-- A contact change reaches the door and, for a closed contact, the gallery fan it names (R76, R84). -/
theorem doorContactChange_eq (which : Contact) {active : Bool} (hlevel : active = s.signalActive (which.signal d)) :
    s.doorContactChange d which active =
      (if which = .closedContact then (s.doorTable[d]).galleryFan.toList else []).foldl
        (fun u f => u.recomputePressurisation f)
        (s.doorBecomes d
          (Door.contacted s.doorTable[d] (s.assigned (.doorClosed d) && s.assigned (.doorOpen d)) (s.shows d)
            (decide (which = .closedContact)) active (s.door d))) := by
  unfold State.doorContactChange
  rw [doorTakesContact_eq which hlevel]
  generalize Door.contacted _ _ _ _ _ _ = r
  obtain ⟨-, -, htable, -, -⟩ := doorBecomes_fields s d r
  unfold State.handClosedContact State.recomputeFor State.doorEntry
  rw [htable]
  cases which with
  | openContact => rfl
  | closedContact =>
    dsimp only
    cases (s.doorTable[d]).galleryFan <;> rfl

/-! ### Pressurisation -/

/-- The pressurisation demand of a gallery fan (R74, R75). -/
theorem pressurisationSpeed_eq (s : State) (f : Fin 6) :
    s.pressurisationSpeed f =
      min 1000
        ((if s.engine.mode = .incident then (s.fanTable[f]).standbySpeed else 0) +
          ((List.finRange 6).map fun d =>
            if (s.doorTable[d]).galleryFan = some f ∧ s.signalActive (.doorClosed d) = false then (s.doorTable[d]).boost
            else 0).sum) := by
  unfold State.pressurisationSpeed State.fanEntry
  dsimp only
  refine congrArg (fun l : List Nat => min 1000 (_ + l.sum)) (List.map_congr_left fun d _ => ?_)
  refine if_congr ?_ rfl rfl
  unfold State.boosts
  rw [Bool.and_eq_true, decide_eq_true_eq, Bool.not_eq_true']
  exact Iff.rfl

theorem recomputePressurisation_ite (s : State) (f : Fin 6) :
    s.recomputePressurisation f =
      if s.pressurisationDemand f = (s.fans[f]).pressurisationSlot then s
      else
        (({ s with fans := s.fans.set f { s.fans[f] with pressurisationSlot := s.pressurisationDemand f } } : State).resolveFan
          f) := rfl

/-- Settles O48: the contact change by `doorTakesContact_eq`, the recomputation by the demand it forms. -/
theorem contactsMoveTheDoorAndItsGalleryFan : Obligations.ContactsMoveTheDoorAndItsGalleryFan := by
  unfold Obligations.ContactsMoveTheDoorAndItsGalleryFan
  refine ⟨fun s taken d closedContact sig out hsig hout htaken => ?contact, fun s f e speed slot he hspeed hslot => ?pressure⟩
  case contact =>
    have hbecomes : taken = s.doorBecomes d out := by
      rw [htaken]
      obtain ⟨x, ks, event⟩ := out
      cases event <;> rfl
    have hchange (which : Contact) (hwhich : decide (which = .closedContact) = closedContact)
        (hs : sig = which.signal d) :
        s.doorContactChange d which (s.signalActive sig) =
          (if which = .closedContact then (s.doorTable[d]).galleryFan.toList else []).foldl
            (fun u f => u.recomputePressurisation f) taken := by
      rw [doorContactChange_eq which (congrArg s.signalActive hs), hwhich, hbecomes, hout]
      rfl
    cases closedContact with
    | true =>
      have hc := hchange .closedContact rfl hsig
      obtain rfl : sig = .doorClosed d := hsig
      refine hc.trans ?_
      cases (s.doorTable[d]).galleryFan <;> rfl
    | false =>
      have hc := hchange .openContact rfl hsig
      obtain rfl : sig = .doorOpen d := hsig
      exact hc
  case pressure =>
    have hspeed' : s.pressurisationSpeed f = speed := by
      rw [hspeed, he]
      exact pressurisationSpeed_eq s f
    have hdemand : s.pressurisationDemand f = slot := by
      rw [hslot, he, ← hspeed']
      rfl
    exact ⟨hdemand, by rw [recomputePressurisation_ite, hdemand]⟩

end Sys2Proof.Machine
end

section
/-! Signals, driven pins, pin changes and acceptances, and what an accepted level does (R46, R52, R55, R59, R84, R155,
R178, R181, R182). -/

namespace Sys2Proof.Machine

variable {s : State}

/-! ### Signals -/

theorem holder_eq_none {sig : Signal} (h : ∀ n : Fin 64, (s.pointTable[n]).signal ≠ some sig) : s.holder sig = none := by
  rw [State.holder, holderIn, List.find?_eq_none]
  exact fun n _ => by simpa using h n

theorem holder_eq_some {sig : Signal} {n : Fin 64} (h : (s.pointTable[n]).signal = some sig)
    (honly : ∀ m : Fin 64, m ≠ n → (s.pointTable[m]).signal ≠ some sig) : s.holder sig = some n :=
  find?_finRange_eq_some (decide_eq_true h) fun m hm => decide_eq_false (honly m (ne_of_lt hm))

theorem driveLevel_eq (s : State) (n : Fin 64) :
    s.driveLevel n =
      (if (s.pointTable[n]).function = .generalOut then some (s.points[n]).latch
      else (s.pointTable[n]).signal.bind s.unitOutput).map (activeLevel (s.pointTable[n]).polarity) := by
  unfold State.driveLevel State.outputActive State.pointEntry
  split
  next h => rw [if_pos h]; rfl
  next h => rw [if_neg h]

/-! ### Acceptances -/

theorem takeKeys_of_noKeys (h : s.keys = []) : s.takeKeys = s := by
  have hself : ({ s with keys := [] } : State) = s := by rw [← h]
  rw [takeKeys_eq, h, hself]
  rfl

theorem settle_takeKeys (s : State) : s.takeKeys.settle = s.settle := by
  unfold State.settle
  rw [takeKeys_of_noKeys (keys_takeKeys s)]

/-- A point that keeps its pin and its latch leaves the machine at rest. -/
theorem atRest_setPoint {n : Fin 64} {x : Point} (hlatch : x.latch = (s.point n).latch)
    (hpin : ∀ high, s.driveLevel n = some high → x.pin = high) (h : s.atRest) : (s.setPoint n x).atRest := by
  obtain ⟨hkeys, hdriven⟩ := h
  refine ⟨hkeys, fun m high hd => ?_⟩
  rw [driveLevel_setPoint s n m x hlatch] at hd
  by_cases hm : n = m
  · subst hm
    rw [point_setPoint_same]
    exact hpin high hd
  · rw [point_setPoint_ne s n m x hm]
    exact hdriven m high hd

theorem setPoint_setPoint (s : State) (n : Fin 64) (x y : Point) : (s.setPoint n x).setPoint n y = s.setPoint n y := by
  simp [State.setPoint]

/-- What an accepted level at a point does: the unit whose input signal the point holds takes it, once the units have
started. -/
def State.accepted (s : State) (e : PointEntry) (n : Fin 64) (u : State) : State :=
  match e.signal with
  | none => u
  | some sig =>
    if sig.isOutput = true ∨ s.load ≠ .running then u
    else (u.unitTakes sig (activeLevel e.polarity (u.points[n]).filtered)).settle

theorem settle_acceptAt {n : Fin 64} {x : Point} (hx : (s.point n).accept = x) (hrest : (s.setPoint n x).atRest) :
    (s.acceptAt n).settle = s.accepted (s.pointTable[n]) n (s.setPoint n x) := by
  have hstays : (s.setPoint n x).settle = s.setPoint n x := settle_of_atRest hrest
  unfold State.acceptAt State.accepted
  rw [hx]
  dsimp only
  unfold State.pointEntry
  cases (s.pointTable[n]).signal with
  | none => exact hstays
  | some sig =>
    dsimp only
    by_cases hout : sig.isOutput = true
    · rw [if_pos hout, if_pos (.inl hout)]
      exact hstays
    · rw [if_neg hout]
      unfold State.reach
      by_cases hload : s.load = .running
      · rw [if_pos (State.started_of_running (s := s.setPoint n x) hload), if_neg (by simp [hout, hload]), settle_takeKeys]
        rfl
      · have hstarted : ¬(s.setPoint n x).started = true := fun h => hload ((State.started_iff (s.setPoint n x)).1 h)
        rw [if_neg hstarted, if_pos (.inr hload)]
        exact hstays

theorem pinChange_of_kept {n : Fin 64} {high : Bool} (hrest : s.atRest)
    (h : (s.driveLevel n).isSome = true ∨ (s.points[n]).pin = high) : (pinChangeEffect n high s).settle = s := by
  have heff : pinChangeEffect n high s = s := by
    unfold pinChangeEffect
    rcases h with h | h
    · exact if_pos h
    · split
      · rfl
      · exact if_pos h
  rw [heff, settle_of_atRest hrest]

theorem pinChange_of_released {n : Fin 64} {high : Bool} (hdrive : s.driveLevel n = none) (hpin : (s.points[n]).pin ≠ high) :
    pinChangeEffect n high s =
      if high ≠ (s.points[n]).filtered ∧ (s.pointTable[n]).filterTime = 0 then
        (s.setPoint n { s.points[n] with pin := high, hold := 0 }).acceptAt n
      else s.setPoint n { s.points[n] with pin := high, hold := 0 } := by
  have hnot : ¬(s.driveLevel n).isSome = true := by simp [hdrive]
  have hmoved : ¬(s.point n).pin = high := hpin
  unfold pinChangeEffect
  rw [if_neg hnot, if_neg hmoved]
  dsimp only
  refine if_congr ?_ rfl rfl
  rw [point_setPoint_same, Point.due, Bool.and_eq_true, decide_eq_true_eq, decide_eq_true_eq]
  exact and_congr_right' Nat.le_zero

theorem filterAccept_of_early {n : Fin 64} (hrest : s.atRest)
    (h : (s.points[n]).pin = (s.points[n]).filtered ∨ (s.points[n]).hold < (s.pointTable[n]).filterTime) :
    (filterAcceptEffect n s).settle = s := by
  have hdue : ¬(s.point n).due (s.pointEntry n).filterTime = true := by
    rw [Point.due, Bool.and_eq_true, decide_eq_true_eq, decide_eq_true_eq]
    rintro ⟨hpin, hhold⟩
    exact h.elim hpin (Nat.not_lt.2 hhold)
  rw [show filterAcceptEffect n s = s from if_neg hdue, settle_of_atRest hrest]

theorem filterAccept_of_due {n : Fin 64} (hpin : (s.points[n]).pin ≠ (s.points[n]).filtered)
    (hhold : (s.pointTable[n]).filterTime ≤ (s.points[n]).hold) : filterAcceptEffect n s = s.acceptAt n := by
  refine if_pos ?_
  rw [Point.due, Bool.and_eq_true, decide_eq_true_eq, decide_eq_true_eq]
  exact ⟨hpin, hhold⟩

/-! ### What the units take -/

theorem confirmChange_active (e : FanEntry) (x : Fan) :
    x.confirmChange e true =
      if x.mode = .starting then { x with mode := .running, startTimer := 0, lossTimer := none }
      else if x.mode = .running ∨ x.mode = .stopping then { x with lossTimer := none }
      else x := by
  unfold Fan.confirmChange
  cases hm : x.mode <;> simp [Fan.confirmed]

theorem confirmChange_inactive (e : FanEntry) (x : Fan) :
    x.confirmChange e false =
      if x.mode = .running ∨ x.mode = .stopping then { x with lossTimer := some (e.lossTolerance * 10) } else x := by
  unfold Fan.confirmChange
  cases hm : x.mode <;> simp

theorem fanIsolatorChange_active (f : Fin 6) (s : State) :
    s.fanIsolatorChange f true =
      if (s.fan f).mode = .disabled ∨ (s.fan f).mode = .isolated then s else s.fanToIsolated f := by
  unfold State.fanIsolatorChange
  cases (s.fan f).mode <;> rfl

theorem fanIsolatorChange_inactive (f : Fin 6) (s : State) :
    s.fanIsolatorChange f false =
      if (s.fan f).mode = .isolated then s.setFan f ((s.fan f).coast (s.fanEntry f)) else s := by
  unfold State.fanIsolatorChange
  cases (s.fan f).mode <;> rfl

theorem maintKeyChange_active (s : State) :
    s.maintKeyChange true = if s.engine.mode = .normal then s.changeMode .maintenance else s := by
  unfold State.maintKeyChange
  cases s.engine.mode <;> rfl

theorem maintKeyChange_inactive (s : State) :
    s.maintKeyChange false = if s.engine.mode = .maintenance then s.changeMode .normal else s := by
  unfold State.maintKeyChange
  cases s.engine.mode <;> rfl

/-- Settles O47: signals and drives by the point that holds them, acceptances by `settle_acceptAt`, and the units by what
each of them takes. -/
theorem pinLevelsAreFilteredAndReachTheirUnits : Obligations.PinLevelsAreFilteredAndReachTheirUnits := by
  unfold Obligations.PinLevelsAreFilteredAndReachTheirUnits
  refine ⟨fun s level hlevel => ⟨fun sig => ⟨fun h => ?free, fun n h honly => ?held⟩, fun n => ?drives⟩,
    fun n high s x e reached hrest hx he hreached => ?pins, fun s f d x hx => ?units⟩
  case free =>
    have hholder := holder_eq_none h
    exact ⟨by rw [State.assigned, hholder]; rfl, by rw [State.signalActive, hholder]⟩
  case held =>
    have hholder := holder_eq_some h honly
    refine ⟨by rw [State.assigned, hholder]; rfl, ?_⟩
    rw [State.signalActive, hholder, hlevel]
    unfold State.pointActive activeLevel
    cases hp : (s.pointTable[n]).polarity <;> simp only [State.pointEntry, hp] <;> rfl
  case drives =>
    have hlevels : level = activeLevel := funext₂ fun p b => (hlevel p b).trans (by cases p <;> rfl)
    rw [driveLevel_eq, hlevels]
    refine congrArg (Option.map _) (if_congr Iff.rfl rfl ?_)
    cases (s.pointTable[n]).signal with
    | none => rfl
    | some sig =>
      cases sig with
      | fanRun f => exact congrArg some (Fan.runOutput_eq_decide _)
      | _ => rfl
  case pins =>
    have hreach : ∀ u, reached u = s.accepted (s.pointTable[n]) n u := by
      intro u
      rw [hreached, he]
      unfold State.accepted activeLevel
      cases (s.pointTable[n]).signal with
      | none => rfl
      | some sig => cases (s.pointTable[n]).polarity <;> rfl
    rw [hx, he]
    have hexec {t : State} (h : (pinChangeEffect n high s).settle = t) : exec (.pinChange n high) s = .next t :=
      congrArg Host.Outcome.next h
    have haccept {t : State} (h : (filterAcceptEffect n s).settle = t) : exec (.filterAccept n) s = .next t :=
      congrArg Host.Outcome.next h
    refine ⟨fun h => hexec (pinChange_of_kept hrest h), fun hdrive hpin => ⟨fun h => hexec ?_, fun hlevel hzero => hexec ?_⟩,
      fun h => haccept (filterAccept_of_early hrest h), fun hpin hhold => haccept ?_⟩
    · have hstays : ¬(high ≠ (s.points[n]).filtered ∧ (s.pointTable[n]).filterTime = 0) := by
        rintro ⟨hne, hz⟩
        exact h.elim hne fun hpos => absurd hz hpos.ne'
      rw [pinChange_of_released hdrive hpin, if_neg hstays]
      exact settle_of_atRest (atRest_setPoint rfl (fun _ hd => absurd (hdrive.symm.trans hd) (by simp)) hrest)
    · rw [pinChange_of_released hdrive hpin, if_pos ⟨hlevel, hzero⟩, hreach]
      have hfree (v : Bool) : s.driveLevel n = some v → False := fun hd => by simp [hdrive] at hd
      have hmoved : (s.setPoint n { s.points[n] with pin := high, hold := 0 }).atRest :=
        atRest_setPoint rfl (fun v hd => (hfree v hd).elim) hrest
      refine (settle_acceptAt (x := { s.points[n] with pin := high, filtered := high, hold := 0 }) ?_ ?_).trans
        (congrArg (s.accepted (s.pointTable[n]) n) (setPoint_setPoint ..))
      · rw [point_setPoint_same]
        rfl
      · refine atRest_setPoint (by rw [point_setPoint_same]) (fun v hd => ?_) hmoved
        exact (hfree v ((driveLevel_setPoint s n n { s.points[n] with pin := high, hold := 0 } rfl).symm.trans hd)).elim
    · rw [filterAccept_of_due hpin hhold, hreach]
      exact settle_acceptAt rfl (atRest_setPoint rfl (fun _ hd => hrest.2 n _ hd) hrest)
  case units =>
    obtain rfl : x = s.fan f := hx
    refine ⟨?_, ?_, ?_, ?_, ?_, rfl, fun _ => rfl, maintKeyChange_active s, maintKeyChange_inactive s⟩
    · exact congrArg (s.setFan f) (confirmChange_active _ _)
    · exact congrArg (s.setFan f) (confirmChange_inactive _ _)
    · exact fanIsolatorChange_active f s
    · exact fanIsolatorChange_inactive f s
    · refine (openRequest_eq s d).trans (congrArg
        (fun ks => s.moveDoors (s.doors.set d (Door.asked s.doorTable[d] (s.shows d) s.doors[d]).1) (s.keys ++ ks)) ?_)
      exact apply_ite (List.map (doorKey d)) _ _ _

end Sys2Proof.Machine
end

section
/-! A taken Point Table write: the acceptances it brings and the signals it hands over (R180, R181). -/

namespace Sys2Proof.Machine

variable {s : State}

/-! ### The points a write leaves -/

/-- The points of the machine. -/
def pinRows : Rows Point 64 where
  get := State.points
  put s v ks := { s with points := v, keys := ks }

/-- A point under a write that gives it an entry of another filter time (R181). -/
def Point.lowered (old new : Nat) (x : Point) : Point :=
  if new < old ∧ x.pin ≠ x.filtered ∧ new ≤ x.hold then { x with filtered := x.pin, hold := 0 } else x

theorem acceptLowered_eq (before : State) (n : Fin 64) (s : State) :
    State.acceptLowered before n s =
      s.setPoint n ((s.points[n]).lowered (before.pointTable[n]).filterTime (s.pointTable[n]).filterTime) := by
  unfold State.acceptLowered Point.lowered
  have hself : s.setPoint n s.points[n] = s := by simp [State.setPoint]
  by_cases h : (s.pointTable[n]).filterTime < (before.pointTable[n]).filterTime ∧
      (s.points[n]).pin ≠ (s.points[n]).filtered ∧ (s.pointTable[n]).filterTime ≤ (s.points[n]).hold
  · rw [if_pos h]
    refine if_pos ⟨h.1, ?_⟩
    rw [Point.due, Bool.and_eq_true, decide_eq_true_eq, decide_eq_true_eq]
    exact h.2
  · rw [if_neg h, hself]
    refine if_neg fun hd => h ?_
    rw [Point.due, Bool.and_eq_true, decide_eq_true_eq, decide_eq_true_eq] at hd
    exact hd

/-- The acceptances a write brings, point by point. -/
theorem forEach_acceptLowered (before s : State) :
    forEach (State.acceptLowered before) s =
      { s with
        points :=
          tabulate fun n =>
            (s.points[n]).lowered (before.pointTable[n]).filterTime (s.pointTable[n]).filterTime } := by
  have hkeys : (List.finRange 64).flatMap (fun _ => ([] : List Key)) = [] := flatMap_const_nil _
  refine (pinRows.forEach_eq_on s (body := State.acceptLowered before)
    (m := fun n x => x.lowered (before.pointTable[n]).filterTime (s.pointTable[n]).filterTime) (k := fun _ _ => [])
    fun n v ks => ?_).trans ?_
  · rw [acceptLowered_eq, List.append_nil]
    rfl
  · rw [hkeys, List.append_nil]
    rfl

/-! ### Input signals and their points -/

theorem inputSignal_eq (e : PointEntry) : inputSignal e = e.signal.filter fun sig => !sig.isOutput := by
  unfold inputSignal
  cases e.signal with
  | none => rfl
  | some sig =>
    rw [Option.filter_some]
    cases h : sig.isOutput <;> simp [h]

theorem inputSignal_eq_some_iff {e : PointEntry} {sig : Signal} :
    inputSignal e = some sig ↔ e.signal = some sig ∧ sig.isOutput = false := by
  rw [inputSignal_eq, Option.filter_eq_some_iff, Bool.not_eq_true']

theorem assigned_iff {sig : Signal} : s.assigned sig = true ↔ ∃ n : Fin 64, (s.pointTable[n]).signal = some sig := by
  rw [State.assigned, State.holder, holderIn, List.find?_isSome]
  simp

/-- An input signal is assigned where a point reads it. -/
theorem assigned_iff_input {sig : Signal} (h : sig.isOutput = false) :
    s.assigned sig = true ↔ ∃ n : Fin 64, inputSignal (s.pointEntry n) = some sig := by
  rw [assigned_iff]
  exact exists_congr fun n => ⟨fun hn => inputSignal_eq_some_iff.2 ⟨hn, h⟩, fun hn => (inputSignal_eq_some_iff.1 hn).1⟩

/-- The point that holds an input signal, where no signal is held twice. -/
theorem holder_iff_input {sig : Signal} (hdistinct : s.claimsDistinct) (h : sig.isOutput = false) {n : Fin 64} :
    s.holder sig = some n ↔ inputSignal (s.pointEntry n) = some sig := by
  have hholds : s.holder sig = some n → (s.pointTable[n]).signal = some sig := fun hn => by
    simpa using List.find?_some hn
  rw [inputSignal_eq_some_iff]
  refine ⟨fun hn => ⟨hholds hn, h⟩, fun ⟨hn, _⟩ => holder_eq_some hn fun m hm hsig => hm ?_⟩
  exact hdistinct.1 m n (by rw [hsig]; rfl) (hsig.trans hn.symm)

/-! ### One signal handed over -/

theorem doorContactLost_eq (d : Fin 6) (which : Contact) (u : State) :
    u.doorContactLost d which =
      (if (u.doors[d]).mode = .disabled ∨ (u.doors[d]).mode = .outOfService ∨ (u.doors[d]).mode = .contactFault then u
      else u.doorContactFaults d).handClosedContact d which := by
  unfold State.doorContactLost
  refine congrArg (State.handClosedContact d which) ?_
  unfold State.door
  cases (u.doors[d]).mode <;> rfl

theorem doorTable_doorContactLost (d : Fin 6) (u : State) :
    (if (u.doors[d]).mode = .disabled ∨ (u.doors[d]).mode = .outOfService ∨ (u.doors[d]).mode = .contactFault then u
      else u.doorContactFaults d).doorTable = u.doorTable := by
  split
  · rfl
  · rw [doorContactFaults_eq]
    exact (doorBecomes_fields u d _).2.2.1

/-- A signal lost at a point that held it (R180). -/
theorem handLoss_eq {sig : Signal} {before : State} {n : Fin 64} (hsig : inputSignal (before.pointEntry n) = some sig)
    (u : State) :
    State.handLoss before n u =
      if ∃ m : Fin 64, inputSignal (u.pointEntry m) = some sig then u
      else (u.unitLoses sig (before.signalActive sig)).takeKeys := by
  unfold State.handLoss
  rw [hsig]
  exact if_congr (assigned_iff_input (inputSignal_eq_some_iff.1 hsig).2) rfl rfl

theorem handLoss_of_none {before : State} {n : Fin 64} (hsig : inputSignal (before.pointEntry n) = none) (u : State) :
    State.handLoss before n u = u := by
  unfold State.handLoss
  rw [hsig]

theorem handNow_of_none {before : State} {n : Fin 64} {u : State} (hsig : inputSignal (u.pointEntry n) = none) :
    State.handNow before n u = u := by
  unfold State.handNow
  rw [hsig]

/-- A signal a point holds now, handed over: gained, or held before at a level that the write has changed (R180). -/
theorem handNow_eq {sig : Signal} {before : State} {n : Fin 64} {u : State} (hdistinct : before.claimsDistinct)
    (hsig : inputSignal (u.pointEntry n) = some sig) (hkeys : u.keys = []) :
    State.handNow before n u =
      if ∃ m : Fin 64, inputSignal (before.pointEntry m) = some sig then
        if u.signalActive sig = before.signalActive sig ∨
            (inputSignal (before.pointEntry n) ≠ some sig ∧ ∃ d, sig = .doorButton d) then u
        else (u.unitTakes sig (u.signalActive sig)).takeKeys
      else (u.unitGains sig (u.signalActive sig)).takeKeys := by
  have hinput := (inputSignal_eq_some_iff.1 hsig).2
  have hassigned : before.assigned sig = false ↔ ¬∃ m : Fin 64, inputSignal (before.pointEntry m) = some sig := by
    rw [← assigned_iff_input hinput, Bool.not_eq_true]
  unfold State.handNow
  rw [hsig]
  dsimp only
  by_cases hheld : ∃ m : Fin 64, inputSignal (before.pointEntry m) = some sig
  · rw [if_pos hheld, if_neg fun h => hassigned.1 h hheld]
    by_cases hlevel : before.signalActive sig = u.signalActive sig
    · rw [if_pos hlevel, if_pos (.inl hlevel.symm)]
    · rw [if_neg hlevel]
      by_cases hplace : before.holder sig = some n
      · have hstays : ¬(u.signalActive sig = before.signalActive sig ∨
            (inputSignal (before.pointEntry n) ≠ some sig ∧ ∃ d, sig = .doorButton d)) := by
          rintro (h | h)
          · exact hlevel h.symm
          · exact h.1 ((holder_iff_input hdistinct hinput).1 hplace)
        rw [if_pos hplace, if_neg hstays]
      · have hmoved : inputSignal (before.pointEntry n) ≠ some sig := mt (holder_iff_input hdistinct hinput).2 hplace
        rw [if_neg hplace]
        cases sig with
        | doorButton d =>
          rw [if_pos (.inr ⟨hmoved, d, rfl⟩)]
          exact takeKeys_of_noKeys hkeys
        | _ =>
          refine (if_neg ?_).symm
          rintro (h | ⟨-, d, h⟩)
          · exact hlevel h.symm
          · cases h
  · rw [if_neg hheld, if_pos (hassigned.2 hheld)]

theorem handLoss_keys {before u : State} (n : Fin 64) (h : u.keys = []) : (State.handLoss before n u).keys = [] := by
  cases hsig : inputSignal (before.pointEntry n) with
  | none => rw [handLoss_of_none hsig, h]
  | some sig =>
    rw [handLoss_eq hsig]
    split
    · exact h
    · exact keys_takeKeys _

theorem handNow_keys {before u : State} (n : Fin 64) (hdistinct : before.claimsDistinct) (h : u.keys = []) :
    (State.handNow before n u).keys = [] := by
  cases hsig : inputSignal (u.pointEntry n) with
  | none => rw [handNow_of_none hsig, h]
  | some sig =>
    rw [handNow_eq hdistinct hsig h]
    split
    · split
      · exact h
      · exact keys_takeKeys _
    · exact keys_takeKeys _

end Sys2Proof.Machine
end

section
/-! A taken Point Table write hands each changed signal over once (R180). -/

namespace Sys2Proof.Machine

/-! ### The two halves of a hand-over, as the statement writes them -/

/-- A door out of service or without a fault to take stays as it is at the loss of a contact; any other is faulted. -/
def State.contactGone (u : State) (d : Fin 6) : State :=
  if (u.doors[d]).mode = .disabled ∨ (u.doors[d]).mode = .outOfService ∨ (u.doors[d]).mode = .contactFault then u
  else
    ({ u with
      doors := u.doors.set d { u.doors[d] with mode := .contactFault, travelTimer := 0, dwellTimer := 0 }
      keys := u.keys ++ [{ kind := .doorContactFault, index := d.val }] } : State).latch .doorContactFault

theorem unitLoses_closed {s u : State} (h : u.doorTable = s.doorTable) (d : Fin 6) (active : Bool) :
    u.unitLoses (.doorClosed d) active =
      (s.doorTable[d]).galleryFan.elim (u.contactGone d) fun f => (u.contactGone d).recomputePressurisation f := by
  have hgone : (u.contactGone d).doorTable = s.doorTable := (doorTable_doorContactLost d u).trans h
  have hlost : u.unitLoses (.doorClosed d) active = (u.contactGone d).recomputeFor ((u.contactGone d).doorTable[d]).galleryFan :=
    doorContactLost_eq d .closedContact u
  rw [hlost, hgone]
  cases (s.doorTable[d]).galleryFan <;> rfl

theorem unitLoses_open (u : State) (d : Fin 6) (active : Bool) : u.unitLoses (.doorOpen d) active = u.contactGone d :=
  doorContactLost_eq d .openContact u

theorem unitGains_closed {s u : State} (h : u.doorTable = s.doorTable) (d : Fin 6) (active : Bool) :
    u.unitGains (.doorClosed d) active =
      if active = true ∨ (u.doors[d]).mode = .contactFault then u.unitTakes (.doorClosed d) active
      else (s.doorTable[d]).galleryFan.elim u fun f => u.recomputePressurisation f := by
  cases active with
  | true => rfl
  | false =>
    have hrest : u.handClosedContact d .closedContact =
        (s.doorTable[d]).galleryFan.elim u fun f => u.recomputePressurisation f := by
      show u.recomputeFor (u.doorTable[d]).galleryFan = _
      rw [h]
      cases (s.doorTable[d]).galleryFan <;> rfl
    rw [← hrest]
    exact if_congr (by simp [State.door]) rfl rfl

theorem unitGains_open (u : State) (d : Fin 6) (active : Bool) :
    u.unitGains (.doorOpen d) active =
      if active = true ∨ (u.doors[d]).mode = .contactFault then u.unitTakes (.doorOpen d) active else u := by
  cases active with
  | true => rfl
  | false => exact if_congr (by simp [State.door]) rfl rfl

/-! ### The write -/

theorem takeBatch_points {s : State} {first : Nat} {es : List PointEntry} (hes : es ≠ []) (hfits : first + es.length ≤ 64) :
    s.takeBatch (runFrom first (es.map .point)) =
      State.pointsWritten s { s with pointTable := overlaid s.pointTable first es } := by
  have hpoints : (runFrom first (es.map TableEntry.point)).ofPoints = true := by
    rw [ofPoints_runFrom, List.any_map]
    obtain ⟨e, es, rfl⟩ := List.exists_cons_of_ne_nil hes
    rfl
  have hacts : ∀ (l : List TableEntry) (k : Nat) (u : State), (∀ e ∈ l, e.isPoint = true) →
      (runFrom k l).foldl (State.unitActs s) u = u := by
    intro l
    induction l with
    | nil => exact fun _ _ _ => rfl
    | cons e l ih =>
      intro k u hl
      have he := hl e List.mem_cons_self
      rw [runFrom_cons, List.foldl_cons, ih _ _ fun e h => hl e (List.mem_cons_of_mem _ h)]
      cases e with
      | point => rfl
      | _ => exact absurd he Bool.false_ne_true
  unfold State.takeBatch
  rw [hacts _ _ _ (by simp [TableEntry.isPoint]), storeBatch_point s first es hfits]
  exact if_pos hpoints

/-- What no hand-over of a write touches, and that no key waits between two of them. -/
def Handing (s accepted u : State) : Prop :=
  u.pointTable = accepted.pointTable ∧ u.points = accepted.points ∧ u.doorTable = s.doorTable ∧ u.keys = []

theorem Handing.after {s accepted u t : State} (h : Handing s accepted u) (hmoves : Moves True u t) (hkeys : t.keys = []) :
    Handing s accepted t :=
  ⟨hmoves.pointTable.trans h.1, hmoves.points.trans h.2.1, hmoves.doorTable.trans h.2.2.1, hkeys⟩

theorem Handing.signalActive {s accepted u : State} (h : Handing s accepted u) (sig : Signal) :
    u.signalActive sig = accepted.signalActive sig := signalActive_congr h.1 h.2.1 sig

theorem Handing.input {s accepted u : State} (h : Handing s accepted u) (n : Fin 64) :
    inputSignal (u.pointEntry n) = inputSignal (accepted.pointEntry n) :=
  congrArg (fun v : Vector PointEntry 64 => inputSignal v[n]) h.1

/-- Two folds whose bodies agree wherever an invariant of the first holds. -/
theorem foldl_congr_of_kept {ι σ : Type} {P : σ → Prop} {f g : σ → ι → σ} (h : ∀ i u, P u → f u i = g u i ∧ P (f u i))
    (l : List ι) (u : σ) (hP : P u) : l.foldl f u = l.foldl g u :=
  foldl_congr_of_remaining (P := fun _ => P) (fun i _ u hu => ⟨(h i u hu).1, (h i u hu).1 ▸ (h i u hu).2⟩) l u hP

/-- Settles O55: the acceptances point by point, and then the two hand-overs at each point. -/
theorem pointTableWritesHandOverSignals : Obligations.PointTableWritesHandOverSignals := by
  unfold Obligations.PointTableWritesHandOverSignals
  intro s accepted first es table lost gained taken before now hload hkeys hdistinct _ hes hfits htable haccepted htaken
    hbefore hnow hlost hgained
  have hstored : forEach (State.acceptLowered s) { s with pointTable := table } = accepted := by
    rw [forEach_acceptLowered, haccepted]
    rfl
  have hstarted : ({ s with pointTable := table } : State).started = true := State.started_of_running hload
  rw [takeBatch_points hes hfits, ← htable]
  unfold State.pointsWritten
  dsimp only
  rw [if_pos hstarted, hstored]
  have hbefore' (n : Fin 64) : before n = inputSignal (s.pointEntry n) := (hbefore n).trans (inputSignal_eq _).symm
  have hnow' (n : Fin 64) : now n = inputSignal (accepted.pointEntry n) := by
    rw [hnow, inputSignal_eq, haccepted]
    rfl
  have hlost' (sig : Signal) (active : Bool) (u : State) (h : u.doorTable = s.doorTable) :
      lost sig active u = u.unitLoses sig active := by
    rw [hlost]
    cases sig with
    | doorClosed d =>
      rw [unitLoses_closed h]
      dsimp only
      cases (s.doorTable[d]).galleryFan <;> rfl
    | doorOpen d => exact (unitLoses_open u d active).symm
    | fanIsolator | maintKey | fanConfirm | doorButton => rfl
    | fanRun | fanReverse | doorDriveOpen | doorDriveClose | commissionKey => exact (ite_self u).symm
  have hgained' (sig : Signal) (active : Bool) (u : State) (h : u.doorTable = s.doorTable) :
      gained sig active u = u.unitGains sig active := by
    rw [hgained]
    cases sig with
    | doorClosed d =>
      rw [unitGains_closed h]
      dsimp only
      cases (s.doorTable[d]).galleryFan <;> rfl
    | doorOpen d => exact (unitGains_open u d active).symm
    | _ => rfl
  have htaken' (u : State) : taken u = u.takeKeys := (htaken u).trans (takeKeys_eq u).symm
  refine foldl_congr_of_kept (P := Handing s accepted) (fun n u hu => ?_) _ accepted ?_
  · have hleft : (match before n with
        | none => u
        | some sig => if ∃ m : Fin 64, now m = some sig then u else taken (lost sig (s.signalActive sig) u)) =
          State.handLoss s n u := by
      rw [hbefore']
      cases hsig : inputSignal (s.pointEntry n) with
      | none => exact (handLoss_of_none hsig u).symm
      | some sig =>
        rw [handLoss_eq hsig]
        dsimp only
        rw [htaken', hlost' _ _ _ hu.2.2.1]
        exact if_congr (exists_congr fun m => by rw [hnow', hu.input]) rfl rfl
    have hleftKept := hu.after (handLoss_moves s n u) (handLoss_keys n hu.2.2.2)
    have hstep (left : State) (hl : left = State.handLoss s n u) : (match now n with
        | none => left
        | some sig =>
          if ∃ m : Fin 64, before m = some sig then
            if accepted.signalActive sig = s.signalActive sig ∨ (before n ≠ some sig ∧ ∃ d, sig = .doorButton d) then left
            else taken (left.unitTakes sig (accepted.signalActive sig))
          else taken (gained sig (accepted.signalActive sig) left)) = State.handNow s n (State.handLoss s n u) := by
      rw [hl]
      generalize State.handLoss s n u = left at hleftKept ⊢
      rw [hnow', ← hleftKept.input]
      cases hsig : inputSignal (left.pointEntry n) with
      | none => exact (handNow_of_none hsig).symm
      | some sig =>
        rw [handNow_eq hdistinct hsig hleftKept.2.2.2, hleftKept.signalActive]
        dsimp only
        rw [htaken', htaken', hgained' _ _ _ hleftKept.2.2.1]
        refine if_congr (exists_congr fun m => by rw [hbefore']) (if_congr ?_ rfl rfl) rfl
        rw [hbefore']
    exact ⟨(hstep _ hleft).symm, hleftKept.after (handNow_moves s n _) (handNow_keys n hdistinct hleftKept.2.2.2)⟩
  · have hkept : accepted.doorTable = s.doorTable ∧ accepted.keys = s.keys := by rw [haccepted]; exact ⟨rfl, rfl⟩
    exact ⟨rfl, rfl, hkept.1, hkept.2.trans hkeys⟩

end Sys2Proof.Machine
end

section
/-! POWER_ON_RESET and RESTART (R176, R177, R185, R186, R189, R196, R197). -/

namespace Sys2Proof.Machine

variable {s : State}

/-! ### The load report -/

theorem loadReport_of_unaddressed (h : s.address = none) : s.loadReport = s := if_neg (by simp [h])

theorem loadReport_of_addressed (h : s.address.isSome = true) :
    s.loadReport = ({ s with cycle := { s.cycle with sequence := s.cycle.sequence + 1 } } : State).sendReport := if_pos h

/-- A frame for every UP port goes nowhere where both ports are DOWN (R104, R112). -/
theorem queueToAll_of_down (ha : s.portA.up = false) (hb : s.portB.up = false) (f : Frame) : s.queueToAll f = s := by
  have hplace (p : PortState) (hp : p.up = false) : p.placeInsert f = (p, .dropped) := if_pos hp
  rw [queueToAll_eq_latch, hplace _ ha, hplace _ hb]
  exact if_neg (by simp)

theorem sendReport_of_down (ha : s.portA.up = false) (hb : s.portB.up = false) : s.sendReport = s := by
  cases h : s.address with
  | none => exact sendReport_of_unaddressed h
  | some a => exact (sendReport_of_addressed h).trans (queueToAll_of_down ha hb _)

/-! ### The page of an operation -/

/-- A page of an operation may hold anything after an abort; every other page stays (R171, R176). -/
theorem scramblePage_pages (s : State) :
    ∃ (cells : Mem) (drawn : Nat),
      s.scramblePage s.store.operationPage =
          { s with store := { s.store with cells := cells }, freeCount := drawn } ∧
        (∀ q : Fin 48, s.store.operationPage ≠ some q → Mem.readBytes cells (512 * q.val) 512 = s.store.page q) ∧
        (s.store.operationPage = none → cells = s.store.cells ∧ drawn = s.freeCount) := by
  unfold State.scramblePage
  have hlen := length_freeBytes s 512
  generalize s.freeBytes 512 = bytes at hlen ⊢
  cases hop : s.store.operationPage with
  | none =>
    exact ⟨s.store.cells, s.freeCount, rfl, fun _ _ => rfl, fun _ => ⟨rfl, rfl⟩⟩
  | some p =>
    exact ⟨(s.store.setPage p bytes).cells, s.freeCount + 512, rfl,
      fun q hq => readBytes_setPage_ne _ hlen fun h => hq (h ▸ rfl), nofun⟩

/-- Settles O57: the reset state, its page kept by `scramblePage_pages`, and a load report that no port takes. -/
theorem powerOnResetBeginsStartUpLoad : Obligations.PowerOnResetBeginsStartUpLoad := by
  unfold Obligations.PowerOnResetBeginsStartUpLoad
  intro adr pins s
  obtain ⟨cells, drawn, hended, hpages, hkept⟩ := scramblePage_pages s
  refine ⟨cells, drawn, hpages, hkept, congrArg Host.Outcome.next ?_⟩
  unfold powerOnResetEffect
  rw [hended]
  dsimp only
  unfold addressOf
  by_cases h : 1 ≤ adr.toNat ∧ adr.toNat ≤ 250
  · rw [if_pos h, if_pos h, loadReport_of_addressed rfl]
    exact sendReport_of_down rfl rfl
  · rw [if_neg h, if_neg h]
    exact loadReport_of_unaddressed rfl

/-! ### RESTART -/

theorem restart_of_incident {req : Request} (hload : s.load = .running) (h : s.engine.mode = .incident) :
    restartEffect req s = s.answerOrder req 14 .refusedMode := by
  unfold restartEffect
  rw [if_neg (by simp [State.started_of_running hload]), if_pos h]

theorem restart_of_other {req : Request} (hload : s.load = .running) (h : s.engine.mode ≠ .incident) :
    restartEffect req s = ((s.restarted req.port).answerOrder req 14 .done).loadReport := by
  unfold restartEffect
  rw [if_neg (by simp [State.started_of_running hload]), if_neg h]

/-- An answer leaves the cycle and the address as they were. -/
theorem cycle_answerOrder (s : State) (req : Request) (kind : Word) (r : OrderResult) :
    (s.answerOrder req kind r).cycle = s.cycle := by
  unfold State.answerOrder
  split
  · exact cycle_queueTo ..
  · rfl

theorem address_answerOrder (s : State) (req : Request) (kind : Word) (r : OrderResult) :
    (s.answerOrder req kind r).address = s.address := by
  unfold State.answerOrder
  split
  · exact address_queueTo ..
  · rfl

/-- The state RESTART resets to, before the pins follow. -/
def State.blank (s : State) (p : Port) (down : PortState → PortState) : State :=
  { State.reset with
    address := s.address
    load := .image 0 true
    pointTable := s.pointTable
    portA := if p = .a then { down s.portA with up := true, linkTimer := 250 } else down s.portA
    portB := if p = .b then { down s.portB with up := true, linkTimer := 250 } else down s.portB
    fans := s.fans.map fun x => { Fan.reset with direction := x.direction }
    store :=
      { s.store with
        mode := if s.store.mode = .eraseSet ∨ s.store.mode = .programSet then .ready else s.store.mode
        setupPage := none
        staging := []
        service :=
          match s.store.service with
          | .idle => .idle
          | .waiting n _ => .waiting n true
          | .reading n _ page => .reading n true page
        behind := s.store.behind.map fun r => { r with dropped := true } }
    supplyOk := s.supplyOk
    points := s.points
    freeCount := s.freeCount
    pending := s.pending }

theorem restarted_eq_blank (s : State) (p : Port) : s.restarted p = (s.blank p PortState.restarted).followed := by
  have hmode : (if s.store.mode.setup then StoreMode.ready else s.store.mode) =
      if s.store.mode = .eraseSet ∨ s.store.mode = .programSet then .ready else s.store.mode := by
    cases s.store.mode <;> rfl
  unfold State.restarted State.blank StoreState.restarted
  rw [followPins_eq, hmode]
  cases p <;> rfl

/-- Settles O58: the blocks reset by `restarted_eq_blank`, then the reply and the load report. -/
theorem restartResetsEveryBlock : Obligations.RestartResetsEveryBlock := by
  unfold Obligations.RestartResetsEveryBlock
  intro req s u down hload hdown hu
  obtain rfl : down = PortState.restarted := funext hdown
  have hu' : s.restarted req.port = u := (restarted_eq_blank s req.port).trans hu.symm
  have hexec {t : State} (h : restartEffect req s = t) : exec (.restart req) s = .next t := congrArg Host.Outcome.next h
  have haddress : u.address = s.address := by rw [hu]; rfl
  have hsequence : u.cycle.sequence = 0 := by rw [hu]; rfl
  refine ⟨fun h => hexec (restart_of_incident hload h), fun h => ⟨fun hnone => hexec ?_, fun hsome => hexec ?_⟩⟩
  · rw [restart_of_other hload h, hu', answerOrder_unanswered (.inr (haddress.trans hnone))]
    exact loadReport_of_unaddressed (haddress.trans hnone)
  · rw [restart_of_other hload h, hu', loadReport_of_addressed (by rw [address_answerOrder, haddress, hsome]),
      cycle_answerOrder, hsequence]
    rfl

end Sys2Proof.Machine
end

section
/-! UNITS_START: the units begin from the field as it stands (R23, R64, R79, R95, R102, R153, R197). -/

namespace Sys2Proof.Machine

variable {s : State}

/-- The channels of the machine. -/
def sensorRows : Rows Channel 12 where
  get := State.channels
  put s v ks := { s with channels := v, keys := ks }

/-- A row-by-row change without keys offers none. -/
theorem append_flatMap_nil {n : Nat} (ks : List Key) : (ks ++ (List.finRange n).flatMap fun _ => ([] : List Key)) = ks := by
  rw [flatMap_const_nil, List.append_nil]

/-! ### Doors -/

/-- A door when the units start (R95, R102). -/
def State.startedDoor (s : State) (d : Fin 6) (x : Door) : Door :=
  if (s.doorTable[d]).present = false then { x with mode := .disabled, travelTimer := 0, dwellTimer := 0 }
  else Door.settled s.doorTable[d] (s.assigned (.doorClosed d) && s.assigned (.doorOpen d)) (s.shows d) x

theorem startDoor_eq (d : Fin 6) (s : State) : s.startDoor d = s.setDoor d (s.startedDoor d (s.door d)) := by
  unfold State.startDoor State.startedDoor State.deriveDoorSilently
  rw [derivedDoor_eq]
  show (if (s.doorTable[d]).present = true then _ else _) = _
  cases (s.doorTable[d]).present <;> rfl

theorem forEach_startDoor (s : State) :
    forEach State.startDoor s = { s with doors := tabulate fun d => s.startedDoor d s.doors[d] } := by
  refine (leafRows.forEach_eq_on s (body := State.startDoor) (m := fun d x => s.startedDoor d x) (k := fun _ _ => [])
    fun d v ks => ?_).trans ?_
  · rw [startDoor_eq, List.append_nil]
    rfl
  · rw [append_flatMap_nil]
    rfl

/-! ### Fans -/

/-- A fan when the units start, before its target is formed (R64, R79). -/
def State.wakingFan (s : State) (f : Fin 6) (x : Fan) : Fan :=
  { (if (s.fanTable[f]).present = false then x.off .disabled 0
    else if s.signalActive (.fanIsolator f) = true then x.off .isolated 0
    else x.off .coasting ((s.fanTable[f]).coastTime * 100)) with
    pressurisationSlot := s.pressurisationDemand f }

/-- A fan when the units start (R64, R68, R79). -/
def State.startedFan (s : State) (f : Fin 6) (x : Fan) : Fan :=
  { s.wakingFan f x with target := (s.wakingFan f x).resolved s.fanTable[f] }

theorem wakingFan_mode (s : State) (f : Fin 6) (x : Fan) :
    (s.wakingFan f x).mode = .disabled ∨ (s.wakingFan f x).mode = .isolated ∨ (s.wakingFan f x).mode = .coasting := by
  unfold State.wakingFan Fan.off
  dsimp only
  split
  · exact .inl rfl
  · split
    · exact .inr (.inl rfl)
    · exact .inr (.inr rfl)

/-- A drive that is off and not in STOPPED takes no action on its target (R50). -/
theorem act_of_held (e : FanEntry) (confirmed : Bool) {x : Fan}
    (h : x.mode = .disabled ∨ x.mode = .isolated ∨ x.mode = .coasting) : x.act e confirmed = x := by
  unfold Fan.act
  rcases h with h | h | h <;> rw [h]

theorem writePressurisation_setFan (s : State) (f : Fin 6) (x : Fan) :
    (s.setFan f x).writePressurisation f = s.setFan f { x with pressurisationSlot := s.pressurisationDemand f } := by
  unfold State.writePressurisation
  rw [fan_setFan_same, setFan_setFan]
  rfl

theorem resolveFan_setFan_of_held (s : State) (f : Fin 6) {x : Fan}
    (h : x.mode = .disabled ∨ x.mode = .isolated ∨ x.mode = .coasting) :
    (s.setFan f x).resolveFan f = s.setFan f { x with target := x.resolved s.fanTable[f] } := by
  unfold State.resolveFan
  dsimp only
  rw [fan_setFan_same, setFan_setFan, act_of_held]
  · rfl
  · exact h

theorem startFan_eq (f : Fin 6) (s : State) : s.startFan f = s.setFan f (s.startedFan f (s.fan f)) := by
  have hwrite : (s.setFan f
      (if (s.fanTable[f]).present = false then (s.fan f).off .disabled 0
      else if s.signalActive (.fanIsolator f) = true then (s.fan f).off .isolated 0
      else (s.fan f).off .coasting ((s.fanTable[f]).coastTime * 100))).writePressurisation f =
      s.setFan f (s.wakingFan f (s.fan f)) := writePressurisation_setFan ..
  exact (congrArg (State.resolveFan f) hwrite).trans (resolveFan_setFan_of_held s f (wakingFan_mode s f _))

theorem forEach_startFan (s : State) :
    forEach State.startFan s = { s with fans := tabulate fun f => s.startedFan f s.fans[f] } := by
  refine (driveRows.forEach_eq_on s (body := State.startFan) (m := fun f x => s.startedFan f x) (k := fun _ _ => [])
    fun f v ks => ?_).trans ?_
  · rw [startFan_eq, List.append_nil]
    rfl
  · rw [append_flatMap_nil]
    rfl

/-! ### Channels -/

/-- A channel when the units start (R23). -/
def startedChannel (e : ChannelEntry) : Channel := if e.enabled = true then .enabledUnder e else .off

theorem forEach_startChannel (s : State) :
    forEach State.startChannel s = { s with channels := tabulate fun n => startedChannel s.channelTable[n] } := by
  refine (sensorRows.forEach_eq_on s (body := State.startChannel) (m := fun n _ => startedChannel s.channelTable[n])
    (k := fun _ _ => []) fun n v ks => ?_).trans ?_
  · rw [List.append_nil]
    rfl
  · rw [append_flatMap_nil]
    rfl

/-! ### The start -/

/-- The units as they start, before the pins follow. -/
def State.unitsStarted (s : State) : State :=
  { s with
    load := .running
    channels := tabulate fun n => startedChannel s.channelTable[n]
    doors := tabulate fun d => s.startedDoor d s.doors[d]
    fans := tabulate fun f => s.startMode.startedFan f s.fans[f]
    engine := { s.engine with mode := if s.signalActive .maintKey then .maintenance else .normal }
    cycle := { s.cycle with localTimer := some 100 } }

theorem startUnits_eq (s : State) : s.startUnits = s.unitsStarted.followed := by
  unfold State.startUnits
  rw [followPins_eq, forEach_startDoor, forEach_startFan, forEach_startChannel]
  rfl

/-- Settles O60: the steps of the start unit by unit, each from the field as it stands. -/
theorem unitsStartFromTheFieldAsItStands : Obligations.UnitsStartFromTheFieldAsItStands := by
  unfold Obligations.UnitsStartFromTheFieldAsItStands
  refine fun s => ⟨fun h => congrArg Host.Outcome.next (if_neg h), fun h => ⟨s.unitsStarted, ?_, rfl, fun n => ?_, fun f x hx => ?_, fun d => ?_⟩⟩
  · exact congrArg Host.Outcome.next ((if_pos h).trans (startUnits_eq s))
  · exact getElem_tabulate _ n.val n.isLt
  · rw [hx]
    exact getElem_tabulate _ f.val f.isLt
  · exact getElem_tabulate _ d.val d.isLt

end Sys2Proof.Machine
end

section
/-! The page reads of the load and the build of the Response Index (R173, R174). -/

namespace Sys2Proof.Machine

variable {s : State}

/-! ### A page read of the load -/

/-- A page that no read of the load breaks an erase of. -/
def StoreState.spares (x : StoreState) (r : Fin 48) : Prop := x.mode = .erasing → x.operationPage ≠ some r

/-- A page read of the load leaves every page it spares, and the store as it was outside ERASING. -/
theorem loadRead_spec (s : State) :
    ∃ (cells : Mem) (drawn : Nat),
      s.loadRead = { s with freeCount := drawn, store := { s.store with cells := cells } } ∧
        (s.store.mode ≠ .erasing → drawn = s.freeCount ∧ cells = s.store.cells) ∧
        ∀ r, s.store.spares r → Mem.readBytes cells (512 * r.val) 512 = s.store.page r := by
  unfold State.loadRead
  by_cases hm : s.store.mode = .erasing
  · rw [if_pos hm]
    unfold State.partErase
    cases hop : s.store.operationPage with
    | none => exact ⟨s.store.cells, s.freeCount, rfl, fun h => absurd hm h, fun _ _ => rfl⟩
    | some q =>
      have hlen := length_brokenPage s q
      unfold State.brokenPage at hlen
      dsimp only
      generalize List.zipWith _ _ _ = bytes at hlen ⊢
      exact ⟨(s.store.setPage q bytes).cells, s.freeCount + 512, rfl, fun h => absurd hm h,
        fun r hr => readBytes_setPage_ne _ hlen fun h => hr hm (h ▸ hop)⟩
  · rw [if_neg hm]
    exact ⟨s.store.cells, s.freeCount, rfl, fun _ => ⟨rfl, rfl⟩, fun _ _ => rfl⟩

theorem loadRead_of_other (h : s.store.mode ≠ .erasing) : s.loadRead = s := if_neg h

/-- A page read of the load breaks off an erase: bits of its page are only set. -/
theorem loadRead_of_erasing {q : Fin 48} (hm : s.store.mode = .erasing) (hop : s.store.operationPage = some q) :
    ∃ (cells : Mem) (drawn : Nat) (broken : List Byte),
      s.loadRead = { s with freeCount := drawn, store := { s.store with cells := cells } } ∧
        (∀ r : Fin 48, r ≠ q → Mem.readBytes cells (512 * r.val) 512 = s.store.page r) ∧
        Mem.readBytes cells (512 * q.val) 512 = broken ∧
        ∀ i : Nat, (s.store.page q).getD i 0xFF &&& broken.getD i 0xFF = (s.store.page q).getD i 0xFF := by
  have hlen := length_brokenPage s q
  have hand := and_brokenPage s q
  unfold State.loadRead State.partErase
  rw [if_pos hm, hop]
  unfold State.brokenPage at hlen hand
  dsimp only
  generalize List.zipWith _ _ _ = bytes at hlen hand ⊢
  exact ⟨(s.store.setPage q bytes).cells, s.freeCount + 512, bytes, rfl, fun r hr => readBytes_setPage_ne _ hlen hr,
    readBytes_setPage_same _ _ hlen, hand⟩

/-! ### The build of the index -/

/-- What the build of the index makes of the state over the pages it has read. -/
structure State.BuiltFrom (s t : State) (read : List (Fin 32)) : Prop where
  frame : t =
    { s with
      freeCount := t.freeCount, store := { s.store with cells := t.store.cells }
      engine := { s.engine with index := t.engine.index } }
  kept : s.store.mode ≠ .erasing → t.freeCount = s.freeCount ∧ t.store.cells = s.store.cells
  pages : ∀ r, s.store.spares r → t.store.page r = s.store.page r
  entries : ∀ n : Fin 128, s.store.spares (responsePage n) →
    t.engine.index[n] =
      if ∃ p ∈ read, p.val = n.val / 4 then pageIndexEntry (s.store.page (responsePage n)) n else s.engine.index[n]

theorem builtFrom_nil (s : State) : s.BuiltFrom s [] where
  frame := rfl
  kept _ := ⟨rfl, rfl⟩
  pages _ _ := rfl
  entries n _ := (if_neg (by simp)).symm

theorem builtFrom_buildPage (p : Fin 32) (s : State) : s.BuiltFrom (s.buildPage p) [p] := by
  obtain ⟨cells, drawn, hread, hkept, hpages⟩ := loadRead_spec s
  unfold State.buildPage
  rw [hread]
  refine ⟨rfl, hkept, hpages, fun n hn => ?_⟩
  have hpage : Mem.readBytes cells (512 * (responsePage n).val) 512 = s.store.page (responsePage n) := hpages _ hn
  refine (getElem_tabulate _ n.val n.isLt).trans ?_
  dsimp only
  by_cases h : p.val = n.val / 4
  · have hp : responsePage n = ⟨p.val, by omega⟩ := Fin.ext h.symm
    rw [if_pos hp, if_pos ⟨p, List.mem_singleton.2 rfl, h⟩, ← hp]
    exact congrArg (pageIndexEntry · n) hpage
  · have hp : ¬responsePage n = ⟨p.val, by omega⟩ := fun e => h (congrArg Fin.val e).symm
    rw [if_neg hp, if_neg (by simpa using h)]

theorem State.BuiltFrom.trans {s t u : State} {l m : List (Fin 32)} (h : s.BuiltFrom t l) (h' : t.BuiltFrom u m) :
    s.BuiltFrom u (l ++ m) := by
  have hmode : t.store.mode = s.store.mode := (congrArg (fun x : State => x.store.mode) h.frame :)
  have hop : t.store.operationPage = s.store.operationPage := (congrArg (fun x : State => x.store.operationPage) h.frame :)
  have hspares (r : Fin 48) (hr : s.store.spares r) : t.store.spares r := by
    unfold StoreState.spares
    rw [hmode, hop]
    exact hr
  constructor
  case frame =>
    have h1 := h.frame
    have h2 := h'.frame
    rw [h1] at h2
    exact h2
  case kept =>
    intro hm
    obtain ⟨hf, hc⟩ := h.kept hm
    obtain ⟨hf', hc'⟩ := h'.kept (hmode ▸ hm)
    exact ⟨hf'.trans hf, hc'.trans hc⟩
  case pages => exact fun r hr => (h'.pages r (hspares r hr)).trans (h.pages r hr)
  case entries =>
    intro n hn
    rw [h'.entries n (hspares _ hn), h.pages _ hn, h.entries n hn]
    by_cases hm : ∃ p ∈ m, p.val = n.val / 4
    · obtain ⟨p, hp, he⟩ := hm
      rw [if_pos ⟨p, hp, he⟩, if_pos ⟨p, List.mem_append_right _ hp, he⟩]
    · rw [if_neg hm]
      refine if_congr (exists_congr fun p => ?_) rfl rfl
      rw [List.mem_append]
      exact ⟨fun ⟨hp, he⟩ => ⟨.inl hp, he⟩, fun ⟨hp, he⟩ => ⟨hp.resolve_right fun hp => hm ⟨p, hp, he⟩, he⟩⟩

theorem builtFrom_buildIndex (s : State) : s.BuiltFrom s.buildIndex (List.finRange 32) := by
  have hfold (l : List (Fin 32)) (s : State) : s.BuiltFrom (l.foldl (fun s p => s.buildPage p) s) l := by
    induction l generalizing s with
    | nil => exact builtFrom_nil s
    | cons p l ih => exact (builtFrom_buildPage p s).trans (ih (s.buildPage p))
  exact hfold _ s

/-- Every entry of the index is made from its page, where no erase is broken off in it. -/
theorem index_buildIndex (s : State) (n : Fin 128) (hn : s.store.spares (responsePage n)) :
    s.buildIndex.engine.index[n] = pageIndexEntry (s.store.page (responsePage n)) n :=
  ((builtFrom_buildIndex s).entries n hn).trans
    (if_pos ⟨⟨n.val / 4, by omega⟩, List.mem_finRange _, rfl⟩)

end Sys2Proof.Machine
end

section
/-! The records of an image page, walked one after another (R175, R200). -/

namespace Sys2Proof.Machine

/-! ### Words and their bytes -/

theorem length_bytesOf (ws : List Word) : (bytesOf ws).length = 2 * ws.length := by
  rw [bytesOf, length_flatMap_of_forall (g := bytesOfWord) (n := 2) ws fun _ _ => rfl, Nat.mul_comm]

theorem wordsOf_bytesOf (ws : List Word) : wordsOf (bytesOf ws) = ws := by
  induction ws with
  | nil => rfl
  | cons w ws ih => exact congrArg₂ List.cons (wordOf_extract w) ih

/-! ### A record -/

/-- A record of an image page: the id of its table, its first entry, its count and its words (R200). -/
abbrev ImageRecord := Byte × Byte × Byte × List Word

/-- The bytes of a record (R200). -/
def imageBytes (r : ImageRecord) : List Byte := [r.1, r.2.1, r.2.2.1] ++ bytesOf r.2.2.2

/-- A record that the walk takes: its id is not the end mark, and it has the words its table asks for. -/
def walks (r : ImageRecord) : Prop := r.1 ≠ 0xFF ∧ r.2.2.2.length = r.2.2.1.toNat * recordLength r.1.toNat

/-- A record applied (R175). -/
def State.applyImageRecord (after : Bool) (u : State) (r : ImageRecord) : State :=
  u.applyRecord after r.1.toNat r.2.1.toNat r.2.2.1.toNat r.2.2.2

theorem recordLength_eq (id : Nat) :
    recordLength id = ((TableId.all.find? fun t => decide (t.code = id)).map TableId.length).getD 1 := by
  unfold recordLength tableOf
  cases TableId.all.find? fun t => decide (t.code = id) <;> rfl

/-! ### The walk -/

section Walk

variable {after : Bool} {page : List Byte} {fuel pos : Nat} {s : State}

/-- What stands in a page from a byte on, before its marker and check. -/
def pageRest (page : List Byte) (pos : Nat) : List Byte := (page.take 508).drop pos

theorem length_pageRest (hlen : page.length = 512) (pos : Nat) : (pageRest page pos).length = 508 - pos := by
  rw [pageRest, List.length_drop, List.length_take, hlen]
  rfl

theorem byteAt_pageRest {i : Nat} (h : pos + i < 508) : byteAt page (pos + i) = byteAt (pageRest page pos) i := by
  unfold byteAt pageRest
  rw [List.getD_eq_getElem?_getD, List.getD_eq_getElem?_getD, List.getElem?_drop, List.getElem?_take_of_lt h]

theorem recordWords_pageRest {words : Nat} (h : pos + 3 + 2 * words ≤ 508) :
    recordWords page (pos + 3) words = wordsOf (((pageRest page pos).drop 3).take (2 * words)) := by
  unfold recordWords pageRest
  rw [List.drop_drop, List.drop_take, List.take_take, Nat.min_eq_left (by omega)]

/-- The walk ends at an end mark and where the page's records fill it. -/
theorem applyRecords_of_end (hlen : page.length = 512) (h : pageRest page pos = [] ∨ (pageRest page pos).head? = some 0xFF) :
    applyRecords after page fuel pos s = s := by
  cases fuel with
  | zero => rfl
  | succ fuel =>
    unfold applyRecords
    by_cases hpos : 508 ≤ pos
    · rw [if_pos hpos]
    · have hrest := length_pageRest hlen pos
      have hmark : byteAt page pos = 0xFF := by
        rcases h with h | h
        · rw [h, List.length_nil] at hrest
          omega
        · have hb := byteAt_pageRest (page := page) (pos := pos) (i := 0) (by omega)
          rw [Nat.add_zero] at hb
          rw [hb]
          exact byteAt_of_getElem? (by rw [← List.head?_eq_getElem?, h])
      rw [if_neg hpos, if_pos hmark]

/-- A record that runs past byte 507 ends the walk with IMAGE_REFUSED. -/
theorem applyRecords_of_cut (hlen : page.length = 512) (hfuel : 508 ≤ pos + 3 * fuel) (hne : pageRest page pos ≠ [])
    (hmark : (pageRest page pos).head? ≠ some 0xFF)
    (hcut : (pageRest page pos).length < 3 ∨
      (pageRest page pos).length <
        3 + 2 * (((pageRest page pos).getD 2 0).toNat * recordLength ((pageRest page pos).getD 0 0).toNat)) :
    applyRecords after page fuel pos s = s.latch .imageRefused := by
  have hrest := length_pageRest hlen pos
  have hpos : pos < 508 := by
    have := List.length_pos_iff.2 hne
    omega
  obtain ⟨fuel, rfl⟩ : ∃ k, fuel = k + 1 := ⟨fuel - 1, by omega⟩
  have hat (i : Nat) (hi : pos + i < 508) : (pageRest page pos)[i]? = some (byteAt page (pos + i)) := by
    rw [byteAt_pageRest hi, byteAt, List.getD_eq_getElem?_getD]
    rw [List.getElem?_eq_getElem (by omega)]
    rfl
  have hfirst : byteAt page pos ≠ 0xFF := fun h => hmark (by rw [List.head?_eq_getElem?, hat 0 hpos, Nat.add_zero, h])
  unfold applyRecords
  rw [if_neg (by omega), if_neg hfirst]
  by_cases h3 : 508 < pos + 3
  · rw [if_pos h3]
  · rw [if_neg h3]
    refine if_pos ?_
    have hid : (pageRest page pos).getD 0 0 = byteAt page pos := by
      rw [List.getD_eq_getElem?_getD, hat 0 hpos]
      rfl
    have hcount : (pageRest page pos).getD 2 0 = byteAt page (pos + 2) := by
      rw [List.getD_eq_getElem?_getD, hat 2 (by omega)]
      rfl
    rw [hid, hcount] at hcut
    omega

/-- The walk takes a record and goes on behind it. -/
theorem applyRecords_of_record (hlen : page.length = 512) (hfuel : 508 ≤ pos + 3 * fuel) {r : ImageRecord} (hr : walks r)
    {tail : List Byte} (hpage : pageRest page pos = imageBytes r ++ tail) :
    ∃ fuel' pos', 508 ≤ pos' + 3 * fuel' ∧ pageRest page pos' = tail ∧
      applyRecords after page fuel pos s = applyRecords after page fuel' pos' (s.applyImageRecord after r) := by
  obtain ⟨hid, hwords⟩ := hr
  have hbytes : (imageBytes r).length = 3 + 2 * r.2.2.2.length := by
    rw [imageBytes, List.length_append, length_bytesOf]
    rfl
  have hrest := length_pageRest hlen pos
  have hfits : pos + 3 + 2 * r.2.2.2.length ≤ 508 := by
    rw [hpage, List.length_append, hbytes] at hrest
    omega
  obtain ⟨fuel, rfl⟩ : ∃ k, fuel = k + 1 := ⟨fuel - 1, by omega⟩
  have hat (i : Nat) (hi : pos + i < 508) : byteAt page (pos + i) = byteAt (imageBytes r ++ tail) i := by
    rw [byteAt_pageRest hi, hpage]
  have h0 : byteAt page pos = r.1 := hat 0 (by omega)
  have h1 : byteAt page (pos + 1) = r.2.1 := hat 1 (by omega)
  have h2 : byteAt page (pos + 2) = r.2.2.1 := hat 2 (by omega)
  have hrecord : recordWords page (pos + 3) r.2.2.2.length = r.2.2.2 := by
    have hdrop : (imageBytes r ++ tail).drop 3 = bytesOf r.2.2.2 ++ tail := rfl
    rw [recordWords_pageRest hfits, hpage, hdrop, ← length_bytesOf, List.take_left, wordsOf_bytesOf]
  refine ⟨fuel, pos + 3 + 2 * r.2.2.2.length, by omega, ?_, ?_⟩
  · have hskip : pageRest page (pos + 3 + 2 * r.2.2.2.length) = (pageRest page pos).drop (3 + 2 * r.2.2.2.length) := by
      rw [pageRest, pageRest, List.drop_drop, Nat.add_assoc]
    rw [hskip, hpage, ← hbytes, List.drop_left]
  · have hmark : byteAt page pos ≠ 0xFF := fun h => hid (h0.symm.trans h)
    conv_lhs => unfold applyRecords
    rw [if_neg (by omega), if_neg hmark, if_neg (by omega)]
    dsimp only
    rw [h0, h1, h2, ← hwords, if_neg (by omega), hrecord]
    rfl

/-- The walk takes every record that stands in front of it. -/
theorem applyRecords_of_records (hlen : page.length = 512) (records : List ImageRecord) (hrecords : ∀ r ∈ records, walks r)
    (hfuel : 508 ≤ pos + 3 * fuel) {tail : List Byte} (hpage : pageRest page pos = records.flatMap imageBytes ++ tail) :
    ∃ fuel' pos', 508 ≤ pos' + 3 * fuel' ∧ pageRest page pos' = tail ∧
      applyRecords after page fuel pos s =
        applyRecords after page fuel' pos' (records.foldl (State.applyImageRecord after) s) := by
  induction records generalizing s fuel pos with
  | nil => exact ⟨fuel, pos, hfuel, hpage, rfl⟩
  | cons r records ih =>
    rw [List.flatMap_cons, List.append_assoc] at hpage
    obtain ⟨fuel₁, pos₁, hfuel₁, hpage₁, heq₁⟩ :=
      applyRecords_of_record (after := after) (s := s) hlen hfuel (hrecords r List.mem_cons_self) hpage
    obtain ⟨fuel₂, pos₂, hfuel₂, hpage₂, heq₂⟩ :=
      ih (s := s.applyImageRecord after r) (fun q hq => hrecords q (List.mem_cons_of_mem r hq)) hfuel₁ hpage₁
    exact ⟨fuel₂, pos₂, hfuel₂, hpage₂, heq₁.trans heq₂⟩

end Walk

theorem applyImagePage_of_refused {after : Bool} {page : List Byte} (s : State) (h : pageValid page = false) :
    s.applyImagePage after page = s.latch .imageRefused := if_neg (by rw [h]; exact Bool.false_ne_true)

/-- The records of a valid page and what stands behind them (R175, R200). -/
theorem applyImagePage_of_records {after : Bool} {page rest : List Byte} (s : State) (hvalid : pageValid page = true)
    (hlen : page.length = 512) {records : List ImageRecord} (hrecords : ∀ r ∈ records, walks r)
    (hpage : page.take 508 = records.flatMap imageBytes ++ rest) :
    (rest = [] ∨ rest.head? = some 0xFF →
      s.applyImagePage after page = records.foldl (State.applyImageRecord after) s) ∧
      (rest ≠ [] → rest.head? ≠ some 0xFF →
        rest.length < 3 ∨ rest.length < 3 + 2 * ((rest.getD 2 0).toNat * recordLength (rest.getD 0 0).toNat) →
        s.applyImagePage after page = (records.foldl (State.applyImageRecord after) s).latch .imageRefused) := by
  obtain ⟨fuel, pos, hfuel, rfl, heq⟩ :=
    applyRecords_of_records (after := after) (page := page) (fuel := 170) (pos := 0) (s := s) hlen records hrecords (by omega)
      hpage
  have hwalk : s.applyImagePage after page = applyRecords after page fuel pos _ := (if_pos hvalid).trans heq
  exact ⟨fun h => hwalk.trans (applyRecords_of_end hlen h),
    fun hne hmark hcut => hwalk.trans (applyRecords_of_cut hlen hfuel hne hmark hcut)⟩

end Sys2Proof.Machine
end

section
/-! An image record applied, and IMAGE_REPLAY (R23, R64, R102, R133, R174, R175, R186). -/

namespace Sys2Proof.Machine

variable {s : State}

/-! ### What storing and the units make of the tables -/

/-- The nine writable tables. -/
def State.tables (s : State) :=
  (s.nodeTable, s.channelTable, s.calibrationTable, s.fanTable, s.doorTable, s.watchTable, s.neighbourTable, s.triggerTable,
    s.pointTable)

/-- A state with the nine writable tables of another. -/
def State.withTables (s w : State) : State :=
  { s with
    nodeTable := w.nodeTable, channelTable := w.channelTable, calibrationTable := w.calibrationTable
    fanTable := w.fanTable, doorTable := w.doorTable, watchTable := w.watchTable
    neighbourTable := w.neighbourTable, triggerTable := w.triggerTable, pointTable := w.pointTable }

theorem withTables_congr {w w' : State} (h : w.tables = w'.tables) (s : State) : s.withTables w = s.withTables w' := by
  simp only [State.tables, Prod.mk.injEq] at h
  obtain ⟨h1, h2, h3, h4, h5, h6, h7, h8, h9⟩ := h
  unfold State.withTables
  rw [h1, h2, h3, h4, h5, h6, h7, h8, h9]

theorem Moves.tables {C : Prop} {s t : State} (h : Moves C s t) : t.tables = s.tables := by
  unfold State.tables
  rw [h.nodeTable, h.channelTable, h.calibrationTable, h.fanTable, h.doorTable, h.watchTable, h.neighbourTable,
    h.triggerTable, h.pointTable]

theorem tables_ite {c : Prop} [Decidable c] {u x y : State} (hx : x.tables = u.tables) (hy : y.tables = u.tables) :
    (if c then x else y).tables = u.tables := by
  split
  · exact hx
  · exact hy

theorem tables_channelWritten (u : State) (n : Fin 12) (old : ChannelEntry) : (u.channelWritten n old).tables = u.tables := by
  rw [channelWritten_eq]
  exact tables_ite rfl (tables_ite (tables_ite rfl ((congrArg State.tables (latch_eq _ _) :).trans rfl)) rfl)

theorem tables_unitActs (before u : State) (p : Nat × TableEntry) : (State.unitActs before u p).tables = u.tables := by
  unfold State.unitActs
  split
  · split
    · exact tables_channelWritten ..
    · rfl
  · split
    · exact tables_ite rfl (fanWritten_moves (C := True) ..).tables
    · rfl
  · split
    · exact tables_ite rfl (doorWritten_moves (C := True) ..).tables
    · rfl
  · exact tables_ite rfl (recomputeGallery_moves (C := True) u).tables
  all_goals rfl

/-- The tables a taken write leaves are those its entries are stored in. -/
theorem tables_takeBatch {b : Batch} (hb : b.ofPoints = false) (s : State) : (s.takeBatch b).tables = (s.storeBatch b).tables := by
  unfold State.takeBatch
  rw [hb]
  exact foldl_rel (R := fun s t => t.tables = s.tables) (fun _ => rfl) (fun _ _ _ h h' => h'.trans h)
    (fun u p => tables_unitActs s u p) b _

/-- Storing changes the tables and may offer keys; it does nothing else (R192). -/
theorem storeBatch_eq_withTables (b : Batch) (s : State) :
    s.storeBatch b = { s.withTables (s.storeBatch b) with keys := (s.storeBatch b).keys } := by
  refine foldl_rel (R := fun s t => t = { s.withTables t with keys := t.keys }) (fun _ => rfl) (fun s t u h h' => ?_)
    (fun s p => ?_) b s
  · rw [h] at h'
    exact h'
  · unfold State.storeEntry
    split
    · rfl
    case h_6 => split <;> [rw [writeWatchEntry_eq]; rfl]; rfl
    case h_7 => split <;> [rw [writeNeighbour_eq]; rfl]; rfl
    all_goals split <;> rfl

/-! ### The channels of a record -/

/-- A channel after a record has set its entry (R23). -/
def loadedChannel (e : ChannelEntry) : Channel :=
  { Channel.off with mode := if e.enabled = false then .off else if e.warmUp = 0 then .run else .warming }

theorem channelLoaded_eq (n : Fin 12) (u : State) : u.channelLoaded n = u.setChannel n (loadedChannel u.channelTable[n]) := by
  have hmode : (if (u.channelTable[n]).enabled = true then
      if (u.channelTable[n]).warmUp = 0 then ChannelMode.run else .warming else .off) =
      if (u.channelTable[n]).enabled = false then .off else if (u.channelTable[n]).warmUp = 0 then .run else .warming := by
    cases (u.channelTable[n]).enabled <;> rfl
  exact congrArg (fun m => u.setChannel n { Channel.off with mode := m }) hmode

theorem foldl_recordActs_of_other {first : Nat} {es : List TableEntry} (h : ∀ e ∈ es, e.table ≠ .channel) (u : State) :
    (runFrom first es).foldl State.recordActs u = u := by
  induction es generalizing first with
  | nil => rfl
  | cons e es ih =>
    have he := h e List.mem_cons_self
    rw [runFrom_cons, List.foldl_cons]
    have hact : u.recordActs (first, e) = u := by
      cases e with
      | channel => exact absurd rfl he
      | _ => rfl
    rw [hact]
    exact ih fun e' he' => h e' (List.mem_cons_of_mem e he')

theorem foldl_recordActs_of_channel {first : Nat} {es : List TableEntry} (h : ∀ e ∈ es, e.table = .channel)
    (hfits : first + es.length ≤ 12) (u : State) :
    (runFrom first es).foldl State.recordActs u =
      { u with
        channels :=
          tabulate fun n =>
            if first ≤ n.val ∧ n.val < first + es.length then loadedChannel u.channelTable[n] else u.channels[n] } := by
  rw [foldl_runFrom 12 State.recordActs first es hfits]
  refine (sensorRows.forEach_eq_on u
    (body := fun i v => ((runEntry first es i.val).map fun e => v.recordActs (i.val, e)).getD v)
    (m := fun n x => if first ≤ n.val ∧ n.val < first + es.length then loadedChannel u.channelTable[n] else x)
    (k := fun _ _ => []) fun i v ks => ?_).trans ?_
  · rw [List.append_nil]
    by_cases hi : first ≤ i.val ∧ i.val < first + es.length
    · have hget : es[i.val - first]? = some es[i.val - first] := List.getElem?_eq_getElem (by omega)
      have hentry : runEntry first es i.val = some es[i.val - first] := (if_pos hi.1).trans hget
      have htable := h _ (List.getElem_mem (by omega : i.val - first < es.length))
      rw [hentry, if_pos hi]
      generalize es[i.val - first] = e at htable
      cases e with
      | channel e =>
        have hact : State.recordActs (sensorRows.put u v ks) (i.val, .channel e) =
            State.channelLoaded i (sensorRows.put u v ks) := dif_pos i.isLt
        exact hact.trans (channelLoaded_eq i _)
      | _ => cases htable
    · have hentry : runEntry first es i.val = none := by
        unfold runEntry
        split
        · exact List.getElem?_eq_none (by omega)
        · rfl
      have hself : v.set i.val v[i] = v := Vector.set_getElem_self ..
      rw [hentry, if_neg hi, hself]
      rfl
  · rw [append_flatMap_nil]
    rfl

/-! ### A record taken -/

theorem ofPoints_of_table {first : Nat} {es : List TableEntry} {t : TableId} (ht : t ≠ .point)
    (hes : ∀ e ∈ es, e.table = t) : (runFrom first es).ofPoints = false := by
  rw [ofPoints_runFrom, List.any_eq_false]
  intro e he hp
  cases e with
  | point => exact ht (hes _ he).symm
  | _ => exact Bool.false_ne_true hp

/-- A record of a table without points taken: its tables stored, and channels shown as their entries give them. -/
theorem takeRecord_of_tables {first : Nat} {es : List TableEntry} {t : TableId} (ht : t ≠ .point) (hes : ∀ e ∈ es, e.table = t)
    (hfits : first + es.length ≤ t.limit) (s : State) :
    s.takeRecord (runFrom first es) =
      { s.withTables (s.takeBatch (runFrom first es)) with
        channels :=
          tabulate fun n =>
            if t = .channel ∧ first ≤ n.val ∧ n.val < first + es.length then
              loadedChannel ((s.takeBatch (runFrom first es)).channelTable[n])
            else s.channels[n] } := by
  have hpoints := ofPoints_of_table (first := first) ht hes
  have htables := tables_takeBatch hpoints s
  have htable : (s.takeBatch (runFrom first es)).channelTable = (s.storeBatch (runFrom first es)).channelTable :=
    congrArg (fun x => x.2.1) htables
  have hstored := storeBatch_eq_withTables (runFrom first es) s
  unfold State.takeRecord
  rw [hpoints, withTables_congr htables, htable]
  generalize s.storeBatch (runFrom first es) = stored at hstored ⊢
  by_cases hc : t = .channel
  · subst hc
    dsimp only
    rw [foldl_recordActs_of_channel hes hfits]
    simp only [true_and]
    rw [hstored]
    rfl
  · have hid : (tabulate fun n : Fin 12 => if t = .channel ∧ first ≤ n.val ∧ n.val < first + es.length then
        loadedChannel stored.channelTable[n] else s.channels[n]) = s.channels := by
      refine Vector.ext fun n hn => ?_
      rw [getElem_tabulate]
      exact if_neg fun h => hc h.1
    dsimp only
    rw [foldl_recordActs_of_other fun e he => (hes e he).trans_ne hc, hid, hstored]
    rfl

/-- A record of points taken during the load: its entries stored, the acceptances they bring, and the pins following. -/
theorem takeRecord_of_points {first : Nat} {es : List PointEntry} (hload : s.load ≠ .running) (hes : es ≠ [])
    (hfits : first + es.length ≤ 64) :
    s.takeRecord (runFrom first (es.map .point)) = (s.takeBatch (runFrom first (es.map .point))).followed ∧
      s.takeBatch (runFrom first (es.map .point)) =
        { s with
          pointTable := overlaid s.pointTable first es
          points :=
            tabulate fun n =>
              (s.points[n]).lowered (s.pointTable[n]).filterTime ((overlaid s.pointTable first es)[n]).filterTime } := by
  have hnot : ¬({ s with pointTable := overlaid s.pointTable first es } : State).started = true := fun h =>
    hload ((State.started_iff _).1 h)
  have hpoints : (runFrom first (es.map TableEntry.point)).ofPoints = true := by
    rw [ofPoints_runFrom, List.any_map]
    obtain ⟨e, es, rfl⟩ := List.exists_cons_of_ne_nil hes
    rfl
  have hwritten : State.pointsWritten s { s with pointTable := overlaid s.pointTable first es } =
      { s with
        pointTable := overlaid s.pointTable first es
        points :=
          tabulate fun n =>
            (s.points[n]).lowered (s.pointTable[n]).filterTime ((overlaid s.pointTable first es)[n]).filterTime } := by
    unfold State.pointsWritten
    rw [forEach_acceptLowered]
    exact if_neg hnot
  refine ⟨?_, (takeBatch_points hes hfits).trans hwritten⟩
  have hacts : (runFrom first (es.map TableEntry.point)).foldl State.recordActs (s.storeBatch (runFrom first (es.map .point))) =
      { s with pointTable := overlaid s.pointTable first es } := by
    rw [foldl_recordActs_of_other (by simp [TableEntry.table]), storeBatch_point s first es hfits]
  unfold State.takeRecord
  rw [hacts, hpoints, takeBatch_points hes hfits, ← followPins_eq]
  rfl

end Sys2Proof.Machine
end

section
/-! IMAGE_REPLAY and the records it applies (R174, R175, R186). -/

namespace Sys2Proof.Machine

variable {s : State} {after : Bool} {id first count : Nat} {ws : List Word}

/-! ### A record by the outcome of its checks -/

theorem applyRecord_of_skipped (hafter : after = true) (hid : id = 9) : s.applyRecord after id first count ws = s :=
  if_pos ⟨hafter, hid⟩

/-- What the outcome of its checks makes of a record (R175). -/
def State.recordOutcome (s : State) (count : Nat) : WriteCheck → State
  | .taken _ b => s.takeRecord b
  | .outOfField => if count = 0 then s else s.latch .imageRefused
  | _ => s.latch .imageRefused

theorem recordOutcome_outOfField (s : State) (count : Nat) :
    s.recordOutcome count .outOfField = if count = 0 then s else s.latch .imageRefused := rfl

/-- A record that is not skipped comes to the checks of a write (R175). -/
theorem applyRecord_of_checked {x : WriteCheck} (h : after = false ∨ id ≠ 9)
    (hx : s.checkWrite true id first count ws = x) :
    s.applyRecord after id first count ws = s.recordOutcome count x := by
  have hnot : ¬(after = true ∧ id = TableId.point.code) := by
    rintro ⟨ha, hid⟩
    exact h.elim (fun hf => Bool.false_ne_true (hf.symm.trans ha)) fun hne => hne hid
  rw [State.applyRecord, if_neg hnot, hx]
  cases x <;> rfl

theorem checkBatch_of_image {t : TableId} {es : List TableEntry} (h : s.firstFault t first count ws = none)
    (hlen : es.length = count) (hes : ∀ k < count, t.parse (clampedValues t ws k) = es[k]?) :
    s.checkBatch true t first count ws = .taken (anyClamped t ws count) (runFrom first es) := by
  simp only [State.checkBatch, h, offeredBatch_eq_runFrom first t count ws es hlen hes]
  rfl

theorem exists_firstFault {t : TableId} (h : ∃ k < count, s.offersFault t first count ws k) :
    ∃ k, s.firstFault t first count ws = some k := by
  obtain ⟨k, hk, hf⟩ := h
  cases hfirst : s.firstFault t first count ws with
  | some k => exact ⟨k, rfl⟩
  | none => exact absurd ((entryFaulty_iff t k).2 hf) (List.find?_eq_none.1 hfirst k (List.mem_range.2 hk))

/-- A record of a table that is unknown or read-only (R175). -/
theorem applyRecord_of_unwritable (h : after = false ∨ id ≠ 9) (ht : ∀ t : TableId, t.code ≠ id ∨ 16 ≤ t.code) :
    s.applyRecord after id first count ws = s.latch .imageRefused := by
  cases htable : tableOf id with
  | none => exact applyRecord_of_checked h (x := .unknownTable) (by rw [State.checkWrite, htable])
  | some t =>
    have hcode := tableOf_eq_some_iff.1 htable
    have hro : t.writable = false := by
      rw [← Bool.not_eq_true, t.writable_iff]
      exact Nat.not_lt.2 ((ht t).resolve_left fun hne => hne hcode)
    exact applyRecord_of_checked h (x := .readOnly) (by rw [State.checkWrite, htable]; exact if_pos hro)

section Writable

variable {t : TableId} (h : after = false ∨ id ≠ 9) (ht : t.code = id) (hw : t.code < 16)

include h ht hw

/-- A record of count 0 writes nothing. -/
theorem applyRecord_of_empty (hlen : ws.length = 0) : s.applyRecord after id first 0 ws = s := by
  have hlength : ws.length = 0 * t.length := by rw [hlen, Nat.zero_mul]
  by_cases hlimit : first + 0 ≤ t.limit
  · have hcheck := (checkWrite_eq_checkBatch (s := s) (image := true) ht hw hlength hlimit).trans
      (checkBatch_of_image (es := []) rfl rfl nofun)
    exact applyRecord_of_checked h hcheck
  · have hcheck : s.checkWrite true id first 0 ws = .outOfField := by
      rw [State.checkWrite, tableOf_eq_some_iff.2 ht]
      dsimp only
      rw [if_neg (by simp [t.writable_iff.2 hw]), if_neg (by omega), if_neg (by omega), if_pos (by omega)]
    rw [applyRecord_of_checked h hcheck, recordOutcome_outOfField, if_pos rfl]

variable (hlen : ws.length = count * t.length)

include hlen

/-- A record past the field limit. -/
theorem applyRecord_of_past (hcount : 0 < count) (hlimit : t.limit < first + count) :
    s.applyRecord after id first count ws = s.latch .imageRefused := by
  have hcheck : s.checkWrite true id first count ws = .outOfField := by
    rw [State.checkWrite, tableOf_eq_some_iff.2 ht]
    dsimp only
    rw [if_neg (by simp [t.writable_iff.2 hw]), if_neg (by omega), if_neg (by omega), if_pos hlimit]
  rw [applyRecord_of_checked h hcheck, recordOutcome_outOfField, if_neg (by omega)]

variable (hlimit : first + count ≤ t.limit)

include hlimit

theorem applyRecord_of_fault (hfault : ∃ k < count, s.offersFault t first count ws k) :
    s.applyRecord after id first count ws = s.latch .imageRefused := by
  obtain ⟨k, hk⟩ := exists_firstFault hfault
  exact applyRecord_of_checked h
    ((checkWrite_eq_checkBatch (image := true) ht hw hlen hlimit).trans (checkBatch_of_fault hk))

/-- A record without a fault is taken. -/
theorem applyRecord_of_entries {es : List TableEntry} (hes : es.length = count)
    (hparse : ∀ k < count, ¬s.offersFault t first count ws k ∧ t.parse (clampedValues t ws k) = es[k]?) :
    s.applyRecord after id first count ws = s.takeRecord (runFrom first es) :=
  applyRecord_of_checked h
    ((checkWrite_eq_checkBatch (image := true) ht hw hlen hlimit).trans
      (checkBatch_of_image (firstFault_eq_none fun k hk => (hparse k hk).1) hes fun k hk => (hparse k hk).2))

end Writable

/-! ### What a page leaves alone -/

/-- The store, the free values drawn and the load as they were. -/
def State.sameLoad (s t : State) : Prop := t.store = s.store ∧ t.freeCount = s.freeCount ∧ t.load = s.load

theorem sameLoad_trans {s t u : State} (h : s.sameLoad t) (h' : t.sameLoad u) : s.sameLoad u :=
  ⟨h'.1.trans h.1, h'.2.1.trans h.2.1, h'.2.2.trans h.2.2⟩

theorem sameLoad_latch (s : State) (k : EventKind) : s.sameLoad (s.latch k) := by
  have hl := latch_eq s k
  exact ⟨(congrArg State.store hl :), (congrArg State.freeCount hl :), (congrArg State.load hl :)⟩

theorem sameLoad_takeRecord (b : Batch) (hload : s.load ≠ .running) : s.sameLoad (s.takeRecord b) := by
  have hstored : s.sameLoad (s.storeBatch b) := by
    have hs := storeBatch_eq_withTables b s
    exact ⟨(congrArg State.store hs :), (congrArg State.freeCount hs :), (congrArg State.load hs :)⟩
  have hacts : (s.storeBatch b).sameLoad (b.foldl State.recordActs (s.storeBatch b)) := by
    refine foldl_rel (R := State.sameLoad) (fun _ => ⟨rfl, rfl, rfl⟩) (fun _ _ _ => sameLoad_trans) (fun u p => ?_) b _
    unfold State.recordActs
    split
    · split <;> exact ⟨rfl, rfl, rfl⟩
    · exact ⟨rfl, rfl, rfl⟩
  have hacted := sameLoad_trans hstored hacts
  unfold State.takeRecord
  generalize b.foldl State.recordActs (s.storeBatch b) = acted at hacted ⊢
  obtain ⟨hstore, hfree, hload'⟩ := hacted
  have hnot : ¬({ acted with keys := s.keys } : State).started = true := fun hx =>
    hload (hload'.symm.trans ((State.started_iff _).1 hx))
  dsimp only
  split
  · unfold State.pointsWritten
    rw [forEach_acceptLowered, followPins_eq]
    dsimp only
    rw [if_neg hnot]
    exact ⟨hstore, hfree, hload'⟩
  · exact ⟨hstore, hfree, hload'⟩

theorem sameLoad_applyRecord (hload : s.load ≠ .running) : s.sameLoad (s.applyRecord after id first count ws) := by
  unfold State.applyRecord
  split
  · exact ⟨rfl, rfl, rfl⟩
  · split
    · exact sameLoad_takeRecord _ hload
    · split
      · exact ⟨rfl, rfl, rfl⟩
      · exact sameLoad_latch ..
    · exact sameLoad_latch ..

theorem sameLoad_applyRecords {page : List Byte} (fuel pos : Nat) (hload : s.load ≠ .running) :
    s.sameLoad (applyRecords after page fuel pos s) := by
  induction fuel generalizing pos s with
  | zero => exact ⟨rfl, rfl, rfl⟩
  | succ fuel ih =>
    unfold applyRecords
    dsimp only
    split_ifs
    · exact ⟨rfl, rfl, rfl⟩
    · exact ⟨rfl, rfl, rfl⟩
    · exact sameLoad_latch ..
    · exact sameLoad_latch ..
    · have hrecord := sameLoad_applyRecord (s := s) (after := after) (id := (byteAt page pos).toNat)
        (first := (byteAt page (pos + 1)).toNat) (count := (byteAt page (pos + 2)).toNat)
        (ws := recordWords page (pos + 3) ((byteAt page (pos + 2)).toNat * recordLength (byteAt page pos).toNat)) hload
      exact sameLoad_trans hrecord (ih _ (hrecord.2.2.symm ▸ hload))

theorem sameLoad_applyImagePage {page : List Byte} (hload : s.load ≠ .running) : s.sameLoad (s.applyImagePage after page) := by
  unfold State.applyImagePage
  split
  · exact sameLoad_applyRecords _ _ hload
  · exact sameLoad_latch ..

/-! ### IMAGE_REPLAY -/

theorem imageReplay_of_other (h : ∀ p after, s.load ≠ .image p after) : imageReplayEffect s = s := by
  unfold imageReplayEffect
  split
  next p after hl => exact absurd hl (h p after)
  next => rfl

theorem loadCanRead_iff :
    s.loadCanRead = true ↔ s.store.service = .idle ∧ s.store.mode ≠ .programming ∧ s.store.mode ≠ .eraseSuspended :=
  decide_eq_true_iff

theorem imageReplay_of_busy (h : s.store.service ≠ .idle ∨ s.store.mode = .programming ∨ s.store.mode = .eraseSuspended) :
    imageReplayEffect s = s := by
  unfold imageReplayEffect
  split
  · refine if_neg fun hc => ?_
    obtain ⟨h1, h2, h3⟩ := loadCanRead_iff.1 hc
    exact h.elim (· h1) (Or.elim · h2 h3)
  · rfl

theorem imageReplay_of_image {p : Fin 16} (hl : s.load = .image p after) (hc : s.loadCanRead = true) :
    imageReplayEffect s = s.replayPage p after := by
  unfold imageReplayEffect
  rw [hl]
  exact if_pos hc

end Sys2Proof.Machine
end

section
/-! IMAGE_REPLAY: each page moves the load on, and the last one builds the index (R174, R175). -/

namespace Sys2Proof.Machine

variable {s : State} {after : Bool}

/-- The state after the page of an IMAGE_REPLAY has been applied. -/
def State.pageApplied (s : State) (p : Fin 16) (after : Bool) : State :=
  s.loadRead.applyImagePage after (Mem.readBytes s.loadRead.store.cells (512 * (32 + p.val)) 512)

theorem replayPage_of_more {p : Fin 16} (h : p.val + 1 < 16) :
    s.replayPage p after = { s.pageApplied p after with load := .image ⟨p.val + 1, h⟩ after } := dif_pos h

theorem replayPage_of_last {p : Fin 16} (h : p.val = 15) :
    s.replayPage p after = { (s.pageApplied p after).buildIndex with load := .built } := dif_neg (by omega)

/-- A page applied leaves the store as the read of it left it. -/
theorem pageApplied_kept {p : Fin 16} (hload : s.load = .image p after) :
    (s.pageApplied p after).store.mode = s.store.mode ∧
      (s.store.mode ≠ .erasing → (s.pageApplied p after).freeCount = s.freeCount ∧
        (s.pageApplied p after).store.cells = s.store.cells) ∧
      ∀ r, s.store.spares r →
        (s.pageApplied p after).store.spares r ∧ (s.pageApplied p after).store.page r = s.store.page r := by
  obtain ⟨cells, drawn, hread, hkept, hpages⟩ := loadRead_spec s
  have hloading : s.loadRead.load ≠ .running := by
    rw [hread]
    exact hload.trans_ne nofun
  obtain ⟨hstore, hfree, -⟩ := sameLoad_applyImagePage (after := after)
    (page := Mem.readBytes s.loadRead.store.cells (512 * (32 + p.val)) 512) hloading
  change (s.pageApplied p after).store = _ at hstore
  change (s.pageApplied p after).freeCount = _ at hfree
  rw [hread] at hstore hfree
  rw [hstore, hfree]
  exact ⟨rfl, hkept, fun r hr => ⟨hr, hpages r hr⟩⟩

/-- The last page: the index built from the response pages (R174). -/
theorem replayPage_last_spec {p : Fin 16} (hload : s.load = .image p after) (hp : p.val = 15) {t : State}
    (ht : t = s.replayPage p after) :
    t =
        { s.pageApplied p after with
          load := .built
          freeCount := t.freeCount
          store := { (s.pageApplied p after).store with cells := t.store.cells }
          engine := { (s.pageApplied p after).engine with index := t.engine.index } } ∧
      (s.store.mode ≠ .erasing → t.freeCount = s.freeCount ∧ t.store.cells = s.store.cells) ∧
      (∀ q : Fin 48, s.store.spares q → t.store.page q = s.store.page q) ∧
      ∀ n : Fin 128, s.store.spares (responsePage n) →
        t.engine.index[n] = pageIndexEntry (s.store.page (responsePage n)) n := by
  obtain ⟨hmode, hkept, hspares⟩ := pageApplied_kept (after := after) hload
  have hbuilt := builtFrom_buildIndex (s.pageApplied p after)
  have hindex := index_buildIndex (s.pageApplied p after)
  rw [replayPage_of_last hp] at ht
  generalize s.pageApplied p after = applied at *
  generalize applied.buildIndex = built at hbuilt hindex ht
  subst ht
  refine ⟨congrArg (fun x : State => { x with load := .built }) hbuilt.frame, fun hm => ?_, fun q hq => ?_, fun n hn => ?_⟩
  · obtain ⟨hf, hc⟩ := hkept hm
    obtain ⟨hf', hc'⟩ := hbuilt.kept (hmode.trans_ne hm)
    exact ⟨hf'.trans hf, hc'.trans hc⟩
  · exact (hbuilt.pages q (hspares q hq).1).trans (hspares q hq).2
  · exact (hindex n (hspares _ hn).1).trans (congrArg (pageIndexEntry · n) (hspares _ hn).2)

/-- Settles O59: the replay by the load it finds, a page by its records, and a record by the outcome of its checks. -/
theorem imageReplayTakesTheNextPage : Obligations.ImageReplayTakesTheNextPage := by
  unfold Obligations.ImageReplayTakesTheNextPage
  refine ⟨fun s h => ?idle, fun s h => ?busy, fun s p after hload hservice hprogram hsuspend => ?replay,
    fun s after page => ⟨applyImagePage_of_refused s,
      fun records rest length applied hvalid hlen hlength hrecords hpage happlied => ?page⟩,
    fun s after id first count ws hload => ⟨applyRecord_of_skipped, fun h => ⟨applyRecord_of_unwritable h,
      fun t ht hw hlen => ⟨fun hcount => ?empty, applyRecord_of_past h ht hw hlen, fun hcount hlimit =>
        ⟨applyRecord_of_fault h ht hw hlen hlimit, fun es w hes hparse hw' => ?taken⟩⟩⟩⟩⟩
  case idle => exact congrArg Host.Outcome.next (imageReplay_of_other h)
  case busy => exact congrArg Host.Outcome.next (imageReplay_of_busy h)
  case replay =>
    have hexec : exec .imageReplay s = .next (s.replayPage p after) :=
      congrArg Host.Outcome.next (imageReplay_of_image hload (loadCanRead_iff.2 ⟨hservice, hprogram, hsuspend⟩))
    refine ⟨s.loadRead, s.pageApplied p after, s.replayPage p after, hexec, loadRead_of_other,
      fun q hm hop => loadRead_of_erasing hm hop, rfl, fun h => replayPage_of_more h, fun hp => ?_⟩
    obtain ⟨hframe, hkept, hpages, hindex⟩ := replayPage_last_spec hload hp rfl
    refine ⟨hframe, hkept, hpages, fun n page hpage hspare => ?_⟩
    have hspares : s.store.spares (responsePage n) := fun hm hop => hspare hm _ hop rfl
    rw [hindex n hspares, hpage]
    rfl
  case page =>
    have hlength' : (fun id : Byte => recordLength id.toNat) = length :=
      funext fun id => (recordLength_eq id.toNat).trans (hlength id).symm
    subst hlength'
    rw [happlied]
    exact applyImagePage_of_records s hvalid hlen hrecords hpage
  case empty =>
    rw [hcount]
    exact applyRecord_of_empty h ht hw (by rw [hlen, hcount, Nat.zero_mul])
  case taken =>
    have hentries := applyRecord_of_entries h ht hw hlen hlimit hes hparse
    have htables : ∀ e ∈ es, e.table = t := fun e he => by
      obtain ⟨k, hk, rfl⟩ := List.getElem_of_mem he
      have hp := (hparse k (hes ▸ hk)).2
      rw [List.getElem?_eq_getElem hk] at hp
      exact (parse_clampedValues_spec hp).1
    refine ⟨fun hne => ?_, fun hpoint => ?_⟩
    · have hkept := ofPoints_of_table (first := first) hne htables
      have hpoints : w.pointTable = s.pointTable := by
        have htables' : w.tables = (s.storeBatch (runFrom first es)).tables := hw' ▸ tables_takeBatch hkept s
        have hlast := congrArg (fun x => x.2.2.2.2.2.2.2.2) htables'
        exact hlast.trans ((storeBatch_frame _ s).2.2.2 hkept)
      rw [hentries, takeRecord_of_tables hne htables (hes ▸ hlimit) s, ← hw', hes]
      unfold State.withTables
      rw [hpoints]
      rfl
    · subst hpoint
      obtain ⟨xs, rfl⟩ := exists_map_of_table (wrap := .point) (fun e he => by cases e <;> cases he; exact ⟨_, rfl⟩) htables
      rw [List.length_map] at hes
      have hne : xs ≠ [] := fun hx => by
        rw [hx, List.length_nil] at hes
        omega
      obtain ⟨hrecord, hbatch⟩ := takeRecord_of_points (first := first) hload hne (hes ▸ hlimit)
      rw [hentries, hrecord, hw', hbatch]
      rfl

end Sys2Proof.Machine
end
